-- ==== Sys2Proof/Word.lean ====
section
/-! DEFINITION. The word types of the ZC410: the units that the manual itself treats as bits. -/

namespace Sys2Proof

/-- One byte of a frame payload (R25). -/
abbrev Byte := BitVec 8

/-- A unit's identity on the line: bits 15-11 the origin station, bits 10-0 the sequence number (R30). -/
abbrev Tag := BitVec 16

/-- A profile item's four-byte value, most significant byte first (R28). -/
abbrev ItemValue := BitVec 32

end Sys2Proof
end

