-- ==== Sys2Proof/Syntax.lean ====
section
/-! DEFINITION. The commands of the block: one constructor per row of spec/opcode_table.json, in the table's order.
A row that handles a frame of one kind carries no operand: the frame is the oldest of the receive buffer (R38). -/

namespace Sys2Proof

/-- The two start-limiter instances of R131. -/
inductive LimiterId where
  | drive
  | door
  deriving DecidableEq, Repr

/-- The two millisecond time bases of R158. -/
inductive MsBase where
  | tb0
  | tb1
  deriving DecidableEq, Repr

/-- A command: an operation or an event of the part, whole and indivisible. -/
inductive Instr where
  /-- FULL_RESET: power-on or the RESET pin, with the levels of the strap pins (R2, R23). -/
  | fullReset (station rate : Nat)
  /-- FAULT_INPUT: the safety fault input becomes active (R7). -/
  | faultInput
  /-- FORWARD_COUNT: one forward encoder count, with the entry sensor's level at it (R65 to R68). -/
  | forwardCount (entryOn : Bool)
  /-- REVERSE_COUNT: one reverse encoder count (R66). -/
  | reverseCount
  /-- GAP_CLOSE: the off run has reached GAP_LENGTH (R76). -/
  | gapClose
  /-- LENGTH_CLOSE: the forming head has reached SEGMENT_MAX (R77). -/
  | lengthClose
  /-- ARRIVAL_AT_T: ARMED arrivals have reached the transfer distance (R101). -/
  | arrivalAtT
  /-- WALK_PASS_QUEUED: the edge advance has reached ZONE_LENGTH (R59). -/
  | walkPassQueued
  /-- GAP_RUN_END: the gap run count has reached GAP_RUN (R137). -/
  | gapRunEnd
  /-- TRANSMIT_START: the line has become IDLE, or a frame waits on the idle line (R31). -/
  | transmitStart
  /-- ARBITRATION_LOSS: dominant read where recessive was driven, at this bit (0 to 11) of class, kind and origin (R32). -/
  | arbitrationLoss (bit : Nat)
  /-- BIT_ERROR: any other mismatch, at this bit of the frame counted from the start bit (R33). -/
  | bitError (bit : Nat)
  /-- ACKNOWLEDGE_SLOT: the end of the acknowledge slot of the own frame, and whether dominant was read (R34). -/
  | acknowledgeSlot (dominant : Bool)
  /-- FRAME_RECEIVED: the bits of another node's frame from class to check field, recessive as true (R36, R37). -/
  | frameReceived (bits : List Bool)
  /-- HOLD: the oldest frame is a HOLD and is handled (R47). -/
  | hold
  /-- STATUS: the oldest frame is a STATUS and is handled (R48). -/
  | status
  /-- WALK_PASS: the oldest frame is a WALK_PASS and is handled (R56). -/
  | walkPass
  /-- WALK_SEEN: the oldest frame is a WALK_SEEN and is handled (R60). -/
  | walkSeen
  /-- OFFER: the oldest frame is an OFFER and is handled (R97). -/
  | offer
  /-- TAKE: the oldest frame is a TAKE and is handled (R92). -/
  | take
  /-- PASS: the oldest frame is a PASS and is handled (R99). -/
  | pass
  /-- PROFILE: the oldest frame is a PROFILE and is handled (R17). -/
  | profile
  /-- PROFILE_END: the oldest frame is a PROFILE_END and is handled (R18). -/
  | profileEnd
  /-- WALK_START: the oldest frame is a WALK_START and is handled (R55). -/
  | walkStart
  /-- WALK_END: the oldest frame is a WALK_END and is handled (R12). -/
  | walkEnd
  /-- RUN: the oldest frame is a RUN and is handled (R9). -/
  | run
  /-- STOP: the oldest frame is a STOP and is handled (R10). -/
  | stop
  /-- LOT: the oldest frame is a LOT and is handled (R80). -/
  | lot
  /-- FAULT_CLEAR: the oldest frame is a FAULT_CLEAR and is handled (R13). -/
  | faultClear
  /-- RESTART: the oldest frame is a RESTART and is handled (R14). -/
  | restart
  /-- REPORT_ASK: the oldest frame is a REPORT_ASK and is handled (R190). -/
  | reportAsk
  /-- EVENT_RECEIVED: the oldest frame is another station's EVENT and is handled (R38). -/
  | eventReceived
  /-- REPORT_RECEIVED: the oldest frame is another station's REPORT and is handled (R38). -/
  | reportReceived
  /-- STATUS_TIMER_EXPIRY: the status timer expires (R51). -/
  | statusTimerExpiry
  /-- PEER_STALE: the entry of this node exceeds the staleness age (R49). -/
  | peerStale (node : Nat)
  /-- SAMPLE_EXPIRY: the sample timer expires, with the converted readings of PROBE0 to PROBE3 (R108, R109). -/
  | sampleExpiry (probe0 probe1 probe2 probe3 : Int)
  /-- THROTTLE_STEP: the throttle count has reached THROTTLE_INTERVAL (R136). -/
  | throttleStep
  /-- OFFER_REPLY_EXPIRY: the reply deadline of the record with this tag passes (R91). -/
  | offerReplyExpiry (tag : Tag)
  /-- RESERVATION_EXPIRY: the reservation with this tag has outlived RESERVE_LIMIT (R98). -/
  | reservationExpiry (tag : Tag)
  /-- DEFERRAL_EXPIRY: the deferred request of this limiter reaches its expiry (R132). -/
  | deferralExpiry (limiter : LimiterId)
  /-- DOOR_CYCLE_COMPLETION: the OPEN door cycle reaches its end time (R183). -/
  | doorCycleCompletion
  /-- DEFROST_INTERVAL_EXPIRY: the interval timer expires (R147). -/
  | defrostIntervalExpiry
  /-- DEFROST_COMPLETION: the defrost cycle reaches its end time (R152). -/
  | defrostCompletion
  /-- TIME_BASE_TICK: one millisecond of TB0 or TB1 (R158). -/
  | timeBaseTick (base : MsBase)
  /-- ONE_SHOT_TICK: one millisecond of this channel's one-shot (R168). -/
  | oneShotTick (channel : Nat)
  /-- FAULT_INPUT_INACTIVE: the safety fault input goes inactive (R7). -/
  | faultInputInactive
  /-- LINE_BUSY: another node's start bit is read on the idle line (R24). -/
  | lineBusy
  deriving DecidableEq, Repr

end Sys2Proof
end

