-- ==== Sys2Proof/Decode.lean ====
section
/-! DEFINITION. The command a word spells. The opcode table of this block gives no row any bits. -/

namespace Sys2Proof

/-- No row of spec/opcode_table.json has a pattern of bits: its commands are events of pins, timers, the belt and the
line, so no word spells one. -/
def decodeTableWord (nbits w : Nat) : Option Instr :=
  match nbits, w with
  | _, _ => none

end Sys2Proof
end

