-- ==== Sys2Proof/Config.lean ====
section
/-! DEFINITION. The free values: what the manual leaves open while the part goes on. None has a body. -/

namespace Sys2Proof

/-- FREE VALUE. Whether the removing segment window of a channel takes an accepted forward count before the packing unit
does. R174 says that the two are not ranked. The first argument numbers the counts on which both can act, the second is
the channel. Log entry 10. -/
opaque Config.windowTakesCountFirst : Nat → Nat → Bool

/-- FREE VALUE. The datum of an EVENT DEFROST_OVERDUE that finds no cycle in flight: R147 gives the datum for a
NORMAL and for a PANIC cycle only. Log entry 25. -/
opaque Config.overdueDatumWithoutCycle : BitVec 16

end Sys2Proof
end

