-- ==== Sys2Proof/Machine/State.lean ====
section
/-! DEFINITION. The state of one ZC410, block by block as section 0.3 of the manual lays it out, and its reset value. -/

namespace Sys2Proof.Machine

open Sys2Proof

/-- The reasons a step could stop with a fault. The manual gives the part no event at which it stops without a next
state, so there is none. Safe: no run of the model ends in one. -/
inductive Fault where
  deriving DecidableEq, Repr

/-- The reasons a step could be refused. -/
inductive Refusal where
  /-- Raised by `exec` for a command that has no meaning yet. Safe: nothing is claimed of it. -/
  | notModelled (mnemonic : String)
  deriving DecidableEq, Repr

/-! ### Station control (chapter 1) -/

/-- The eight station states of R5. -/
inductive StationState where
  | joining
  | profiled
  | walking
  | ready
  | running
  | draining
  | faulted
  | quiet
  deriving DecidableEq, Repr

/-- The six roles of R3. -/
inductive Role where
  | convey
  | blanch
  | chill
  | freeze
  | bag
  | transfer
  deriving DecidableEq, Repr

/-- A profile: item numbers with their values, at most one value per item, in increasing item number (R16, R17). -/
abbrev Profile := List (Nat × ItemValue)

/-- Station control apart from the station state. -/
structure StationControl where
  /-- station number as read from the straps (R2) -/
  number : Nat
  /-- link rate code as read from the straps (R2) -/
  rateCode : Nat
  pendingProfile : Profile
  frozen : Option Profile
  faultLatch : Bool
  deriving DecidableEq, Repr

/-! ### The line link (chapter 2) -/

/-- The nineteen assigned frame kinds of R27. -/
inductive Kind where
  | hold
  | offer
  | take
  | pass
  | status
  | walkPass
  | walkSeen
  | event
  | report
  | profile
  | profileEnd
  | walkStart
  | walkEnd
  | run
  | stop
  | lot
  | faultClear
  | restart
  | reportAsk
  deriving DecidableEq, Repr

/-- A frame of an assigned kind. Its class and length are those of its kind (R27). -/
structure Frame where
  kind : Kind
  origin : Nat
  target : Nat
  payload : List Byte
  deriving DecidableEq, Repr

/-- One entry of the transmit queue. Its owning block follows from its kind, and its queue age from its place. -/
structure TxEntry where
  frame : Frame
  attempts : Nat
  /-- the entry is the frame in transmission (R31) -/
  sending : Bool
  /-- a line restart was taken while it was in transmission (R45) -/
  severed : Bool
  deriving DecidableEq, Repr

inductive LineCondition where
  | idle
  | busy
  deriving DecidableEq, Repr

structure Link where
  /-- transmit queue, in order of arbitration value (R39) -/
  txq : List TxEntry
  /-- receive buffer, oldest first (R37) -/
  rxq : List Frame
  line : LineCondition
  silencing : Bool
  /-- the station drives dominant in the acknowledge slot of the frame it has just read (R37) -/
  ackDrive : Bool
  deriving DecidableEq, Repr

/-! ### Peer view (chapter 3) -/

/-- One peer table entry (R46). It is heard exactly when it has a time of last frame. -/
structure PeerEntry where
  lastFrame : Option Nat
  /-- stale as last judged (R49): a handled frame, a staleness expiry and acceptance judge it -/
  stale : Bool
  holding : Bool
  state : Nat
  flags : Byte
  deriving DecidableEq, Repr

/-- A running millisecond timer: its period, and the station time of its next expiry. -/
structure Timer where
  period : Nat
  due : Nat
  deriving DecidableEq, Repr

/-- The walk state (R55 to R59). `offSeen` (the sensor has been sampled OFF since WALK_START) and `passSent` (the one
WALK_PASS of R59 has been queued) are what those rules say must be remembered. -/
structure Walk where
  edgeSeen : Bool
  offSeen : Bool
  passOrigin : Nat
  passAdvance : Nat
  edgeAdvance : Nat
  passSent : Bool
  deriving DecidableEq, Repr

/-- The neighbour record (R54). -/
structure Neighbours where
  upstream : Nat
  downstream : Nat
  distance : Nat
  deriving DecidableEq, Repr

structure PeerView where
  /-- the entry of node n is at index n - 1 -/
  peers : Vector PeerEntry 31
  statusTimer : Option Timer
  chainLoad : Bool
  chainDefrost : Bool
  neighbours : Neighbours
  walk : Option Walk
  deriving DecidableEq, Repr

/-! ### Tracking (chapter 4) and handover (chapter 5) -/

inductive UnitKind where
  | segment
  | bag
  deriving DecidableEq, Repr

/-- The offer phase of an OFFERED record, with the reply deadline while WAITING. -/
inductive OfferPhase where
  | sending
  | waiting (deadline : Nat)
  | resting
  deriving DecidableEq, Repr

/-- Handover state of a record (R69). -/
inductive HandoverState where
  | localUnit
  | offered (phase : OfferPhase)
  | taken
  | passed
  deriving DecidableEq, Repr

/-- A unit record (R69). The disposition is held as its code (R70), since the line carries it as a byte. -/
structure UnitRecord where
  tag : Tag
  kind : UnitKind
  lot : Nat
  head : Nat
  length : Nat
  mass : Nat
  dose : Option Nat
  dwell : Option Nat
  disposition : Nat
  blanchMade : Bool
  dwellMade : Bool
  forming : Bool
  handover : HandoverState
  attempts : Nat
  deriving DecidableEq, Repr

/-- A segment that forms merge-bound (R81): its merge-bound length, and the tag, lot and disposition of its start. -/
structure MergeBound where
  tag : Tag
  lot : Nat
  disposition : Nat
  length : Nat
  deriving DecidableEq, Repr

structure Tracking where
  /-- the zone queue, furthest downstream first (R71) -/
  zone : List UnitRecord
  mergeBound : Option MergeBound
  offRun : Nat
  reverseDebt : Nat
  tagSeq : Nat
  currentLot : Nat
  deriving DecidableEq, Repr

/-- The unit image of OFFER and PASS frames (R30). -/
structure UnitImage where
  tag : Tag
  kind : UnitKind
  lot : Nat
  length : Nat
  mass : Nat
  dose : Option Nat
  dwell : Option Nat
  disposition : Nat
  blanchMade : Bool
  dwellMade : Bool
  deriving DecidableEq, Repr

/-- An arrival entry (R96). Its tag is its image's tag. -/
structure Arrival where
  armed : Bool
  image : UnitImage
  created : Nat
  advance : Nat
  deriving DecidableEq, Repr

/-! ### Dose unit (chapter 6) -/

/-- A probe record's changing part (R107, R109). Whether it is used, and its range, follow from the frozen profile,
and whether it is stale from these two fields (R110). -/
structure Probe where
  value : Option Int
  invalidRun : Nat
  deriving DecidableEq, Repr

structure DoseUnit where
  sampleTimer : Option Timer
  probes : Vector Probe 4
  deriving DecidableEq, Repr

/-! ### Flow unit (chapter 7) -/

/-- The five holding reasons of R126. The holding flag is set while any is. -/
structure Reasons where
  level : Bool
  idle : Bool
  fault : Bool
  defrost : Bool
  door : Bool
  deriving DecidableEq, Repr

/-- A start limiter (R131): grant times oldest first, last stop time, and the expiry of a deferred request. -/
structure Limiter where
  history : List Nat
  lastStop : Option Nat
  deferred : Option Nat
  deriving DecidableEq, Repr

structure FlowUnit where
  reasons : Reasons
  drive : Bool
  driveLimiter : Limiter
  doorLimiter : Limiter
  duty : Nat
  throttleCount : Nat
  /-- the count of the gap run in progress, if any (R137) -/
  gapRun : Option Nat
  loadInput : Nat
  loadFilter : Nat
  loadHigh : Bool
  deriving DecidableEq, Repr

/-! ### Defrost controller (chapter 8) -/

inductive CycleKind where
  | normal
  | panic
  deriving DecidableEq, Repr

/-- A defrost cycle in flight (R149). -/
structure DefrostCycle where
  kind : CycleKind
  endTime : Nat
  deriving DecidableEq, Repr

structure DefrostController where
  debt : Nat
  intervalElapsed : Nat
  overdueStay : Bool
  want : Bool
  /-- none is the cycle state IDLE; defrost_active is set while a cycle is in flight -/
  cycle : Option DefrostCycle
  deriving DecidableEq, Repr

/-! ### Actuator channels (chapter 9) -/

/-- A channel's run state (R156, R170). -/
inductive RunState where
  | stopped
  | running
  | forced
  deriving DecidableEq, Repr

/-- Progress of a ONE_PULSE channel (R161). -/
inductive PulsePhase where
  | awaitingRise
  | awaitingFall
  | inert
  deriving DecidableEq, Repr

/-- The changing part of one channel. `level` is what the compare modes and EVENT_PULSE have made of the output,
`out` is the level of the output pin. -/
structure Channel where
  run : RunState
  level : Bool
  latched : Bool
  phase : PulsePhase
  oneShot : Option Nat
  /-- the one-shot has risen at A in its present run (R168) -/
  rose : Bool
  out : Bool
  deriving DecidableEq, Repr

/-- The channels and their bases. A stopped base is none. -/
structure Channels where
  chans : Vector Channel 6
  tb0 : Option Nat
  tb1 : Option Nat
  belt : Option Nat
  deriving DecidableEq, Repr

/-! ### Packing unit (chapter 10) -/

structure Bag where
  number : Nat
  lot : Nat
  mass : Nat
  deriving DecidableEq, Repr

structure Carrier where
  number : Nat
  lot : Nat
  count : Nat
  disposition : Nat
  deriving DecidableEq, Repr

/-- A carrier of the door list. -/
structure DoorEntry where
  number : Nat
  disposition : Nat
  deriving DecidableEq, Repr

inductive DoorCycle where
  | idle
  | requested
  | opened (endTime : Nat)
  deriving DecidableEq, Repr

structure Packing where
  openBag : Option Bag
  nextBag : Nat
  openCarrier : Option Carrier
  nextCarrier : Nat
  doorList : List DoorEntry
  door : DoorCycle
  deriving DecidableEq, Repr

/-! ### Counters (chapter 11) -/

/-- The sixteen counters in page order (R189). -/
structure Counters where
  merged : Nat
  orphans : Nat
  arrivalMiss : Nat
  reserveExpired : Nat
  untakenPass : Nat
  diverted : Nat
  verdictFail : Nat
  probeStale : Nat
  txDrop : Nat
  linkDrop : Nat
  rxOverrun : Nat
  startDeferred : Nat
  defrostDone : Nat
  defrostAborted : Nat
  bagsClosed : Nat
  carriersStored : Nat
  deriving DecidableEq, Repr

/-! ### The whole station -/

/-- The encoder pair (A, B) as last read (R65). -/
structure EncoderPair where
  a : Bool
  b : Bool
  deriving DecidableEq, Repr

/-- One ZC410, and the commands that wait for it. -/
structure State where
  /-- station state (R5) -/
  mode : StationState
  station : StationControl
  link : Link
  peer : PeerView
  tracking : Tracking
  /-- the arrivals list, oldest first (R96) -/
  arrivals : List Arrival
  dose : DoseUnit
  flow : FlowUnit
  defrost : DefrostController
  channels : Channels
  packing : Packing
  counters : Counters
  /-- level of the safety fault input pin (R7) -/
  faultIn : Bool
  encoder : EncoderPair
  /-- station time, milliseconds (section 0.6.1) -/
  now : Nat
  /-- the MODEL's own field: on how many counts `Config.windowTakesCountFirst` has been drawn -/
  orderDraws : Nat
  /-- the commands that wait, first in, first out -/
  pending : List Instr
  deriving DecidableEq, Repr

/-! ### Reset -/

/-- An unheard peer entry (R46, R49). -/
def unheardPeer : PeerEntry := ⟨none, true, false, 0, 0#8⟩

/-- A limiter after full reset (R142). -/
def freshLimiter : Limiter := ⟨[], none, none⟩

/-- A channel that is STOPPED, its progress discarded, its output inactive (R156). -/
def stoppedChannel : Channel := ⟨.stopped, false, false, .awaitingRise, none, false, false⟩

/-- Link controller after full reset (R44). -/
def resetLink : Link := ⟨[], [], .busy, false, false⟩

/-- Peer view after full reset into JOINING at station time `t` (R51, R63). -/
def resetPeerView (t : Nat) : PeerView :=
  { peers := Vector.replicate 31 unheardPeer
    statusTimer := some ⟨1000, t + 1000⟩
    chainLoad := false
    chainDefrost := false
    neighbours := ⟨0, 0, 0⟩
    walk := none }

/-- Tracking unit after full reset (R85). -/
def resetTracking : Tracking := ⟨[], none, 0, 0, 0, 0⟩

/-- Dose unit after full reset (R123). -/
def resetDose : DoseUnit := ⟨none, Vector.replicate 4 ⟨none, 0⟩⟩

/-- Flow unit after full reset into JOINING, which holds for IDLE alone (R142). -/
def resetFlow : FlowUnit :=
  { reasons := ⟨false, true, false, false, false⟩
    drive := false
    driveLimiter := freshLimiter
    doorLimiter := freshLimiter
    duty := 0
    throttleCount := 0
    gapRun := none
    loadInput := 0
    loadFilter := 0
    loadHigh := false }

/-- Defrost controller after full reset (R154). -/
def resetDefrost : DefrostController := ⟨0, 0, false, false, none⟩

/-- Channels after full reset (R172). -/
def resetChannels : Channels := ⟨Vector.replicate 6 stoppedChannel, none, none, none⟩

/-- Packing unit after full reset (R185). -/
def resetPacking : Packing := ⟨none, 0, none, 0, [], .idle⟩

/-- Every counter 0 (R189). -/
def resetCounters : Counters := ⟨0, 0, 0, 0, 0, 0, 0, 0, 0, 0, 0, 0, 0, 0, 0, 0⟩

/-- The station right after full reset into JOINING with the fault input inactive (R23, R44, R63, R85, R105, R123,
R142, R154, R172, R185, R189). DESIGN CHOICE (log entries 2, 3 and 4): the straps read station number 1 and rate code
0, the fault input and the encoder inputs are inactive, and station time is 0. -/
def State.reset : State :=
  { mode := .joining
    station := ⟨1, 0, [], none, false⟩
    link := resetLink
    peer := resetPeerView 0
    tracking := resetTracking
    arrivals := []
    dose := resetDose
    flow := resetFlow
    defrost := resetDefrost
    channels := resetChannels
    packing := resetPacking
    counters := resetCounters
    faultIn := false
    encoder := ⟨false, false⟩
    now := 0
    orderDraws := 0
    pending := [] }

end Sys2Proof.Machine
end

