-- ==== Sys2Proof/Machine/Operands.lean ====
section
/-! DEFINITION. What frames and their payloads are made of: bytes, bits, kinds, the check field, unit images (R25 to
R30), and how a received run of bits is read (R36). -/

namespace Sys2Proof.Machine

open Sys2Proof

/-! ### Arithmetic of section 0.6 -/

/-- A quantity that saturates at 65,535. -/
def sat16 (n : Nat) : Nat := min n 65535

/-- A quantity that saturates at 16,777,215. -/
def sat24 (n : Nat) : Nat := min n 16777215

/-- "Round" of the non-negative quotient `n / d`: half up (R1). -/
def roundDiv (n d : Nat) : Nat := (2 * n + d) / (2 * d)

/-- The non-negative quotient `n / d` rounded up (R132). -/
def ceilDiv (n d : Nat) : Nat := (n + d - 1) / d

/-! ### Bytes -/

def byteOf (n : Nat) : Byte := BitVec.ofNat 8 n

/-- Two bytes, most significant first (R28). -/
def be16 (n : Nat) : List Byte := [byteOf (n / 256), byteOf n]

/-- Three bytes, most significant first (R28). -/
def be24 (n : Nat) : List Byte := [byteOf (n / 65536), byteOf (n / 256), byteOf n]

/-- Byte `i` of a payload as a number. -/
def payloadByte (p : List Byte) (i : Nat) : Nat := (p.getD i 0#8).toNat

/-- The number in bytes `i` and `i + 1` of a payload (R28). -/
def payload16 (p : List Byte) (i : Nat) : Nat := 256 * payloadByte p i + payloadByte p (i + 1)

/-- The number in bytes `i` to `i + 2` of a payload (R28). -/
def payload24 (p : List Byte) (i : Nat) : Nat := 256 * payload16 p i + payloadByte p (i + 2)

/-- The four-byte profile value that starts at byte `i` (R28). -/
def payloadValue (p : List Byte) (i : Nat) : ItemValue :=
  BitVec.ofNat 32 (65536 * payload16 p i + payload16 p (i + 2))

/-! ### Tags and unit images (R30) -/

/-- The tag of an origin station and a sequence number. -/
def mkTag (origin seq : Nat) : Tag := BitVec.ofNat 16 (2048 * origin + seq)

/-- Byte 16 of a unit image: unit kind, presence and verdict flags. -/
def imageFlags (m : UnitImage) : Nat :=
  (decide (m.kind = .bag)).toNat + 2 * m.dose.isSome.toNat + 4 * m.dwell.isSome.toNat
    + 8 * m.blanchMade.toNat + 16 * m.dwellMade.toNat

/-- The 16 bytes of a unit image. -/
def imageBytes (m : UnitImage) : List Byte :=
  be16 m.tag.toNat ++ be16 m.lot ++ be16 m.length ++ be16 m.mass ++ be24 (m.dose.getD 0) ++ be24 (m.dwell.getD 0)
    ++ [byteOf m.disposition, byteOf (imageFlags m)]

/-- The unit image that 16 bytes carry. A dose or dwell whose presence flag is clear is absent. The disposition byte
is taken as it stands (log entry 21). -/
def imageOf (p : List Byte) : UnitImage :=
  let flags := payloadByte p 15
  { tag := BitVec.ofNat 16 (payload16 p 0)
    kind := if flags.testBit 0 then .bag else .segment
    lot := payload16 p 2
    length := payload16 p 4
    mass := payload16 p 6
    dose := if flags.testBit 1 then some (payload24 p 8) else none
    dwell := if flags.testBit 2 then some (payload24 p 11) else none
    disposition := payloadByte p 14
    blanchMade := flags.testBit 3
    dwellMade := flags.testBit 4 }

/-- The image of a record as it stands (R89). A forming record carries its head as its length and a mass of 0. -/
def recordImage (r : UnitRecord) : UnitImage :=
  { tag := r.tag
    kind := r.kind
    lot := r.lot
    length := if r.forming then r.head else r.length
    mass := if r.forming then 0 else r.mass
    dose := r.dose
    dwell := r.dwell
    disposition := r.disposition
    blanchMade := r.blanchMade
    dwellMade := r.dwellMade }

/-! ### Kinds (R27) -/

def kindCode : Kind → Nat
  | .hold => 1
  | .offer => 2
  | .take => 3
  | .pass => 4
  | .status => 5
  | .walkPass => 6
  | .walkSeen => 7
  | .event => 8
  | .report => 9
  | .profile => 16
  | .profileEnd => 17
  | .walkStart => 18
  | .walkEnd => 19
  | .run => 20
  | .stop => 21
  | .lot => 22
  | .faultClear => 23
  | .restart => 24
  | .reportAsk => 25

/-- The kind of a code, none for the unassigned codes 0, 10 to 15 and 26 to 31. -/
def kindOf : Nat → Option Kind
  | 1 => some .hold
  | 2 => some .offer
  | 3 => some .take
  | 4 => some .pass
  | 5 => some .status
  | 6 => some .walkPass
  | 7 => some .walkSeen
  | 8 => some .event
  | 9 => some .report
  | 16 => some .profile
  | 17 => some .profileEnd
  | 18 => some .walkStart
  | 19 => some .walkEnd
  | 20 => some .run
  | 21 => some .stop
  | 22 => some .lot
  | 23 => some .faultClear
  | 24 => some .restart
  | 25 => some .reportAsk
  | _ => none

/-- The class of a kind: 0 urgent, 1 handover, 2 line state, 3 service. -/
def kindClass : Kind → Nat
  | .hold => 0
  | .offer | .take | .pass => 1
  | .status | .walkPass | .walkSeen => 2
  | .event | .report | .profile | .profileEnd | .walkStart | .walkEnd | .run | .stop | .lot | .faultClear
  | .restart | .reportAsk => 3

/-- The payload length of a kind, in bytes. -/
def kindLength : Kind → Nat
  | .hold | .take | .lot => 2
  | .offer | .pass => 16
  | .status => 10
  | .walkPass | .walkStart | .walkEnd | .run | .stop | .faultClear | .restart => 0
  | .walkSeen => 3
  | .event | .profile => 5
  | .report => 9
  | .profileEnd | .reportAsk => 1

/-- The arbitration value of a frame (R25). The lower value is the higher priority. -/
def arbitration (f : Frame) : Nat := 1024 * kindClass f.kind + 32 * kindCode f.kind + f.origin

/-! ### Bits of a frame (R25, R26). Recessive is 1, held as true. -/

/-- The low `width` bits of `n`, most significant first. -/
def natBits : Nat → Nat → List Bool
  | 0, _ => []
  | width + 1, n => n.testBit width :: natBits width n

/-- The number that a run of bits spells, most significant first. -/
def bitsNat (bits : List Bool) : Nat := bits.foldl (fun n b => 2 * n + b.toNat) 0

/-- One bit shifted into the check register, generator x^16 + x^12 + x^5 + 1: the bit joins the register's top bit, so
that no zero bits follow the last one (R26). PRESUMED: log entry 43. -/
def checkShift (reg : BitVec 16) (bit : Bool) : BitVec 16 :=
  if reg.msb ^^ bit then (reg <<< 1) ^^^ 0x1021#16 else reg <<< 1

/-- The check field over a run of bits: the register starts at all ones and is sent unaltered. -/
def checkField (bits : List Bool) : BitVec 16 := bits.foldl checkShift 0xFFFF#16

/-- Class, kind and origin: the twelve bits that arbitrate. -/
def arbitrationBits (f : Frame) : List Bool :=
  natBits 2 (kindClass f.kind) ++ natBits 5 (kindCode f.kind) ++ natBits 5 f.origin

def payloadBits (p : List Byte) : List Bool := p.flatMap (fun b => natBits 8 b.toNat)

/-- Class through payload: the bits that the check field covers. -/
def coveredBits (f : Frame) : List Bool :=
  arbitrationBits f ++ natBits 5 f.target ++ natBits 5 f.payload.length ++ payloadBits f.payload

/-- The bits a sender drives, from the dominant start bit through the check field. The acknowledge slot and the end
field that follow are recessive. -/
def sentBits (f : Frame) : List Bool :=
  false :: (coveredBits f ++ natBits 16 (checkField (coveredBits f)).toNat)

/-- Bit times that a whole frame occupies on the line. -/
def frameBitTimes (f : Frame) : Nat := (sentBits f).length + 1 + 8

/-! ### Reading a frame (R36) -/

/-- A frame as read from the line, before its tests. -/
structure ReadFrame where
  cls : Nat
  kindField : Nat
  origin : Nat
  target : Nat
  lengthField : Nat
  payload : List Byte
  checkPasses : Bool
  deriving DecidableEq, Repr

/-- The bytes of a run of bits whose length is `8 * n`. -/
def bytesOfBits : Nat → List Bool → List Byte
  | 0, _ => []
  | n + 1, bits => byteOf (bitsNat (bits.take 8)) :: bytesOfBits n (bits.drop 8)

/-- The bits read from class to the end of the check field, taken apart. A run that is not as long as its length
field announces was cut short, and its check fails (R36). -/
def readFrame (bits : List Bool) : ReadFrame :=
  let lengthField := bitsNat ((bits.drop 17).take 5)
  let covered := 22 + 8 * lengthField
  { cls := bitsNat (bits.take 2)
    kindField := bitsNat ((bits.drop 2).take 5)
    origin := bitsNat ((bits.drop 7).take 5)
    target := bitsNat ((bits.drop 12).take 5)
    lengthField := lengthField
    payload := bytesOfBits lengthField ((bits.drop 22).take (8 * lengthField))
    checkPasses := decide (bits.length = covered + 16)
      && decide (bitsNat (bits.drop covered) = (checkField (bits.take covered)).toNat) }

/-- The frame that passes the check, kind, class and length tests of R36, if the bits do. -/
def formedFrame (bits : List Bool) : Option Frame :=
  let r := readFrame bits
  match kindOf r.kindField with
  | none => none
  | some k =>
    if r.checkPasses && decide (r.lengthField ≤ 16) && decide (r.cls = kindClass k)
        && decide (r.lengthField = kindLength k) then
      some ⟨k, r.origin, r.target, r.payload⟩
    else none

end Sys2Proof.Machine
end

