-- ==== Sys2Proof/Machine/Profile.lean ====
section
/-! DEFINITION. Profiles: reading items (R16, R28), the four stages that check a pending profile (R18 to R21), and the
names under which the other blocks read the frozen profile. -/

namespace Sys2Proof.Machine

open Sys2Proof

/-! ### Items -/

/-- The value held for an item. -/
def profileFind (p : Profile) (n : Nat) : Option ItemValue :=
  match p with
  | [] => none
  | (m, v) :: rest => if m = n then some v else profileFind rest n

/-- Stores a value under its item number: it replaces the value held, or joins in increasing item number (R17). -/
def profilePut (p : Profile) (n : Nat) (v : ItemValue) : Profile :=
  match p with
  | [] => [(n, v)]
  | (m, w) :: rest =>
    if n < m then (n, v) :: (m, w) :: rest
    else if n = m then (n, v) :: rest
    else (m, w) :: profilePut rest n v

def itemHeld (p : Profile) (n : Nat) : Bool := (profileFind p n).isSome

/-- An item's value as an unsigned number, 0 when it is not held. -/
def itemNat (p : Profile) (n : Nat) : Nat := ((profileFind p n).getD 0#32).toNat

/-- An item's value as a signed number (items 30, 36 and 41). -/
def itemInt (p : Profile) (n : Nat) : Int := ((profileFind p n).getD 0#32).toInt

/-- Byte `i` (0 to 3, first sent first) of an item's value. -/
def itemByte (p : Profile) (n i : Nat) : Nat := itemNat p n / 256 ^ (3 - i) % 256

/-- The first and the last two bytes of an item's value: start and end, or A and B (R28). -/
def itemHigh (p : Profile) (n : Nat) : Nat := itemNat p n / 65536

def itemLow (p : Profile) (n : Nat) : Nat := itemNat p n % 65536

/-- The mode, base, source and flags fields of CHANNEL_n_MODE (R28). -/
def modeField (p : Profile) (ch : Nat) : Nat := itemByte p (49 + ch) 0
def baseField (p : Profile) (ch : Nat) : Nat := itemByte p (49 + ch) 1
def sourceField (p : Profile) (ch : Nat) : Nat := itemByte p (49 + ch) 2
def flagsField (p : Profile) (ch : Nat) : Nat := itemByte p (49 + ch) 3

/-! ### Roles and line positions (R3, R4) -/

def roleOf : Nat → Option Role
  | 0 => some .convey
  | 1 => some .blanch
  | 2 => some .chill
  | 3 => some .freeze
  | 4 => some .bag
  | 5 => some .transfer
  | _ => none

/-- The role a profile names, if ROLE is held with one of its codes. -/
def profileRole (p : Profile) : Option Role := (profileFind p 1).bind (fun v => roleOf v.toNat)

/-- The line position a profile holds, if it is one of its codes. -/
def profilePosition (p : Profile) : Option Nat :=
  (profileFind p 2).bind (fun v => if v.toNat ≤ 3 then some v.toNat else none)

def isHeadPosition (pos : Nat) : Bool := decide (pos = 1) || decide (pos = 3)
def isTailPosition (pos : Nat) : Bool := decide (pos = 2) || decide (pos = 3)

/-- The profile holds a line position of which `test` holds. -/
def positionIs (p : Profile) (test : Nat → Bool) : Bool := (profilePosition p).any test

/-- The profile holds a role that is one of these. -/
def roleIn (p : Profile) (roles : List Role) : Bool := (profileRole p).any (fun r => decide (r ∈ roles))

def thermalRoles : List Role := [.blanch, .chill, .freeze]

/-! ### Stage 2: required items (R19) -/

/-- Some channel is held with a mode field of 1 to 6 and this base field. -/
def baseUsed (p : Profile) (base : Nat) : Bool :=
  (List.range 6).any fun ch =>
    itemHeld p (49 + ch) && decide (1 ≤ modeField p ch) && decide (modeField p ch ≤ 6) && decide (baseField p ch = base)

/-- Whether the profile's held values require item `n`, apart from the probe ranges 26 to 29. -/
def itemRequired (p : Profile) (n : Nat) : Bool :=
  if n = 1 || n = 2 || n = 3 || n = 5 || n = 6 || n = 7 || n = 8 || n = 17 || n = 18 || n = 19 then true
  else if n = 4 then positionIs p (fun pos => !isTailPosition pos)
  else if n = 9 || n = 10 then (profileRole p).any (fun r => decide (r ≠ .blanch))
  else if n = 11 || n = 15 || n = 16 then positionIs p (fun pos => !isHeadPosition pos)
  else if 20 ≤ n && n ≤ 25 then positionIs p isHeadPosition
  else if 30 ≤ n && n ≤ 33 then roleIn p [.blanch]
  else if n = 34 || n = 35 then roleIn p thermalRoles
  else if n = 36 || n = 37 then roleIn p [.chill, .freeze]
  else if 38 ≤ n && n ≤ 48 then roleIn p [.freeze]
  else if 55 ≤ n && n ≤ 60 then
    itemHeld p (n - 6) && decide (1 ≤ modeField p (n - 55)) && decide (modeField p (n - 55) ≤ 8)
  else if 61 ≤ n && n ≤ 66 then itemHeld p (n - 12) && decide (modeField p (n - 61) = 7)
  else if n = 67 then baseUsed p 1
  else if n = 68 then baseUsed p 2
  else if 69 ≤ n && n ≤ 72 then roleIn p [.bag]
  else if 73 ≤ n && n ≤ 77 then roleIn p [.transfer]
  else false

/-- A thermal role without a used probe range fails the stage at item 26. -/
def probeRangeMissing (p : Profile) : Bool :=
  roleIn p thermalRoles && (List.range 4).all (fun i => decide (itemNat p (26 + i) = 0))

/-- The lowest-numbered item that is required and not held. -/
def requiredFailure (p : Profile) : Option Nat :=
  ((List.range 77).map (· + 1)).find? fun n =>
    (itemRequired p n && !itemHeld p n) || (decide (n = 26) && probeRangeMissing p)

/-! ### Stage 3: ranges (R20) -/

/-- Min and Max of the single-field items (table of R16). -/
def itemBounds : Nat → Option (Int × Int)
  | 1 => some (0, 5)
  | 2 => some (0, 3)
  | 3 => some (256, 65535)
  | 4 => some (1, 65535)
  | 5 => some (100, 5000)
  | 6 => some (20, 1000)
  | 7 => some (2, 24)
  | 8 => some (0, 23)
  | 9 => some (0, 600000)
  | 10 => some (0, 60000)
  | 11 => some (100, 60000)
  | 12 => some (1, 29)
  | 13 => some (1, 29)
  | 14 => some (1, 65535)
  | 15 => some (1, 4095)
  | 16 => some (1, 65535)
  | 17 => some (1, 65535)
  | 18 => some (64, 4095)
  | 19 => some (8, 1023)
  | 20 => some (0, 5)
  | 21 => some (1, 64)
  | 22 => some (1, 16)
  | 23 => some (0, 63)
  | 24 => some (1, 255)
  | 25 => some (1, 65535)
  | 30 => some (-600, 1300)
  | 31 => some (10, 500)
  | 32 => some (1, 16777215)
  | 33 => some (1, 16777215)
  | 34 => some (1, 65535)
  | 35 => some (1, 50)
  | 36 => some (-600, 1300)
  | 37 => some (1, 16777215)
  | 38 => some (0, 7)
  | 39 => some (1, 65535)
  | 40 => some (1, 65535)
  | 41 => some (-600, 1300)
  | 42 => some (1, 255)
  | 43 => some (1, 8)
  | 44 => some (1, 8)
  | 45 => some (1, 8)
  | 46 => some (1, 8)
  | 47 => some (10, 3600)
  | 48 => some (0, 8)
  | 61 => some (0, 1023)
  | 62 => some (0, 1023)
  | 63 => some (0, 1023)
  | 64 => some (0, 1023)
  | 65 => some (0, 1023)
  | 66 => some (0, 1023)
  | 67 => some (1, 65535)
  | 68 => some (1, 65535)
  | 69 => some (1, 65535)
  | 70 => some (50, 50000)
  | 71 => some (0, 5000)
  | 72 => some (16, 4095)
  | 73 => some (1, 65535)
  | 74 => some (1, 64)
  | 75 => some (1000, 120000)
  | 76 => some (0, 3600000)
  | 77 => some (0, 600000)
  | _ => none

/-- The three temperature items, read in two's complement (R28). -/
def signedItem (n : Nat) : Bool := decide (n = 30) || decide (n = 36) || decide (n = 41)

/-- One held item meets the tests of R20. -/
def itemInRange (p : Profile) (n : Nat) : Bool :=
  if 26 ≤ n && n ≤ 29 then decide (itemNat p n = 0) || decide (itemHigh p n < itemLow p n)
  else if 49 ≤ n && n ≤ 54 then
    decide (modeField p (n - 49) ≤ 9) && decide (baseField p (n - 49) ≤ 2) && decide (sourceField p (n - 49) ≤ 6)
      && decide (flagsField p (n - 49) ≤ 3)
  else if 55 ≤ n && n ≤ 60 then true
  else
    match itemBounds n with
    | none => false
    | some (lo, hi) =>
      let v : Int := if signedItem n then itemInt p n else (itemNat p n : Int)
      decide (lo ≤ v) && decide (v ≤ hi)

/-- The first held item, from the lowest number upward, that fails the range stage. -/
def rangeFailure (p : Profile) : Option Nat := (p.map (·.1)).find? (fun n => !itemInRange p n)

/-! ### Stage 4: cross-checks (R21) -/

/-- Every one of these items is held. -/
def allHeld (p : Profile) (items : List Nat) : Bool := items.all (itemHeld p)

/-- Two used probe ranges share a position. -/
def rangesShare (p : Profile) (m n : Nat) : Bool :=
  decide (itemHigh p m < itemLow p n) && decide (itemHigh p n < itemLow p m)

/-- The check of one probe range item. -/
def probeRangeCheck (p : Profile) (n : Nat) : Bool :=
  if itemNat p n = 0 then true
  else
    (!itemHeld p 3 || decide (itemLow p n ≤ itemNat p 3))
      && ((List.range (n - 26)).all fun i =>
        decide (itemNat p (26 + i) = 0) || !rangesShare p (26 + i) n)

/-- The limit that VERDICT_POINT + floor(SEGMENT_MAX / 2) must stay below: the offer point, or ZONE_LENGTH at a tail. -/
def verdictCheck (p : Profile) : Bool :=
  (!allHeld p [34, 3] || decide (itemNat p 34 ≤ itemNat p 3))
    && (if roleIn p thermalRoles && allHeld p [34, 18, 3] then
          if positionIs p isTailPosition then decide (itemNat p 34 + itemNat p 18 / 2 < itemNat p 3)
          else !itemHeld p 4 || decide (itemNat p 34 + itemNat p 18 / 2 < itemNat p 3 - itemNat p 4)
        else true)

/-- A CHANNEL_n_COMPARE item against its channel's mode. -/
def compareCheck (p : Profile) (ch : Nat) : Bool :=
  let isInfeed := positionIs p isHeadPosition && itemHeld p 20 && decide (itemNat p 20 = ch)
  if !allHeld p [49 + ch, 55 + ch] then true
  else if modeField p ch = 6 then
    isInfeed || (decide (1 ≤ itemHigh p (55 + ch)) && decide (itemHigh p (55 + ch) ≤ 64))
  else if modeField p ch = 7 && (flagsField p ch).testBit 0 && itemHeld p 19 then
    decide (itemLow p (55 + ch) > itemNat p 19)
  else true

/-- The check named for an item in the table of R21, true where none is. DEDUCED: log entry 26. -/
def crossCheck (p : Profile) (n : Nat) : Bool :=
  if n = 2 then !(allHeld p [1, 2] && roleIn p [.blanch] && positionIs p isTailPosition)
  else if n = 4 then !allHeld p [4, 3] || decide (itemNat p 4 ≤ itemNat p 3 - 1)
  else if n = 8 then !allHeld p [8, 7] || decide (itemNat p 8 ≤ itemNat p 7 - 1)
  else if n = 12 then !(itemHeld p 12 && positionIs p isHeadPosition)
  else if n = 13 then !(itemHeld p 13 && positionIs p isTailPosition)
  else if n = 14 then !itemHeld p 14 || itemHeld p 12
  else if n = 20 then !itemHeld p 20 || (itemHeld p (49 + itemNat p 20) && decide (modeField p (itemNat p 20) = 6))
  else if n = 23 then !allHeld p [23, 21] || decide (itemNat p 23 < itemNat p 21)
  else if 26 ≤ n && n ≤ 29 then probeRangeCheck p n
  else if n = 33 then !allHeld p [32, 33] || decide (itemNat p 32 ≤ itemNat p 33)
  else if n = 34 then verdictCheck p
  else if n = 40 then !allHeld p [40, 39] || decide (itemNat p 40 ≤ itemNat p 39)
  else if n = 44 then !allHeld p [43, 44] || decide (itemNat p 43 < itemNat p 44)
  else if n = 45 then !allHeld p [44, 45] || decide (itemNat p 44 < itemNat p 45)
  else if n = 46 then
    !allHeld p [43, 44, 46] || (decide (itemNat p 43 ≤ itemNat p 46) && decide (itemNat p 46 ≤ itemNat p 44))
  else if 49 ≤ n && n ≤ 54 then
    !itemHeld p n || !(decide (modeField p (n - 49) = 6) && decide (baseField p (n - 49) = 0))
  else if 55 ≤ n && n ≤ 60 then compareCheck p (n - 55)
  else if n = 69 then
    (!allHeld p [69, 3] || decide (itemNat p 69 ≤ itemNat p 3 - 1))
      && (!allHeld p [69, 19] || decide (itemNat p 69 > itemNat p 19))
  else if n = 72 then !allHeld p [69, 72, 3] || decide (itemNat p 69 + itemNat p 72 ≤ itemNat p 3)
  else if n = 73 then !allHeld p [73, 3] || decide (itemNat p 73 ≤ itemNat p 3 - 1)
  else true

/-- The lowest item whose cross-check does not hold. -/
def crossFailure (p : Profile) : Option Nat := ((List.range 77).map (· + 1)).find? (fun n => !crossCheck p n)

/-- The first failure of the four stages in order, as (stage, item), or none when the profile passes (R18). -/
def profileFailure (p : Profile) (count : Nat) : Option (Nat × Nat) :=
  if count ≠ p.length then some (1, 0)
  else
    match requiredFailure p with
    | some n => some (2, n)
    | none =>
      match rangeFailure p with
      | some n => some (3, n)
      | none =>
        match crossFailure p with
        | some n => some (4, n)
        | none => none

/-! ### The frozen profile as the blocks read it -/

/-- The frozen profile, empty before acceptance. -/
def State.items (s : State) : Profile := s.station.frozen.getD []

/-- The frozen value of a numbered item, 0 when it is not held. -/
def State.item (s : State) (n : Nat) : Nat := itemNat s.items n

def State.hasProfile (s : State) : Bool := s.station.frozen.isSome

/-- The station's role, none before acceptance (R3). -/
def State.role (s : State) : Option Role := profileRole s.items

def State.hasRole (s : State) (r : Role) : Bool := decide (s.role = some r)

/-- A head, a tail (R4). A station without a profile is neither. -/
def State.isHead (s : State) : Bool := s.hasProfile && isHeadPosition (s.item 2)
def State.isTail (s : State) : Bool := s.hasProfile && isTailPosition (s.item 2)

/-- The role's belt is unstoppable (R3). -/
def State.unstoppable (s : State) : Bool := s.hasRole .blanch

def State.zoneLength (s : State) : Nat := s.item 3
def State.offerLead (s : State) : Nat := s.item 4
/-- The station's own status period: 1,000 ms before acceptance, STATUS_PERIOD after (R49, R51). -/
def State.statusPeriod (s : State) : Nat := if s.hasProfile then s.item 5 else 1000
def State.samplePeriod (s : State) : Nat := s.item 6
def State.holdLevel (s : State) : Nat := s.item 7
def State.releaseLevel (s : State) : Nat := s.item 8
def State.reserveLimit (s : State) : Nat := s.item 11
def State.arrivalTolerance (s : State) : Nat := s.item 15
def State.lengthScale (s : State) : Nat := s.item 16
def State.loading (s : State) : Nat := s.item 17
def State.segmentMax (s : State) : Nat := s.item 18
def State.gapLength (s : State) : Nat := s.item 19
def State.infeedChannel (s : State) : Nat := s.item 20
def State.infeedDuty (s : State) : Nat := s.item 21
def State.throttleStep (s : State) : Nat := s.item 22
def State.throttleFloor (s : State) : Nat := s.item 23
def State.throttleInterval (s : State) : Nat := s.item 24
def State.gapRunLength (s : State) : Nat := s.item 25
def State.verdictPoint (s : State) : Nat := s.item 34
def State.staleLimit (s : State) : Nat := s.item 35
def State.bagPoint (s : State) : Nat := s.item 69
def State.bagPitch (s : State) : Nat := s.item 72
def State.carrierPoint (s : State) : Nat := s.item 73

/-- The offer point (chapter 5): ZONE_LENGTH − OFFER_LEAD. -/
def State.offerPoint (s : State) : Nat := s.zoneLength - s.offerLead

/-- The staleness age (R49). -/
def State.stalenessAge (s : State) : Nat := 3 * s.statusPeriod

/-- The period of the interval timer in milliseconds (R146). -/
def State.defrostPeriod (s : State) : Nat := s.item 42 * 60000

end Sys2Proof.Machine
end

