-- ==== Sys2Proof/Machine/Flags.lean ====
section
/-! DEFINITION. What STATUS and HOLD say of a station (R5, R29, R52), the peer table as the blocks read it (R46, R49),
the counters (R189), and the conditions that several blocks share. -/

namespace Sys2Proof.Machine

open Sys2Proof

/-! ### Station states -/

/-- The state code of R5. QUIET is never reported and has none. It is given the number 7 here
(DESIGN CHOICE: log entry 40). -/
def stateCode : StationState → Nat
  | .joining => 0
  | .profiled => 1
  | .walking => 2
  | .ready => 3
  | .running => 4
  | .draining => 5
  | .faulted => 6
  | .quiet => 7

/-- The states in which the belt may move product: formation runs in them, and IDLE does not hold (R73, R126). -/
def beltState (m : StationState) : Bool := decide (m ∈ [StationState.running, .draining, .walking])

/-- The states in which the channels are live (R156). -/
def liveState (m : StationState) : Bool := decide (m ∈ [StationState.walking, .ready, .running, .draining, .faulted])

/-- The part acts on the belt, the probes and the timers: it holds a profile and is not QUIET (R15, R65). -/
def State.acts (s : State) : Bool := s.hasProfile && decide (s.mode ≠ .quiet)

/-! ### Peers -/

/-- The peer table entry of a node (R46). A number outside 1 to 31 names no node and is never heard. -/
def State.peerEntry (s : State) (node : Nat) : PeerEntry :=
  if h : 1 ≤ node ∧ node ≤ 31 then s.peer.peers[node - 1] else unheardPeer

/-- Replaces the peer table entry of a node. -/
def State.setPeerEntry (s : State) (node : Nat) (e : PeerEntry) : State :=
  if h : 1 ≤ node ∧ node ≤ 31 then { s with peer.peers := s.peer.peers.set (node - 1) e } else s

def State.upstream (s : State) : Nat := s.peer.neighbours.upstream
def State.downstream (s : State) : Nat := s.peer.neighbours.downstream
def State.transferDistance (s : State) : Nat := s.peer.neighbours.distance

/-- The downstream's peer table entry, none when the neighbour record names no downstream (R50). -/
def State.downstreamEntry (s : State) : Option PeerEntry :=
  if s.downstream = 0 then none else some (s.peerEntry s.downstream)

/-- The downstream is holding or stale. A station without a downstream has none that is (R129). -/
def State.downstreamStops (s : State) : Bool := s.downstreamEntry.any (fun e => e.holding || e.stale)

/-- The neighbour record is complete for the line position (R6). -/
def State.neighboursComplete (s : State) : Bool :=
  (s.isHead || (decide (s.upstream ≠ 0) && decide (s.transferDistance ≠ 0))) && (s.isTail || decide (s.downstream ≠ 0))

/-! ### Records -/

/-- A record's tail, its head less its length. It may be negative (R69). -/
def UnitRecord.tail (r : UnitRecord) : Int := (r.head : Int) - r.length

/-- A record's midpoint, its head less floor(length / 2) (R69). -/
def UnitRecord.midpoint (r : UnitRecord) : Int := (r.head : Int) - (r.length / 2 : Nat)

/-- The handover state is OFFERED, in any phase. -/
def HandoverState.isOffered : HandoverState → Bool
  | .offered _ => true
  | _ => false

/-- Raises a disposition to a more severe one and leaves it otherwise (R70). -/
def raiseTo (severe now : Nat) : Nat := max severe now

def State.zoneHolds (s : State) (t : Tag) : Bool := s.tracking.zone.any (fun r => decide (r.tag = t))
def State.arrivalsHold (s : State) (t : Tag) : Bool := s.arrivals.any (fun a => decide (a.image.tag = t))

/-- Queue count and arrivals count, as STATUS carries them. -/
def State.counts (s : State) : Nat × Nat := (s.tracking.zone.length, s.arrivals.length)

/-- A segment is forming, as a record or merge-bound. -/
def State.formingNow (s : State) : Bool := s.tracking.mergeBound.isSome || s.tracking.zone.any (·.forming)

/-! ### Reasons and flags (R29, R126) -/

/-- The holding flag is set while at least one reason holds. -/
def Reasons.holding (r : Reasons) : Bool := r.level || r.idle || r.fault || r.defrost || r.door

def State.holding (s : State) : Bool := s.flow.reasons.holding

/-- The reasons byte of HOLD and STATUS. -/
def Reasons.byte (r : Reasons) : Byte :=
  byteOf (r.level.toNat + 2 * r.idle.toNat + 4 * r.fault.toNat + 8 * r.defrost.toNat + 16 * r.door.toNat)

/-- The door list holds 4 carriers at a TRANSFER station (R126, R129). -/
def State.doorListFull (s : State) : Bool := s.hasRole .transfer && decide (4 ≤ s.packing.doorList.length)

/-- The reason set in force, LEVEL as given (R126). -/
def State.reasonsInForce (s : State) (level : Bool) : Reasons :=
  { level := level
    idle := !beltState s.mode
    fault := decide (s.mode = .faulted)
    defrost := s.defrost.cycle.any (fun c => decide (c.kind = .normal))
    door := s.doorListFull }

/-- The throttled flag: at a head, the current duty is below INFEED_DUTY (R136). -/
def State.throttled (s : State) : Bool := s.isHead && decide (s.flow.duty < s.infeedDuty)

/-- The level DEFROST_ACTIVE and the flag defrost_active (R150). -/
def State.defrostActive (s : State) : Bool := s.defrost.cycle.isSome

/-- The level DOOR_OPEN (R183). -/
def State.doorOpen (s : State) : Bool :=
  match s.packing.door with
  | .opened _ => true
  | _ => false

/-- The flags byte of STATUS (R29). -/
def State.statusFlags (s : State) : Byte :=
  byteOf (s.holding.toNat + 2 * s.flow.loadHigh.toNat + 4 * s.defrost.want.toNat + 8 * s.defrostActive.toNat
    + 16 * s.station.faultLatch.toNat + 32 * s.peer.chainLoad.toNat + 64 * s.peer.chainDefrost.toNat
    + 128 * s.throttled.toNat)

/-- The ten bytes of a STATUS queued now (R29, R52). In JOINING every field is 0. -/
def State.statusPayload (s : State) : List Byte :=
  if s.mode = .joining then List.replicate 10 0#8
  else
    [byteOf (stateCode s.mode), s.statusFlags, s.flow.reasons.byte, byteOf s.tracking.zone.length,
      byteOf s.arrivals.length]
      ++ be16 (if s.hasRole .freeze then s.flow.loadFilter else 0)
      ++ [byteOf (if s.hasRole .freeze then s.defrost.debt else 0), byteOf s.upstream, byteOf s.downstream]

/-! ### The infeed gate (R135) -/

/-- The head's infeed gate is open. -/
def State.gateOpen (s : State) : Bool :=
  s.isHead && decide (s.mode = .running) && !s.downstreamStops && (s.unstoppable || s.flow.drive) && s.flow.gapRun.isNone

/-! ### Stop causes (R129) -/

/-- The zone queue holds an OFFERED record at or beyond the offer point. -/
def State.noTake (s : State) : Bool :=
  s.tracking.zone.any (fun r => r.handover.isOffered && decide (s.offerPoint ≤ r.head))

/-- At least one stop cause is present. -/
def State.stopCause (s : State) : Bool := s.downstreamStops || s.noTake || s.doorListFull

/-! ### Counters (R189) -/

/-- The sixteen counters by name. -/
inductive CounterName where
  | merged
  | orphans
  | arrivalMiss
  | reserveExpired
  | untakenPass
  | diverted
  | verdictFail
  | probeStale
  | txDrop
  | linkDrop
  | rxOverrun
  | startDeferred
  | defrostDone
  | defrostAborted
  | bagsClosed
  | carriersStored
  deriving DecidableEq, Repr

/-- One counter's value. -/
def counterOf (c : Counters) : CounterName → Nat
  | .merged => c.merged
  | .orphans => c.orphans
  | .arrivalMiss => c.arrivalMiss
  | .reserveExpired => c.reserveExpired
  | .untakenPass => c.untakenPass
  | .diverted => c.diverted
  | .verdictFail => c.verdictFail
  | .probeStale => c.probeStale
  | .txDrop => c.txDrop
  | .linkDrop => c.linkDrop
  | .rxOverrun => c.rxOverrun
  | .startDeferred => c.startDeferred
  | .defrostDone => c.defrostDone
  | .defrostAborted => c.defrostAborted
  | .bagsClosed => c.bagsClosed
  | .carriersStored => c.carriersStored

/-- One more occurrence: the counter increases by one and stays at 65,535 once there. -/
def countersBump (c : Counters) : CounterName → Counters
  | .merged => { c with merged := sat16 (c.merged + 1) }
  | .orphans => { c with orphans := sat16 (c.orphans + 1) }
  | .arrivalMiss => { c with arrivalMiss := sat16 (c.arrivalMiss + 1) }
  | .reserveExpired => { c with reserveExpired := sat16 (c.reserveExpired + 1) }
  | .untakenPass => { c with untakenPass := sat16 (c.untakenPass + 1) }
  | .diverted => { c with diverted := sat16 (c.diverted + 1) }
  | .verdictFail => { c with verdictFail := sat16 (c.verdictFail + 1) }
  | .probeStale => { c with probeStale := sat16 (c.probeStale + 1) }
  | .txDrop => { c with txDrop := sat16 (c.txDrop + 1) }
  | .linkDrop => { c with linkDrop := sat16 (c.linkDrop + 1) }
  | .rxOverrun => { c with rxOverrun := sat16 (c.rxOverrun + 1) }
  | .startDeferred => { c with startDeferred := sat16 (c.startDeferred + 1) }
  | .defrostDone => { c with defrostDone := sat16 (c.defrostDone + 1) }
  | .defrostAborted => { c with defrostAborted := sat16 (c.defrostAborted + 1) }
  | .bagsClosed => { c with bagsClosed := sat16 (c.bagsClosed + 1) }
  | .carriersStored => { c with carriersStored := sat16 (c.carriersStored + 1) }

/-- Counts one occurrence. -/
def count (c : CounterName) (s : State) : State := { s with counters := countersBump s.counters c }

/-- The four counters of a page, in position order (R189). -/
def counterPage : Nat → List CounterName
  | 0 => [.merged, .orphans, .arrivalMiss, .reserveExpired]
  | 1 => [.untakenPass, .diverted, .verdictFail, .probeStale]
  | 2 => [.txDrop, .linkDrop, .rxOverrun, .startDeferred]
  | 3 => [.defrostDone, .defrostAborted, .bagsClosed, .carriersStored]
  | _ => []

end Sys2Proof.Machine
end

