-- ==== Sys2Proof/Machine/Ops.lean ====
section
/-! DEFINITION. The operations that every block shares: queueing frames and what a lost frame does to its block (R39 to
R41, R90), EVENT, STATUS and HOLD frames (R52, R128, R187), the holding reasons (R126), the start limiters (R131), the
drive (R130, R133), the chain flags (R53) and the neighbour record (R50, R54). -/

namespace Sys2Proof.Machine

open Sys2Proof

/-! ### Records by tag -/

def State.findRecord (s : State) (t : Tag) : Option UnitRecord := s.tracking.zone.find? (fun r => decide (r.tag = t))

/-- Rewrites the record with a tag, where it stands. -/
def updateRecord (t : Tag) (f : UnitRecord → UnitRecord) (s : State) : State :=
  { s with tracking.zone := s.tracking.zone.map (fun r => if r.tag = t then f r else r) }

/-- Writes the handover unit's fields of the record with a tag (R69). -/
def setHandover (t : Tag) (h : HandoverState) (attempts : Nat) (s : State) : State :=
  updateRecord t (fun r => { r with handover := h, attempts := attempts }) s

/-! ### The transmit queue (R39 to R41) -/

/-- A frame of this station (R39). -/
def ownFrame (k : Kind) (target : Nat) (payload : List Byte) (s : State) : Frame :=
  ⟨k, s.station.number, target, payload⟩

/-- The OFFER and the PASS of a record as it stands (R88, R95). -/
def offerFrame (r : UnitRecord) (s : State) : Frame := ownFrame .offer s.downstream (imageBytes (recordImage r)) s
def passFrame (r : UnitRecord) (s : State) : Frame := ownFrame .pass s.downstream (imageBytes (recordImage r)) s

/-- Inserts an entry in order of arbitration value, after the entries of equal value (R39). An entry of a lower value
than the frame in transmission goes ahead of it too, and starts before it if the attempt fails. DESIGN CHOICE: log entry
61. -/
def insertEntry (e : TxEntry) : List TxEntry → List TxEntry
  | [] => [e]
  | x :: rest => if arbitration e.frame < arbitration x.frame then e :: x :: rest else x :: insertEntry e rest

/-- STATUS and HOLD entries merge with a waiting entry of their kind (R40). -/
def mergingKind (k : Kind) : Bool := decide (k = .status) || decide (k = .hold)

/-- An entry of the kind waits, that is, it is queued and not the frame in transmission. -/
def kindWaits (k : Kind) (q : List TxEntry) : Bool := q.any (fun e => decide (e.frame.kind = k) && !e.sending)

/-- The waiting entry of the kind takes a newer frame's target and payload, and keeps its place and attempts (R40). -/
def replaceWaiting (f : Frame) (q : List TxEntry) : List TxEntry :=
  q.map (fun e => if e.frame.kind = f.kind ∧ e.sending = false then { e with frame := f } else e)

/-- The frame in transmission (R31). -/
def sendingEntry (q : List TxEntry) : Option TxEntry := q.find? (·.sending)

/-- The head entry of a non-empty queue starts: it is the frame in transmission, and the line is BUSY (R31). -/
def startHead (l : Link) : Link :=
  match l.txq with
  | [] => l
  | e :: rest => { l with txq := { e with sending := true } :: rest, line := .busy }

/-- The link controller on a line that is IDLE starts the head entry of its queue at once (R24, R31). -/
def startIfIdle (l : Link) : Link :=
  if l.line = .idle ∧ (sendingEntry l.txq).isSome = false then startHead l else l

/-- The waiting entry of highest arbitration value, the youngest of several: the last of the queue (R41). -/
def lastWaiting (q : List TxEntry) : Option TxEntry := q.reverse.find? (fun e => !e.sending)

/-- The queue without its last waiting entry. -/
def dropLastWaiting (q : List TxEntry) : List TxEntry := (q.reverse.eraseP (fun e => !e.sending)).reverse

/-- Hands a frame to the link controller (R39 to R41): the state after it, and the entry that left the queue unsent,
if any. A QUIET station and one with silencing on discard the frame, without a count or a loss event (R15, R42). -/
def enqueue (f : Frame) (s : State) : State × Option TxEntry :=
  if s.mode = .quiet ∨ s.link.silencing = true then (s, none)
  else if mergingKind f.kind && kindWaits f.kind s.link.txq then
    ({ s with link.txq := replaceWaiting f s.link.txq }, none)
  else if s.link.txq.length < 8 then
    ({ s with link.txq := insertEntry ⟨f, 0, false, false⟩ s.link.txq }, none)
  else
    match lastWaiting s.link.txq with
    | some e =>
      if kindClass f.kind < kindClass e.frame.kind then
        (count .txDrop { s with link.txq := insertEntry ⟨f, 0, false, false⟩ (dropLastWaiting s.link.txq) }, some e)
      else (count .txDrop s, some ⟨f, 0, false, false⟩)
    | none => (count .txDrop s, some ⟨f, 0, false, false⟩)

/-- An OFFERED record whose OFFER went unanswered or unsent is offered again or rests (R90, R91): the record, and
whether an OFFER is queued for it. While WALKING, and with no downstream to offer to (R104), it rests. DESIGN CHOICE:
log entry 16. -/
def nextOffer (s : State) (r : UnitRecord) : UnitRecord × Bool :=
  if s.mode = .walking ∨ s.downstream = 0 ∨ 3 ≤ r.attempts then
    ({ r with handover := .offered .resting }, false)
  else ({ r with handover := .offered .sending, attempts := r.attempts + 1 }, true)

/-- The loss event of an entry that left the queue unsent. Only an OFFER's has an effect, on the SENDING record it was
queued for (R90). `fuel` bounds the re-offers that a full queue drops in turn: each spends one attempt. DEDUCED: log
entries 15 and 38. -/
def settleLoss : Nat → TxEntry → State → State
  | 0, _, s => s
  | fuel + 1, e, s =>
    if e.frame.kind ≠ .offer then s
    else
      let t := (imageOf e.frame.payload).tag
      match s.findRecord t with
      | none => s
      | some r =>
        if r.handover ≠ .offered .sending then s
        else
          let (r', again) := nextOffer s r
          let s1 := setHandover t r'.handover r'.attempts s
          if again then
            match enqueue (offerFrame r' s1) s1 with
            | (s2, none) => s2
            | (s2, some e') => settleLoss fuel e' s2
          else s1

/-- Queues a frame and settles the loss it may bring about: at a displacement the new frame is inserted before the loss
event of the displaced one acts (R41). DESIGN CHOICE: log entry 42. -/
def queueFrame (f : Frame) (s : State) : State :=
  match enqueue f s with
  | (s1, none) => s1
  | (s1, some e) => settleLoss 4 e s1

/-! ### EVENT, STATUS and HOLD -/

/-- The sixteen events of R188. -/
inductive EventName where
  | commandRefused
  | profileRefused
  | profileLocked
  | duplicateNumber
  | walkOrder
  | orphan
  | trackMerge
  | verdict
  | probeStale
  | linkDrop
  | startDeferred
  | defrostOverdue
  | bagClosed
  | carrierStored
  | unbagged
  | fault
  deriving DecidableEq, Repr

def eventCode : EventName → Nat
  | .commandRefused => 1
  | .profileRefused => 2
  | .profileLocked => 3
  | .duplicateNumber => 4
  | .walkOrder => 5
  | .orphan => 6
  | .trackMerge => 7
  | .verdict => 8
  | .probeStale => 9
  | .linkDrop => 10
  | .startDeferred => 11
  | .defrostOverdue => 12
  | .bagClosed => 13
  | .carrierStored => 14
  | .unbagged => 15
  | .fault => 16

/-- The EVENT frame of a name, datum and tag field (R187). -/
def eventFrame (n : EventName) (datum tag : Nat) (s : State) : Frame :=
  ownFrame .event 0 ([byteOf (eventCode n)] ++ be16 datum ++ be16 tag) s

def queueEvent (n : EventName) (datum tag : Nat) (s : State) : State := queueFrame (eventFrame n datum tag s) s

/-- Queues a STATUS with the values in force (R52). A QUIET station sends none (R5). DEDUCED: log entry 34. -/
def queueStatus (s : State) : State := queueFrame (ownFrame .status 0 s.statusPayload s) s

/-- The HOLD that says the station's holding reasons (R128). -/
def holdFrame (s : State) : Frame :=
  ownFrame .hold s.upstream [byteOf s.holding.toNat, s.flow.reasons.byte] s

/-- Queues a HOLD to the upstream, if the neighbour record names one (R128). -/
def queueHold (s : State) : State := if s.upstream = 0 then s else queueFrame (holdFrame s) s

/-! ### Holding reasons -/

/-- Evaluates the reason set with LEVEL as given, and hands a change on: STATUS and HOLD (R126, R128). DEDUCED: log
entry 37. DESIGN CHOICE: log entry 59. -/
def setReasons (level : Bool) (s : State) : State :=
  let r := s.reasonsInForce level
  if r = s.flow.reasons then s else queueHold (queueStatus { s with flow.reasons := r })

/-- Evaluates the reasons other than LEVEL afresh. -/
def refreshReasons (s : State) : State := setReasons s.flow.reasons.level s

/-- LEVEL after the hysteresis of R127. -/
def levelAfter (s : State) : Bool :=
  let sum := s.tracking.zone.length + s.arrivals.length
  if s.holdLevel ≤ sum then true
  else if sum ≤ s.releaseLevel then false
  else s.flow.reasons.level

/-- Evaluates LEVEL, and with it the reason set. -/
def evaluateLevel (s : State) : State := setReasons (levelAfter s) s

/-! ### Start limiters (R131, R132, R134) -/

/-- A limiter's window W and least stop time S. -/
def limiterWindow (s : State) : LimiterId → Nat
  | .drive => s.item 9
  | .door => s.item 76

def limiterStop (s : State) : LimiterId → Nat
  | .drive => s.item 10
  | .door => s.item 77

def limiterCode : LimiterId → Nat
  | .drive => 0
  | .door => 1

def limiterOf (s : State) : LimiterId → Limiter
  | .drive => s.flow.driveLimiter
  | .door => s.flow.doorLimiter

def setLimiter (i : LimiterId) (l : Limiter) (s : State) : State :=
  match i with
  | .drive => { s with flow.driveLimiter := l }
  | .door => { s with flow.doorLimiter := l }

/-- Step 1 of R131: the entries older than the window leave the history. -/
def pruneHistory (window t : Nat) (h : List Nat) : List Nat := h.filter (fun e => decide (t - e ≤ window))

/-- What a request at station time `t` meets in a limiter with no deferred request. -/
inductive LimiterAnswer where
  /-- granted at once: the limiter after the grant -/
  | granted (l : Limiter)
  /-- deferred: the limiter, the failing conditions (1 window, 2 stop, 3 both), and the deferral length -/
  | deferred (l : Limiter) (failing length : Nat)
  deriving DecidableEq, Repr

/-- Steps 1 to 4 of R131. -/
def limiterAnswer (window stop t : Nat) (l : Limiter) : LimiterAnswer :=
  let h := pruneHistory window t l.history
  let windowOk := decide (window = 0) || decide (h.length < 4)
  let stopOk := l.lastStop.all (fun e => decide (stop ≤ t - e))
  if windowOk && stopOk then
    .granted { l with history := if window = 0 then h else h ++ [t] }
  else
    let windowTime := if windowOk then 0 else h.headD 0 + window + 1
    let stopTime := if stopOk then 0 else l.lastStop.getD 0 + stop
    let expiry := max windowTime stopTime
    .deferred { l with history := h, deferred := some expiry } ((!windowOk).toNat + 2 * (!stopOk).toNat) (expiry - t)

/-- A request at the present station time: the state after it, and whether it was granted at once. A request that
finds one deferred joins it. A deferral counts START_DEFERRED and queues its EVENT (R132). -/
def requestStart (i : LimiterId) (s : State) : State × Bool :=
  if (limiterOf s i).deferred.isSome then (s, false)
  else
    match limiterAnswer (limiterWindow s i) (limiterStop s i) s.now (limiterOf s i) with
    | .granted l => (setLimiter i l s, true)
    | .deferred l failing length =>
      (queueEvent .startDeferred (256 * limiterCode i + failing) (sat16 (ceilDiv length 100))
        (count .startDeferred (setLimiter i l s)), false)

/-- Withdraws a deferred request, without a count (R132). -/
def withdrawStart (i : LimiterId) (s : State) : State := setLimiter i { limiterOf s i with deferred := none } s

/-- The grant of a deferred request at its expiry `t` (R132). -/
def limiterExpire (window t : Nat) (l : Limiter) : Limiter :=
  let h := pruneHistory window t l.history
  { l with history := if window = 0 then h else h ++ [t], deferred := none }

/-! ### The drive (R130, R133) -/

def driveOn (s : State) : State := { s with flow.drive := true }

/-- Turns the drive off. A change from on to off records the last stop time. DEDUCED: log entry 28. -/
def driveOff (s : State) : State :=
  if s.flow.drive then { s with flow.drive := false, flow.driveLimiter.lastStop := some s.now } else s

/-- Evaluates the drive from role, state, stop causes and limiter (R130), asking or withdrawing as R133 states. -/
def evaluateDrive (s : State) : State :=
  if !s.hasProfile then s
  else if s.unstoppable then (if beltState s.mode then driveOn s else driveOff s)
  else if s.mode = .walking then driveOn s
  else if s.mode = .running ∨ s.mode = .draining then
    if s.stopCause then driveOff (withdrawStart .drive s)
    else if s.flow.drive then s
    else
      match requestStart .drive s with
      | (s1, true) => driveOn s1
      | (s1, false) => s1
  else driveOff (withdrawStart .drive s)

/-! ### Chain flags (R53) and the gap run (R137) -/

/-- A rise of chain_defrost at a head starts a gap run, when none is in progress (R137). -/
def startGapRun (s : State) : State :=
  if s.isHead && s.flow.gapRun.isNone then { s with flow.gapRun := some 0 } else s

/-- chain_load and chain_defrost as the station's own flags and its downstream's last reported flags give them. -/
def chainLoadNow (s : State) : Bool := s.flow.loadHigh || s.downstreamEntry.any (fun e => e.flags.getLsbD 5)
def chainDefrostNow (s : State) : Bool := s.defrost.want || s.downstreamEntry.any (fun e => e.flags.getLsbD 6)

/-- Evaluates both chain flags and hands a change on. Before acceptance both are clear. -/
def evaluateChain (s : State) : State :=
  if !s.hasProfile then s
  else
    let load := chainLoadNow s
    let defrost := chainDefrostNow s
    if load = s.peer.chainLoad ∧ defrost = s.peer.chainDefrost then s
    else
      let rises := defrost && !s.peer.chainDefrost
      let s1 := { s with peer.chainLoad := load, peer.chainDefrost := defrost }
      queueStatus (if rises then startGapRun s1 else s1)

/-! ### Offers again (R94) -/

/-- Revival: every resting offer is renewed, in queue order. While WALKING it does nothing. DEDUCED: log entry 15. -/
def revive (s : State) : State :=
  if s.mode = .walking then s
  else
    let resting := (s.tracking.zone.filter (fun r => decide (r.handover = .offered .resting))).map (·.tag)
    resting.foldl
      (fun s t =>
        match s.findRecord t with
        | none => s
        | some r =>
          let r' := { r with handover := .offered .sending, attempts := 0 }
          let s1 := setHandover t r'.handover r'.attempts s
          queueFrame (offerFrame r' s1) s1)
      s

/-- Hands on a change of the downstream's entry from what it was (R50): to the flow unit, then to the handover unit when
the holding field went from set to clear. DESIGN CHOICE: log entry 55. -/
def handDownstream (before : Option PeerEntry) (s : State) : State :=
  match before, s.downstreamEntry with
  | some b, some a =>
    let s1 := if b.holding = a.holding ∧ b.stale = a.stale then s else evaluateDrive s
    if b.holding && !a.holding then revive s1 else s1
  | none, none => s
  | some _, none => evaluateDrive s
  | none, some _ => evaluateDrive s

/-! ### The neighbour record (R50, R54) -/

/-- Sets the neighbour record and hands on a change of its numbers: STATUS (R52), the new downstream's entry (R50), the
chain flags (R53), and a HOLD to a new upstream (R128). The order of their frames is a DESIGN CHOICE: log entry 60. -/
def setNeighbours (n : Neighbours) (s : State) : State :=
  let old := s.peer.neighbours
  let before := s.downstreamEntry
  let s1 := { s with peer.neighbours := n }
  let s2 := if n.upstream = old.upstream ∧ n.downstream = old.downstream then s1 else queueStatus s1
  let s3 := if n.downstream = old.downstream then s2 else handDownstream before (evaluateChain s2)
  if n.upstream = old.upstream then s3 else queueHold s3

end Sys2Proof.Machine
end

