-- ==== Sys2Proof/Machine/ChannelOps.lean ====
section
/-! DEFINITION. The actuator channels (chapter 9): records, starts, base values, events, levels, posture and the level
of each output pin. -/

namespace Sys2Proof.Machine

open Sys2Proof

/-! ### Channel records (R172) -/

/-- The ten modes of R16. -/
inductive ChannelMode where
  | off
  | setAt
  | clearAt
  | toggle
  | onePulse
  | repeatPulse
  | duty
  | segmentWindow
  | eventPulse
  | follow
  deriving DecidableEq, Repr

def channelModeOf : Nat → ChannelMode
  | 1 => .setAt
  | 2 => .clearAt
  | 3 => .toggle
  | 4 => .onePulse
  | 5 => .repeatPulse
  | 6 => .duty
  | 7 => .segmentWindow
  | 8 => .eventPulse
  | 9 => .follow
  | _ => .off

/-- The three bases: base field codes 0, 1 and 2. -/
inductive BaseName where
  | belt
  | tb0
  | tb1
  deriving DecidableEq, Repr

def baseNameOf : Nat → BaseName
  | 1 => .tb0
  | 2 => .tb1
  | _ => .belt

def msBaseName : MsBase → BaseName
  | .tb0 => .tb0
  | .tb1 => .tb1

/-- A channel record as acceptance builds it from the frozen profile (R172). -/
structure ChannelRecord where
  mode : ChannelMode
  base : BaseName
  a : Nat
  b : Nat
  source : Nat
  mask : ItemValue
  remove : Bool
  faultGoverned : Bool
  deriving DecidableEq, Repr

/-- The record of channel `ch`: OFF when CHANNEL_n_MODE is absent, A, B and mask 0 when their items are absent. The
fault-governed flag is read in every mode but OFF.
DEDUCED: log entry 35. -/
def channelRecord (p : Profile) (ch : Nat) : ChannelRecord :=
  { mode := channelModeOf (modeField p ch)
    base := baseNameOf (baseField p ch)
    a := itemHigh p (55 + ch)
    b := itemLow p (55 + ch)
    source := sourceField p ch
    mask := (profileFind p (61 + ch)).getD 0#32
    remove := (flagsField p ch).testBit 0
    faultGoverned := decide (channelModeOf (modeField p ch) ≠ .off) && (flagsField p ch).testBit 1 }

def State.channelRecord (s : State) (ch : Nat) : ChannelRecord := Machine.channelRecord s.items ch

/-- Rewrites all six channels, each from its number. -/
def mapChannels (f : Nat → Channel → Channel) (cs : Vector Channel 6) : Vector Channel 6 :=
  #v[f 0 cs[0], f 1 cs[1], f 2 cs[2], f 3 cs[3], f 4 cs[4], f 5 cs[5]]

def State.mapChannels (s : State) (f : Nat → Channel → Channel) : State :=
  { s with channels.chans := Machine.mapChannels f s.channels.chans }

/-! ### A base takes a value (R160 to R162) -/

/-- The effect on a channel of its base taking `v`. `wrap` says that the base has wrapped to take it, which ends the
wait of a ONE_PULSE channel for its fall (R161). DESIGN CHOICE: log entry 50. -/
def channelTakes (r : ChannelRecord) (v : Nat) (wrap : Bool) (c : Channel) : Channel :=
  match r.mode with
  | .setAt => if c.latched = false ∧ v = r.a then { c with level := true, latched := true } else c
  | .clearAt => if c.latched = false ∧ v = r.a then { c with level := false, latched := true } else c
  | .toggle => if v = r.a then { c with level := !c.level } else c
  | .onePulse =>
    match c.phase with
    | .awaitingRise =>
      if v = r.a then
        if r.a = r.b then { c with phase := .inert } else { c with level := true, phase := .awaitingFall }
      else c
    | .awaitingFall =>
      if wrap then { c with phase := .inert }
      else if v = r.b then { c with level := false, phase := .inert }
      else c
    | .inert => c
  | .repeatPulse =>
    if r.a = r.b then c
    else if v = r.a then { c with level := true }
    else if v = r.b then { c with level := false }
    else c
  | .off | .duty | .segmentWindow | .eventPulse | .follow => c

/-- A base's value handed to every RUNNING channel that reads it (R158, R159). -/
def baseTakes (base : BaseName) (v : Nat) (wrap : Bool) (s : State) : State :=
  s.mapChannels fun ch c =>
    let r := s.channelRecord ch
    if c.run = .running ∧ r.base = base then channelTakes r v wrap c else c

/-- The next value of a running base of period `p`, and whether it wraps (R158). -/
def baseNext (p v : Nat) : Nat × Bool := if v + 1 < p then (v + 1, false) else (0, true)

def msBasePeriod (s : State) : MsBase → Nat
  | .tb0 => s.item 67
  | .tb1 => s.item 68

def msBaseValue (s : State) : MsBase → Option Nat
  | .tb0 => s.channels.tb0
  | .tb1 => s.channels.tb1

def setMsBase (b : MsBase) (v : Option Nat) (s : State) : State :=
  match b with
  | .tb0 => { s with channels.tb0 := v }
  | .tb1 => { s with channels.tb1 := v }

/-- The belt base on an accepted forward count (R159). -/
def stepBelt (s : State) : State :=
  match s.channels.belt with
  | none => s
  | some v =>
    let (v', wrap) := baseNext s.zoneLength v
    baseTakes .belt v' wrap { s with channels.belt := some v' }

/-! ### Starts (R157) and posture (R156, R170, R171, R173) -/

/-- A channel starts: the initial level of its mode, and its base's start as the base taking 0. -/
def startChannel (r : ChannelRecord) (c : Channel) : Channel :=
  channelTakes r 0 false
    { run := .running
      level := decide (r.mode = .clearAt)
      latched := false
      phase := .awaitingRise
      oneShot := none
      rose := false
      out := c.out }

/-- A channel becomes FORCED: its output inactive, its progress discarded, its one-shot stopped (R170). -/
def forceChannel (c : Channel) : Channel := { stoppedChannel with run := .forced, out := c.out }

/-- The bases start at 0. A base whose period item is not held does not exist (R158). -/
def startBases (s : State) : State :=
  { s with
    channels.tb0 := if itemHeld s.items 67 then some 0 else none
    channels.tb1 := if itemHeld s.items 68 then some 0 else none
    channels.belt := some 0 }

/-- The posture of a fresh run in the present state (R156, R173): dormant, live, or live with the fault-governed
channels FORCED. -/
def freshPosture (s : State) : State :=
  if liveState s.mode then
    (startBases s).mapChannels fun ch c =>
      let r := s.channelRecord ch
      if s.mode = .faulted ∧ r.faultGoverned = true then forceChannel c else startChannel r c
  else
    { s with channels.tb0 := none, channels.tb1 := none, channels.belt := none }.mapChannels
      (fun _ c => { stoppedChannel with out := c.out })

/-- The channels' response to a change of station state from `old` to the present one (R156, R170, R171). -/
def changePosture (old : StationState) (s : State) : State :=
  if liveState old && liveState s.mode then
    if s.mode = .faulted then
      s.mapChannels fun ch c => if (s.channelRecord ch).faultGoverned then forceChannel c else c
    else if old = .faulted then
      (startBases s).mapChannels fun ch c =>
        let r := s.channelRecord ch
        if r.faultGoverned then startChannel r c
        else if c.run = .running then channelTakes r 0 false c
        else c
    else s
  else if liveState old || liveState s.mode then freshPosture s
  else s

/-! ### Event sources (R167, R168) -/

/-- Source codes: the events BAG_CLOSED 0, CARRIER_CLOSED 1, DEFROST_START 2, DOOR_START 3. -/
inductive EventSource where
  | bagClosed
  | carrierClosed
  | defrostStart
  | doorStart
  deriving DecidableEq, Repr

def sourceCode : EventSource → Nat
  | .bagClosed => 0
  | .carrierClosed => 1
  | .defrostStart => 2
  | .doorStart => 3

/-- The one-shot of an EVENT_PULSE channel takes the value `v` in its present run (R168). -/
def oneShotTakes (r : ChannelRecord) (v : Nat) (c : Channel) : Channel :=
  if r.a = r.b then c
  else if v = r.a then { c with level := true, rose := true }
  else if v = r.b ∧ c.rose = true then { c with level := false }
  else c

/-- The one-shot restarts at 0. -/
def triggerChannel (r : ChannelRecord) (c : Channel) : Channel :=
  oneShotTakes r 0 { c with oneShot := some 0, rose := false }

/-- An event of a source, given to every RUNNING EVENT_PULSE channel that names it. -/
def giveEvent (e : EventSource) (s : State) : State :=
  s.mapChannels fun ch c =>
    let r := s.channelRecord ch
    if c.run = .running ∧ r.mode = .eventPulse ∧ r.source = sourceCode e then triggerChannel r c else c

/-! ### Output levels (R163 to R165, R169) -/

/-- A record matches a segment window (R165). DESIGN CHOICE: log entry 21. -/
def windowMatches (r : ChannelRecord) (u : UnitRecord) : Bool :=
  r.mask.getLsbD u.disposition && decide (r.a ≤ u.head) && decide (u.tail < r.b) && decide (r.a < r.b)

/-- The level of a level source: DEFROST_ACTIVE 4, DOOR_OPEN 5, HOLDING 6. An event source has none (R167). -/
def sourceLevel (s : State) (source : Nat) : Bool :=
  if source = 4 then s.defrostActive
  else if source = 5 then s.doorOpen
  else if source = 6 then s.holding
  else false

/-- The duty pattern at base value `v` of a base of period `p` (R163). -/
def dutyLevel (duty p v : Nat) : Bool := decide (v < duty * p / 64)

/-- The value of the base a DUTY channel reads, and its period. -/
def dutyBase (s : State) (r : ChannelRecord) : Option (Nat × Nat) :=
  match r.base with
  | .belt => none
  | .tb0 => s.channels.tb0.map (fun v => (v, s.item 67))
  | .tb1 => s.channels.tb1.map (fun v => (v, s.item 68))

/-- The level of channel `ch`'s output pin. -/
def channelOutput (s : State) (ch : Nat) (c : Channel) : Bool :=
  let r := s.channelRecord ch
  if c.run ≠ .running then false
  else
    match r.mode with
    | .off => false
    | .setAt | .clearAt | .toggle | .onePulse | .repeatPulse | .eventPulse => c.level
    | .duty =>
      match dutyBase s r with
      | none => false
      | some (v, p) =>
        if s.isHead ∧ s.infeedChannel = ch then s.gateOpen && dutyLevel s.flow.duty p v else dutyLevel r.a p v
    | .segmentWindow => s.tracking.zone.any (windowMatches r)
    | .follow => sourceLevel s r.source

/-- Every output pin takes its level: the pin shows only the result of a command's changes. DEDUCED: log entry 39. -/
def settleOutputs (s : State) : State := s.mapChannels (fun ch c => { c with out := channelOutput s ch c })

/-- The link controller at the end of a command: where the line is IDLE, a frame that the command left in the transmit
queue starts (R24, R31). A QUIET station sends nothing (R15). DEDUCED: log entry 44. -/
def settleLine (s : State) : State := { s with link := if s.mode = .quiet then s.link else startIfIdle s.link }

/-- How each command ends: a frame starts on an IDLE line, and every output pin takes its level. -/
def settle (s : State) : State := settleOutputs (settleLine s)

/-- The outcome of a command that has its effect. -/
def done (s : State) : Host.Outcome State Fault Refusal := .next (settle s)

end Sys2Proof.Machine
end

