-- ==== Sys2Proof/Machine/CycleOps.lean ====
section
/-! DEFINITION. The two cycles that blocks start by a test: the defrost cycle (R148 to R153) and the door cycle (R182 to
R184). -/

namespace Sys2Proof.Machine

open Sys2Proof

/-! ### Defrost (chapter 8). Items 42 to 48 are the controller's. -/

def State.debtLow (s : State) : Nat := s.item 43
def State.debtHigh (s : State) : Nat := s.item 44
def State.debtPanic (s : State) : Nat := s.item 45
def State.debtHyst (s : State) : Nat := s.item 46
/-- DEFROST_TIME in milliseconds (R150). -/
def State.defrostTime (s : State) : Nat := s.item 47 * 1000

/-- defrost_want after the hysteresis of R148. -/
def wantAfter (s : State) : Bool :=
  if s.debtHigh ≤ s.defrost.debt then true
  else if s.defrost.debt < s.debtHyst then false
  else s.defrost.want

/-- Evaluates defrost_want, and hands a change on: STATUS, and the chain flags (R148). -/
def evaluateWant (s : State) : State :=
  if wantAfter s = s.defrost.want then s
  else evaluateChain (queueStatus { s with defrost.want := wantAfter s })

/-- The station states in which a cycle may start (R149). -/
def defrostState (m : StationState) : Bool := decide (m ∈ [StationState.ready, .running, .draining])

/-- The kind of cycle that the start test starts, if any, by the first row of R149 that holds. -/
def cycleToStart (s : State) : Option CycleKind :=
  if s.debtPanic ≤ s.defrost.debt then some .panic
  else if s.debtLow ≤ s.defrost.debt ∧ s.tracking.zone = [] ∧ s.arrivals = [] then some .normal
  else none

/-- A cycle starts (R150): its state and end time, and one DEFROST_START. The reason set and the STATUS follow with the
change that the start is part of. -/
def startCycle (k : CycleKind) (s : State) : State :=
  giveEvent .defrostStart { s with defrost.cycle := some ⟨k, s.now + s.defrostTime⟩ }

/-- The start test of R149: the cycle that it starts, if any. -/
def startDueCycle (s : State) : State :=
  if s.hasRole .freeze && defrostState s.mode && s.defrost.cycle.isNone then
    match cycleToStart s with
    | some k => startCycle k s
    | none => s
  else s

/-- The start test, with what a start does to the holding reasons and the STATUS (R150). -/
def defrostTest (s : State) : State :=
  let s1 := startDueCycle s
  if s1.defrostActive = s.defrostActive then s1 else queueStatus (refreshReasons s1)

/-- A cycle in flight is aborted: DEFROST_ABORTED is counted, the debt is kept (R153). -/
def abortDefrost (s : State) : State :=
  if s.defrost.cycle.isSome then count .defrostAborted { s with defrost.cycle := none } else s

/-! ### The door cycle (chapter 10) -/

/-- DOOR_TIME in milliseconds (R183). -/
def State.doorTime (s : State) : Nat := s.item 75

/-- The door opens on a grant made at station time `t` (R183). -/
def openDoor (t : Nat) (s : State) : State :=
  giveEvent .doorStart { s with packing.door := .opened (t + s.doorTime) }

/-- The states in which the door cycle asks (R182). -/
def doorState (m : StationState) : Bool := decide (m ∈ [StationState.ready, .running, .draining, .walking])

/-- The request test of R182: an IDLE door cycle with carriers waiting asks the DOOR limiter. -/
def doorTest (s : State) : State :=
  if s.hasRole .transfer && decide (s.packing.door = .idle) && !s.packing.doorList.isEmpty && doorState s.mode then
    match requestStart .door s with
    | (s1, true) => openDoor s1.now s1
    | (s1, false) => { s1 with packing.door := .requested }
  else s

/-- A REQUESTED door cycle is withdrawn and returns to IDLE (R182). -/
def withdrawDoor (s : State) : State :=
  if s.packing.door = .requested then withdrawStart .door { s with packing.door := .idle } else s

/-- An OPEN door cycle is aborted and a REQUESTED one withdrawn, at entry to FAULTED (R184). -/
def abortDoor (s : State) : State := { withdrawDoor s with packing.door := .idle }

end Sys2Proof.Machine
end

