-- ==== Sys2Proof/Machine/TrackOps.lean ====
section
/-! DEFINITION. The tracking unit's operations (chapter 4) and the handover unit's tests of the zone queue (R88, R95):
records entering and leaving, tags, closes, merges, and what the other blocks do at each change of the queue. -/

namespace Sys2Proof.Machine

open Sys2Proof

/-! ### What the other blocks do at a change of the zone queue or the arrivals list (R71, R96) -/

/-- A STATUS for a change of the queue count or the arrivals count from `before` (R52). -/
def reportCounts (before : Nat × Nat) (s : State) : State := if s.counts = before then s else queueStatus s

/-- The start test of an emptied zone (R149). -/
def testEmptied (s : State) : State :=
  if s.tracking.zone.isEmpty && s.arrivals.isEmpty then defrostTest s else s

/-- The responses of the flow unit, the peer view and the defrost controller to a change of the zone queue or the
arrivals list, whose counts were `before`. Station control's drain test follows where DRAINING can be the state.
DESIGN CHOICE: log entry 59. -/
def queueChanged (before : Nat × Nat) (s : State) : State :=
  testEmptied (reportCounts before (evaluateDrive (evaluateLevel s)))

/-! ### Offers and passes (R88, R95) -/

/-- The record is offered at the present position of its head (R88). -/
def offerDue (s : State) (r : UnitRecord) : Bool :=
  decide (r.handover = .localUnit) && decide (s.offerPoint ≤ r.head) && decide (r.head < s.zoneLength)

/-- The record is judged when the dose unit takes a count (R118). -/
def verdictDue (s : State) (r : UnitRecord) : Bool :=
  decide (r.kind = .segment) && !r.forming
    && ((s.hasRole .blanch && !r.blanchMade) || ((s.hasRole .chill || s.hasRole .freeze) && !r.dwellMade))
    && (decide ((s.verdictPoint : Int) ≤ r.midpoint) || (!s.isTail && decide (s.offerPoint ≤ r.head)))

/-- The record is passed at the present position of its head (R95). A closed segment that enters at or beyond the zone
end between two counts is passed at its insertion, before the next count judges it (R118). DEDUCED: log entry 46. -/
def passDue (s : State) (r : UnitRecord) : Bool := decide (s.zoneLength ≤ r.head) && decide (r.handover ≠ .passed)

/-- Offers the record with a tag (R88). The record is SENDING before its OFFER is queued, so that a loss at queueing
finds it so (log entry 15). -/
def offerRecord (s : State) (t : Tag) : State :=
  match s.findRecord t with
  | none => s
  | some r =>
    let r' := { r with handover := .offered .sending, attempts := 0 }
    let s1 := setHandover t r'.handover r'.attempts s
    queueFrame (offerFrame r' s1) s1

/-- Passes the record with a tag (R95). -/
def passRecord (s : State) (t : Tag) : State :=
  match s.findRecord t with
  | none => s
  | some r =>
    let s1 := setHandover t .passed r.attempts s
    let s2 := if r.handover = .taken then s1 else count .untakenPass s1
    queueFrame (passFrame r s2) s2

/-- Every due record is offered, in queue order (R88). -/
def makeOffers (s : State) : State := ((s.tracking.zone.filter (offerDue s)).map (·.tag)).foldl offerRecord s

/-- Every due record is passed, in queue order (R95). -/
def makePasses (s : State) : State := ((s.tracking.zone.filter (passDue s)).map (·.tag)).foldl passRecord s

/-- The handover unit's examination of the zone queue, at each accepted forward count and at each insertion: offers,
then passes, then the drive for the stop cause NO_TAKE (R129). DEDUCED: log entry 12. -/
def examineZone (s : State) : State :=
  if s.hasProfile && decide (s.downstream ≠ 0) && decide (s.mode ≠ .walking) then
    evaluateDrive (makePasses (makeOffers s))
  else evaluateDrive s

/-! ### Tags (R72) -/

/-- The first sequence number from `seq` on whose tag neither the zone queue nor the arrivals list holds. -/
def freeSequence (s : State) : Nat → Nat → Nat
  | 0, seq => seq
  | fuel + 1, seq =>
    let t := mkTag s.station.number seq
    if s.zoneHolds t || s.arrivalsHold t then freeSequence s fuel ((seq + 1) % 2048) else seq

/-- Issues a tag: the tag, and the state with the sequence advanced past it. -/
def issueTag (s : State) : Tag × State :=
  let seq := freeSequence s 2048 s.tracking.tagSeq
  (mkTag s.station.number seq, { s with tracking.tagSeq := (seq + 1) % 2048 })

/-! ### Mass and load (R79, R138) -/

/-- The mass of a closed length. -/
def massOf (s : State) (length : Nat) : Nat := sat16 (roundDiv (length * s.loading) 256)

/-- Mass joins the zone of a FREEZE station. -/
def gainLoad (mass : Nat) (s : State) : State :=
  if s.hasRole .freeze then { s with flow.loadInput := sat16 (s.flow.loadInput + mass) } else s

/-! ### Records entering (R71, R82) -/

/-- Places a record after every record whose head is at least its own, and before every other (R71). -/
def insertByHead (r : UnitRecord) : List UnitRecord → List UnitRecord
  | [] => [r]
  | x :: rest => if r.head ≤ x.head then x :: insertByHead r rest else r :: x :: rest

/-- The forming record closed at a length (R76 to R79). -/
def closedRecord (s : State) (length : Nat) (r : UnitRecord) : UnitRecord :=
  { r with length := length, mass := massOf s length, forming := false }

/-- The absorbing record after a merge (R82). -/
def absorb (r : UnitRecord) (entering : UnitRecord) : UnitRecord :=
  { r with
    length := min 4095 (r.length + entering.length)
    mass := sat16 (r.mass + entering.mass)
    disposition := if r.kind = .bag then 9 else raiseTo 8 r.disposition }

/-- Replaces the last record of the queue. -/
def replaceLast (r : UnitRecord) (zone : List UnitRecord) : List UnitRecord := zone.dropLast ++ [r]

/-- The last record absorbs the entering one: MERGED and EVENT TRACK_MERGE (R82). The frames of the change that the
entry is part of follow the EVENT. DESIGN CHOICE: log entry 57. -/
def mergeInto (last entering : UnitRecord) (s : State) : State :=
  queueEvent .trackMerge entering.tag.toNat last.tag.toNat
    (count .merged { s with tracking.zone := replaceLast (absorb last entering) s.tracking.zone })

/-- The record joins the queue (R71). -/
def insertRecord (r : UnitRecord) (s : State) : State :=
  { s with tracking.zone := insertByHead r s.tracking.zone }

/-- A record enters the zone queue: it joins it, or the last record absorbs it when the queue holds 24. A last record
that is forming is first closed with its head as its length, or discarded at head 0 (R82). `examine` is what the
handover unit does at an insertion, before the frames of the change that the entry makes. DESIGN CHOICE: log entry
59. -/
def enterVia (examine : State → State) (r : UnitRecord) (s : State) : State :=
  if s.tracking.zone.length < 24 then examine (insertRecord r s)
  else
    match s.tracking.zone.getLast? with
    | none => examine (insertRecord r s)
    | some last =>
      if last.forming then
        if last.head = 0 then examine (insertRecord r { s with tracking.zone := s.tracking.zone.dropLast })
        else mergeInto (closedRecord s last.head last) r (gainLoad (massOf s last.head) s)
      else mergeInto last r s

/-- A record enters, and the handover unit examines the queue at its insertion (R71, R88, R95). -/
def enterRecord (r : UnitRecord) (s : State) : State := enterVia examineZone r s

/-- A record enters at step 3 of an accepted forward count. The handover unit examines the queue for it after the dose
unit's verdicts of the same count (R88, R118). DEDUCED: log entry 46. -/
def enterInCount (r : UnitRecord) (s : State) : State := enterVia id r s

/-! ### Closes (R76 to R79) -/

/-- A record that merge-bound material makes when it enters (R69, R81). -/
def mergeBoundRecord (s : State) (m : MergeBound) (length : Nat) : UnitRecord :=
  { tag := m.tag
    kind := .segment
    lot := m.lot
    head := m.length
    length := length
    mass := massOf s length
    dose := none
    dwell := none
    disposition := m.disposition
    blanchMade := false
    dwellMade := false
    forming := false
    handover := .localUnit
    attempts := 0 }

/-- Closes the forming segment, if there is one. `closedLength` gives the closed length from the head, or from the
merge-bound length. A length of 0 discards the segment (R78). `enter` enters a merge-bound segment's record, and
`changed` is what the other blocks do. -/
def closeForming (enter : UnitRecord → State → State) (changed : Nat × Nat → State → State) (closedLength : Nat → Nat)
    (s : State) : State :=
  match s.tracking.mergeBound with
  | some m =>
    let length := closedLength m.length
    let s1 := { s with tracking.mergeBound := none }
    if length = 0 then s1
    else changed s.counts (enter (mergeBoundRecord s m length) (gainLoad (massOf s length) s1))
  | none =>
    match s.tracking.zone.getLast? with
    | none => s
    | some last =>
      if last.forming then
        let length := closedLength last.head
        if length = 0 then changed s.counts { s with tracking.zone := s.tracking.zone.dropLast }
        else gainLoad (massOf s length) { s with tracking.zone := replaceLast (closedRecord s length last) s.tracking.zone }
      else s

/-! ### Records leaving (R83, R84) -/

/-- The queue without the record of a tag. -/
def withoutTag (t : Tag) (zone : List UnitRecord) : List UnitRecord := zone.eraseP (fun r => decide (r.tag = t))

def dropRecord (t : Tag) (s : State) : State := { s with tracking.zone := withoutTag t s.tracking.zone }

end Sys2Proof.Machine
end

