-- ==== Sys2Proof/Machine/StateOps.lean ====
section
/-! DEFINITION. A change of station state and each block's response to it (R5), the drain test (R11), entry to QUIET
(R15), and the fault latch (R7). -/

namespace Sys2Proof.Machine

open Sys2Proof

/-- A change from `old` to `new` ends formation (R78). -/
def endsFormation (old new : StationState) : Bool :=
  beltState old && decide (new ∈ [StationState.ready, .profiled, .faulted])

/-- Entry to FAULTED discards a walk and its partial results (R62), at a line restart taken in WALKING too. DESIGN CHOICE:
log entry 41. -/
def discardWalk (old : StationState) (s : State) : State :=
  if old = .walking ∧ s.mode = .faulted then setNeighbours ⟨0, 0, 0⟩ { s with peer.walk := none } else s

/-- The aborts and withdrawals that a station state brings with it: FAULTED aborts both cycles, PROFILED withdraws a
door request (R153, R182, R184). DEDUCED: log entry 29. -/
def stateAborts (s : State) : State :=
  if s.mode = .faulted then abortDoor (abortDefrost s)
  else if s.mode = .profiled then withdrawDoor s
  else s

/-- The blocks' responses to the station state having become the present one from `old`, after the channels': tracking,
peer view, defrost and packing aborts, flow, start tests, STATUS (log entry 11). -/
def respondToState (old : StationState) (s : State) : State :=
  let s1 := if endsFormation old s.mode then closeForming enterRecord queueChanged id s else s
  let s2 := stateAborts (discardWalk old s1)
  let s3 := evaluateDrive (refreshReasons s2)
  queueStatus (doorTest (defrostTest s3))

/-- The station enters a state (R5). DEDUCED: log entries 11 and 37. -/
def enterState (new : StationState) (s : State) : State :=
  respondToState s.mode (changePosture s.mode { s with mode := new })

/-- The station enters a state by line restart: the channels start afresh (R173). DEDUCED: log entry 11. -/
def enterStateAfresh (new : StationState) (s : State) : State :=
  respondToState s.mode (freshPosture { s with mode := new })

/-- READY with complete neighbours, PROFILED otherwise (R6). -/
def restState (s : State) : StationState := if s.neighboursComplete then .ready else .profiled

/-- The terms of the drain test hold together (R11). -/
def drained (s : State) : Bool :=
  s.tracking.zone.isEmpty && s.arrivals.isEmpty
    && (decide (s.upstream = 0) || (s.peerEntry s.upstream).stale || decide ((s.peerEntry s.upstream).state = 3))

/-- The drain test: a drained station enters READY (R11). -/
def drainTest (s : State) : State := if decide (s.mode = .draining) && drained s then enterState .ready s else s

/-- All responses to a change of the zone queue or the arrivals list (R71, R96): the drive and the start test first, the
drain test last. DESIGN CHOICE: log entry 48. -/
def zoneChanged (before : Nat × Nat) (s : State) : State := drainTest (queueChanged before s)

/-- A record leaves the zone queue at once, as one change (R84). -/
def removeRecord (t : Tag) (s : State) : State := zoneChanged s.counts (dropRecord t s)

/-- The fault latch goes from clear to set in the present state: EVENT FAULT and STATUS (R7, R52). DEDUCED: log entry
23. DESIGN CHOICE: log entry 59. -/
def latchFault (s : State) : State :=
  queueStatus (queueEvent .fault (stateCode s.mode) 0 { s with station.faultLatch := true })

/-- The station enters QUIET: outputs and drive off, timers stopped, requests withdrawn, silencing off. It keeps the
rest (R15). Silencing is on from a detection until the station is QUIET (chapter 2). DEDUCED: log entry 24. -/
def enterQuiet (s : State) : State :=
  let s1 := { s with
    mode := .quiet
    link.silencing := false
    peer.statusTimer := none
    peer.walk := none
    dose.sampleTimer := none }
  freshPosture (driveOff (withdrawStart .drive (withdrawDoor s1)))

end Sys2Proof.Machine
end

