-- ==== Sys2Proof/Machine/Peer.lean ====
section
/-! DEFINITION. The peer view's commands (chapter 3): HOLD, STATUS, WALK_PASS, WALK_SEEN, EVENT_RECEIVED,
REPORT_RECEIVED, STATUS_TIMER_EXPIRY, PEER_STALE and WALK_PASS_QUEUED, and the frame handler that all frame rows share. -/

namespace Sys2Proof.Machine

open Sys2Proof

/-! ### The frame handler (R38, R46) -/

/-- The entry of a node from which a frame has just been handled. -/
def refreshedEntry (s : State) (node : Nat) : PeerEntry :=
  { s.peerEntry node with lastFrame := some s.now, stale := false }

/-- The oldest frame, when it is of the kind, taken from the buffer with its origin's time of last frame refreshed.
The change is not yet handed on. A QUIET station takes none (R43). DEDUCED: log entry 8. -/
def takeFrame (k : Kind) (s : State) : Option (Frame × State) :=
  match s.link.rxq with
  | [] => none
  | f :: rest =>
    if f.kind = k ∧ s.mode ≠ .quiet then
      some (f, { s with link.rxq := rest }.setPeerEntry f.origin (refreshedEntry s f.origin))
    else none

/-- The oldest frame, when it is of the kind, taken from the buffer, and the refreshed entry handed on (R50). DEDUCED:
log entry 8. -/
def handleFrame (k : Kind) (s : State) : Option (Frame × State) :=
  match takeFrame k s with
  | none => none
  | some (f, s1) => some (f, handDownstream s.downstreamEntry s1)

/-- A HOLD is the answer to every WAITING offer (R93). -/
def answerOffers (s : State) : State :=
  { s with tracking.zone := s.tracking.zone.map (fun r =>
      match r.handover with
      | .offered (.waiting _) => { r with handover := .offered .resting }
      | _ => r) }

/-! ### Meanings -/

/-- HOLD (R47, R93, R94). DEDUCED: log entry 14. -/
def execHold (s : State) : Host.Outcome State Fault Refusal :=
  match takeFrame .hold s with
  | none => .next s
  | some (f, s1) =>
    let holds := decide (payloadByte f.payload 0 ≠ 0)
    let s2 := s1.setPeerEntry f.origin { s1.peerEntry f.origin with holding := holds }
    let s3 := handDownstream s.downstreamEntry s2
    if f.origin = s3.downstream ∧ holds = true then done (answerOffers s3) else done s3

/-- The entry of a STATUS's origin, from its payload (R48). DESIGN CHOICE: log entry 21. -/
def statusEntry (f : Frame) (e : PeerEntry) : PeerEntry :=
  { e with
    state := payloadByte f.payload 0
    flags := f.payload.getD 1 0#8
    holding := (f.payload.getD 1 0#8).getLsbD 0 }

/-- A STATUS from the downstream with its holding flag clear revives (R94). Where it turns the holding field from set to
clear, that change has revived already, and the second event does nothing. DEDUCED: log entry 47. -/
def statusRevives (f : Frame) (before : State) : Bool :=
  !(f.payload.getD 1 0#8).getLsbD 0 && !before.downstreamEntry.any (·.holding)

/-- STATUS (R48, R50): the entry, then what the downstream's or the upstream's STATUS hands on. DEDUCED: log entry 14.
From the downstream the drive comes first, then the revival, then the chain flags. DESIGN CHOICE: log entry 55. Where one
node is both neighbours the drain test comes after them. DESIGN CHOICE: log entry 62. -/
def execStatus (s : State) : Host.Outcome State Fault Refusal :=
  match takeFrame .status s with
  | none => .next s
  | some (f, s1) =>
    let s2 := s1.setPeerEntry f.origin (statusEntry f (s1.peerEntry f.origin))
    let s3 := handDownstream s.downstreamEntry s2
    let s4 :=
      if f.origin = s3.downstream then
        evaluateChain (if statusRevives f s then revive s3 else s3)
      else s3
    if f.origin = s4.upstream then done (drainTest s4) else done s4

/-- WALK_PASS (R56). -/
def execWalkPass (s : State) : Host.Outcome State Fault Refusal :=
  match handleFrame .walkPass s with
  | none => .next s
  | some (f, s1) =>
    match s1.peer.walk with
    | some w =>
      if s1.mode = .walking ∧ s1.isHead = false ∧ w.edgeSeen = false then
        done { s1 with peer.walk := some { w with passOrigin := f.origin, passAdvance := 0 } }
      else done s1
    | none => done s1

/-- WALK_SEEN (R60). The STATUS of a replaced downstream is queued before its EVENT WALK_ORDER. DESIGN CHOICE: log entry
60. -/
def execWalkSeen (s : State) : Host.Outcome State Fault Refusal :=
  match handleFrame .walkSeen s with
  | none => .next s
  | some (f, s1) =>
    if s1.mode ≠ .walking ∨ payloadByte f.payload 0 ≠ s1.station.number then done s1
    else if s1.isTail then done (queueEvent .walkOrder (256 * 4) f.origin s1)
    else if s1.downstream = f.origin then done s1
    else
      let s2 := setNeighbours ⟨s1.upstream, f.origin, s1.transferDistance⟩ s1
      if s1.downstream = 0 then done s2
      else done (queueEvent .walkOrder (256 * 3 + s1.downstream) f.origin s2)

/-- EVENT_RECEIVED (R38): only the time of last frame. -/
def execEventReceived (s : State) : Host.Outcome State Fault Refusal :=
  match handleFrame .event s with
  | none => .next s
  | some (_, s1) => done s1

/-- REPORT_RECEIVED (R38): only the time of last frame. -/
def execReportReceived (s : State) : Host.Outcome State Fault Refusal :=
  match handleFrame .report s with
  | none => .next s
  | some (_, s1) => done s1

/-- STATUS_TIMER_EXPIRY (R51): a STATUS, and the timer starts again. DESIGN CHOICE: log entry 6. -/
def execStatusTimerExpiry (s : State) : Host.Outcome State Fault Refusal :=
  match s.peer.statusTimer with
  | none => .next s
  | some t =>
    if t.due ≤ s.now ∧ s.mode ≠ .quiet then
      done (queueStatus { s with peer.statusTimer := some { t with due := t.due + t.period } })
    else .next s

/-- A heard entry whose age exceeds the staleness age and that is not yet stale (R49). -/
def goesStale (s : State) (e : PeerEntry) : Bool :=
  !e.stale && e.lastFrame.any (fun t => decide (s.stalenessAge < s.now - t))

/-- PEER_STALE (R49, R50): the entry becomes stale, and the change is handed on. DESIGN CHOICE: log entry 6. Where one
node is both neighbours the drain test comes last. DESIGN CHOICE: log entry 62. -/
def execPeerStale (node : Nat) (s : State) : Host.Outcome State Fault Refusal :=
  let e := s.peerEntry node
  if goesStale s e && decide (s.mode ≠ .quiet) then
    let s1 := handDownstream s.downstreamEntry (s.setPeerEntry node { e with stale := true })
    if node = s1.upstream then done (drainTest s1) else done s1
  else .next s

/-- The station's one WALK_PASS is due: the edge advance has reached ZONE_LENGTH (R59). -/
def walkPassDue (s : State) : Bool :=
  s.peer.walk.any (fun w => w.edgeSeen && !w.passSent && decide (s.zoneLength ≤ w.edgeAdvance))

/-- Queues the WALK_PASS when it is due, in WALKING (R59). -/
def queueWalkPass (s : State) : State :=
  match s.peer.walk with
  | some w =>
    if walkPassDue s ∧ s.mode = .walking then
      queueFrame (ownFrame .walkPass 0 [] s) { s with peer.walk := some { w with passSent := true } }
    else s
  | none => s

/-- WALK_PASS_QUEUED (R59). DEDUCED: log entry 7. -/
def execWalkPassQueued (s : State) : Host.Outcome State Fault Refusal :=
  if walkPassDue s ∧ s.mode = .walking then done (queueWalkPass s) else .next s

end Sys2Proof.Machine
end

