-- ==== Sys2Proof/Machine/Handover.lean ====
section
/-! DEFINITION. The handover unit's commands (chapter 5): OFFER, TAKE, PASS, OFFER_REPLY_EXPIRY, RESERVATION_EXPIRY and
ARRIVAL_AT_T, and the arrivals list's turn at an accepted forward count. -/

namespace Sys2Proof.Machine

open Sys2Proof

/-! ### The arrivals list (R96) -/

def withoutArrival (t : Tag) (l : List Arrival) : List Arrival := l.eraseP (fun a => decide (a.image.tag = t))

def dropArrival (t : Tag) (s : State) : State := { s with arrivals := withoutArrival t s.arrivals }

/-- The handover unit acts on a frame of this neighbour (R87). -/
def actsOnFrame (neighbour : Nat) (f : Frame) (s : State) : Bool :=
  s.hasProfile && decide (s.mode ≠ .walking) && decide (neighbour ≠ 0) && decide (f.origin = neighbour)

/-- The TAKE that answers an OFFER of a tag (R97). -/
def takeFrameTo (origin : Nat) (t : Tag) (s : State) : Frame := ownFrame .take origin (be16 t.toNat) s

/-- The HOLD that answers an OFFER without a reservation (R97). -/
def holdAnswer (s : State) : Frame := ownFrame .hold s.upstream [1#8, s.flow.reasons.byte] s

/-- A new entry at the youngest end of the list, without the blocks' responses. -/
def addArrival (armed : Bool) (m : UnitImage) (s : State) : State :=
  { s with arrivals := s.arrivals ++ [⟨armed, m, s.now, 0⟩] }

/-- D's answer to an OFFER from its upstream: the first row of R97 that holds. The TAKE precedes the STATUS
of the arrivals count. DESIGN CHOICE: log entry 59. -/
def answerOffer (origin : Nat) (m : UnitImage) (s : State) : State :=
  if s.zoneHolds m.tag then s
  else if s.arrivalsHold m.tag then queueFrame (takeFrameTo origin m.tag s) s
  else if s.holding = true ∨ 4 ≤ s.arrivals.length then queueFrame (holdAnswer s) s
  else
    let s1 := addArrival false m s
    zoneChanged s.counts (queueFrame (takeFrameTo origin m.tag s1) s1)

/-- An entry becomes ARMED, with the PASS's image (R99). -/
def armArrival (m : UnitImage) (s : State) : State :=
  { s with arrivals := s.arrivals.map (fun a => if a.image.tag = m.tag then { a with armed := true, image := m, advance := 0 } else a) }

/-- D's handling of a PASS from its upstream: the first row of R99 that holds. -/
def acceptPass (m : UnitImage) (s : State) : State :=
  if s.zoneHolds m.tag then s
  else if s.arrivals.any (fun a => decide (a.image.tag = m.tag) && a.armed) then s
  else if s.arrivalsHold m.tag then armArrival m s
  else if s.arrivals.length < 4 then zoneChanged s.counts (addArrival true m s)
  else count .untakenPass s

/-- A TAKE marks an OFFERED record TAKEN (R92). -/
def markTaken (t : Tag) (s : State) : State :=
  match s.findRecord t with
  | none => s
  | some r =>
    if r.handover.isOffered then evaluateDrive (setHandover t .taken r.attempts s) else s

/-! ### Placement (R100 to R103) -/

/-- An image's length in this station's counts (R102). -/
def placedLength (s : State) (length : Nat) : Nat := max 1 (min 4095 (roundDiv (length * s.lengthScale) 256))

/-- CHILL and FREEZE stations keep a dwell account of their own. -/
def ownDwell (s : State) : Bool := s.hasRole .chill || s.hasRole .freeze

/-- The record that a placement enters (R102). -/
def placedRecord (s : State) (m : UnitImage) : UnitRecord :=
  { tag := m.tag
    kind := m.kind
    lot := m.lot
    head := 0
    length := placedLength s m.length
    mass := m.mass
    dose := m.dose
    dwell := if ownDwell s then some 0 else m.dwell
    disposition := m.disposition
    blanchMade := m.blanchMade
    dwellMade := if ownDwell s then false else m.dwellMade
    forming := false
    handover := .localUnit
    attempts := 0 }

/-- Every ARMED entry's advance increases by one (R100). -/
def advanceArrivals (s : State) : State :=
  { s with arrivals := s.arrivals.map (fun a => if a.armed then { a with advance := sat16 (a.advance + 1) } else a) }

/-- An ARMED entry has reached the transfer distance. With T = 0 it waits for its first count (R101). -/
def arrivalDue (s : State) (a : Arrival) : Bool := a.armed && decide (max s.transferDistance 1 ≤ a.advance)

/-- An ARMED entry is imminent (R100). -/
def arrivalImminent (s : State) (a : Arrival) : Bool :=
  a.armed && decide (s.transferDistance ≤ a.advance + s.arrivalTolerance)

/-- The entry leaves without a record: ARRIVAL_MISS (R101, R103). -/
def missArrival (t : Tag) (s : State) : State := zoneChanged s.counts (count .arrivalMiss (dropArrival t s))

/-- An entry is placed, after a forming segment is closed (R102). A tag that the queue holds places none (R103).
DEDUCED: log entries 13 and 20. The EVENT TRACK_MERGE of a merge is queued before the frames of the counts' change.
DESIGN CHOICE: log entry 57. -/
def placeArrival (m : UnitImage) (s : State) : State :=
  if s.zoneHolds m.tag then missArrival m.tag s
  else
    let s1 := closeForming enterRecord zoneChanged id s
    if s1.zoneHolds m.tag then missArrival m.tag s1
    else zoneChanged s1.counts (enterRecord (placedRecord s1 m) (gainLoad m.mass (dropArrival m.tag s1)))

/-- The test of one due entry, against the off run of this count (R101). -/
def testArrival (s : State) (a : Arrival) : State :=
  if 2 * s.arrivalTolerance ≤ s.tracking.offRun then missArrival a.image.tag s else placeArrival a.image s

/-- Every due entry is tested, in list order (R101). DEDUCED: log entry 12. -/
def testArrivals (s : State) : State := (s.arrivals.filter (arrivalDue s)).foldl testArrival s

/-- The handover unit's turn at an accepted forward count (R88, R95, R100). DEDUCED: log entry 12. -/
def handoverTurn (s : State) : State := examineZone (testArrivals (advanceArrivals s))

/-! ### Meanings -/

/-- OFFER (R87, R97). -/
def execOffer (s : State) : Host.Outcome State Fault Refusal :=
  match handleFrame .offer s with
  | none => .next s
  | some (f, s1) =>
    if actsOnFrame s1.upstream f s1 then done (answerOffer f.origin (imageOf f.payload) s1) else done s1

/-- TAKE (R87, R92). -/
def execTake (s : State) : Host.Outcome State Fault Refusal :=
  match handleFrame .take s with
  | none => .next s
  | some (f, s1) =>
    if actsOnFrame s1.downstream f s1 then done (markTaken (BitVec.ofNat 16 (payload16 f.payload 0)) s1) else done s1

/-- PASS (R87, R99). -/
def execPass (s : State) : Host.Outcome State Fault Refusal :=
  match handleFrame .pass s with
  | none => .next s
  | some (f, s1) => if actsOnFrame s1.upstream f s1 then done (acceptPass (imageOf f.payload) s1) else done s1

/-- The record WAITS and its reply deadline has passed. -/
def replyOverdue (s : State) (r : UnitRecord) : Bool :=
  match r.handover with
  | .offered (.waiting deadline) => decide (deadline ≤ s.now)
  | _ => false

/-- An unanswered offer is made again or rests (R91). -/
def expireReply (t : Tag) (r : UnitRecord) (s : State) : State :=
  match nextOffer s r with
  | (r', again) =>
    let s1 := setHandover t r'.handover r'.attempts s
    if again then queueFrame (offerFrame r' s1) s1 else s1

/-- OFFER_REPLY_EXPIRY (R91). DESIGN CHOICE: log entry 6. -/
def execOfferReplyExpiry (t : Tag) (s : State) : Host.Outcome State Fault Refusal :=
  match s.findRecord t with
  | none => .next s
  | some r => if s.acts && replyOverdue s r then done (expireReply t r s) else .next s

/-- A RESERVED entry has outlived RESERVE_LIMIT (R98). -/
def reservationOverdue (s : State) (a : Arrival) : Bool := !a.armed && decide (a.created + s.reserveLimit ≤ s.now)

/-- RESERVATION_EXPIRY (R98). DESIGN CHOICE: log entry 6. -/
def execReservationExpiry (t : Tag) (s : State) : Host.Outcome State Fault Refusal :=
  match s.arrivals.find? (fun a => decide (a.image.tag = t)) with
  | none => .next s
  | some a =>
    if s.acts && reservationOverdue s a then done (zoneChanged s.counts (count .reserveExpired (dropArrival t s)))
    else .next s

/-- ARRIVAL_AT_T (R101): the tests of the due entries, as an accepted forward count makes them. DEDUCED: log entry 7. -/
def execArrivalAtT (s : State) : Host.Outcome State Fault Refusal :=
  if s.acts && s.arrivals.any (arrivalDue s) then done (testArrivals s) else .next s

end Sys2Proof.Machine
end

