-- ==== Sys2Proof/Machine/Packing.lean ====
section
/-! DEFINITION. The packing unit's turn at an accepted forward count (R174 to R181), and its command
DOOR_CYCLE_COMPLETION (R183). Items 70, 71 and 74 are the unit's. -/

namespace Sys2Proof.Machine

open Sys2Proof

def State.bagTarget (s : State) : Nat := s.item 70
def State.bagOver (s : State) : Nat := s.item 71
def State.carrierSize (s : State) : Nat := s.item 74

/-! ### Bags (R175 to R177) -/

/-- The record of a closed bag (R177). -/
def bagRecord (s : State) (t : Tag) (b : Bag) (disposition : Nat) : UnitRecord :=
  { tag := t
    kind := .bag
    lot := b.lot
    head := s.bagPoint + s.bagPitch
    length := s.bagPitch
    mass := b.mass
    dose := none
    dwell := none
    disposition := disposition
    blanchMade := false
    dwellMade := false
    forming := false
    handover := .localUnit
    attempts := 0 }

/-- A bag closes: tag, EVENT, count, channel event, record, in the order of R177. The blocks respond to the whole
consumption at its end. -/
def closeBag (disposition : Nat) (b : Bag) (s : State) : State :=
  match issueTag { s with packing.openBag := none } with
  | (t, s1) =>
    let s2 := giveEvent .bagClosed (count .bagsClosed (queueEvent .bagClosed b.number t.toNat s1))
    enterRecord (bagRecord s2 t b disposition) s2

/-- Step 1 of R176: an open bag of another lot closes SHORT. -/
def closeOtherLot (lot : Nat) (s : State) : State :=
  match s.packing.openBag with
  | none => s
  | some b => if b.lot = lot then s else closeBag 2 b s

/-- Step 2 of R176: a bag is open, opened now if none was. -/
def openBagFor (lot : Nat) (s : State) : Bag × State :=
  match s.packing.openBag with
  | some b => (b, s)
  | none =>
    (⟨s.packing.nextBag, lot, 0⟩,
      { s with
        packing.openBag := some ⟨s.packing.nextBag, lot, 0⟩
        packing.nextBag := (s.packing.nextBag + 1) % 65536 })

/-- How a bag stands after a segment joined it: closed with a disposition, or open (steps 4 and 5 of R176). -/
def bagCloses (s : State) (segmentDisposition mass : Nat) : Option Nat :=
  if segmentDisposition ≠ 0 then some 9
  else if mass < s.bagTarget then none
  else if s.bagTarget + s.bagOver < mass then some 1
  else some 0

/-- A segment's material joins a bag, in the five steps of R176. -/
def bagSegment (u : UnitRecord) (s : State) : State :=
  match openBagFor u.lot (closeOtherLot u.lot s) with
  | (b, s1) =>
    let b' := { b with mass := sat16 (b.mass + u.mass) }
    match bagCloses s1 u.disposition b'.mass with
    | none => { s1 with packing.openBag := some b' }
    | some disposition => closeBag disposition b' s1

/-- A segment is consumed at the bag point: its removal and the bags' entries are one change (R175, R177). DEDUCED:
log entry 13. -/
def consumeSegment (u : UnitRecord) (s : State) : State :=
  zoneChanged s.counts (bagSegment u (dropRecord u.tag s))

/-! ### Carriers (R179 to R181) -/

/-- A carrier closes and enters the door list (R181). DESIGN CHOICE: log entry 59. -/
def closeCarrier (c : Carrier) (s : State) : State :=
  let s1 := { s with packing.openCarrier := none, packing.doorList := s.packing.doorList ++ [⟨c.number, c.disposition⟩] }
  doorTest (evaluateDrive (refreshReasons (giveEvent .carrierClosed s1)))

/-- Step 1 of R180: an open carrier of another lot closes, raised to SHORT. -/
def closeOtherCarrier (lot : Nat) (s : State) : State :=
  match s.packing.openCarrier with
  | none => s
  | some c => if c.lot = lot then s else closeCarrier { c with disposition := raiseTo 2 c.disposition } s

/-- Step 2 of R180: a carrier is open, opened now if none was. -/
def openCarrierFor (lot : Nat) (s : State) : Carrier × State :=
  match s.packing.openCarrier with
  | some c => (c, s)
  | none =>
    (⟨s.packing.nextCarrier, lot, 0, 0⟩, { s with packing.nextCarrier := (s.packing.nextCarrier + 1) % 65536 })

/-- A bag joins a carrier, in the four steps of R180. -/
def carryBag (u : UnitRecord) (s : State) : State :=
  match openCarrierFor u.lot (closeOtherCarrier u.lot s) with
  | (c, s1) =>
    let c' := { c with count := c.count + 1, disposition := raiseTo u.disposition c.disposition }
    if s1.carrierSize ≤ c'.count then closeCarrier c' s1 else { s1 with packing.openCarrier := some c' }

/-- A bag at the carrier point is loaded, unless the door list holds 4 carriers (R179). -/
def loadBag (u : UnitRecord) (s : State) : State :=
  if s.packing.doorList.length < 4 then carryBag u (removeRecord u.tag s) else s

/-! ### The packing unit's turn (R174) -/

/-- The records that the packing unit takes on this count. -/
def packingDue (s : State) (u : UnitRecord) : Bool :=
  (s.hasRole .bag && decide (u.kind = .segment) && decide (u.tail = s.bagPoint))
    || (s.hasRole .transfer && decide (u.kind = .bag) && decide (u.tail = s.carrierPoint))

def packingTags (s : State) : List Tag := (s.tracking.zone.filter (packingDue s)).map (·.tag)

/-- One record taken, if the queue still holds it (R84): a BAG station consumes SEGMENT records and a TRANSFER station
loads BAG records (R175, R179). A record of the other kind that holds the tag is another one, to which R72 has issued the
freed tag on this count, and the due record is gone (R174). -/
def packRecord (s : State) (t : Tag) : State :=
  match s.findRecord t with
  | none => s
  | some u =>
    if s.hasRole .bag && decide (u.kind = .segment) then consumeSegment u s
    else if s.hasRole .transfer && decide (u.kind = .bag) then loadBag u s
    else s

/-! ### Meanings -/

/-- Steps 1 to 5 of R183. DEDUCED: log entry 28. DESIGN CHOICE: log entry 59. -/
def storeCarrier (c : DoorEntry) (rest : List DoorEntry) (s : State) : State :=
  let s1 := count .carriersStored { s with packing.doorList := rest }
  let s2 := queueEvent .carrierStored c.number c.disposition s1
  let s3 := { s2 with flow.doorLimiter.lastStop := some s2.now, packing.door := .idle }
  evaluateDrive (refreshReasons s3)

/-- DOOR_CYCLE_COMPLETION (R183). DESIGN CHOICE: log entry 6. -/
def execDoorCycleCompletion (s : State) : Host.Outcome State Fault Refusal :=
  match s.packing.door, s.packing.doorList with
  | .opened endTime, c :: rest =>
    if s.acts && decide (endTime ≤ s.now) then done (doorTest (storeCarrier c rest s)) else .next s
  | _, _ => .next s

end Sys2Proof.Machine
end

