-- ==== Sys2Proof/Machine/Belt.lean ====
section
/-! DEFINITION. The belt's commands: FORWARD_COUNT and REVERSE_COUNT (R65, R66), and GAP_CLOSE, LENGTH_CLOSE and
GAP_RUN_END (R76, R77, R137). An accepted forward count is taken by each block in the order R67, R100, R118, R166 and
R174 give. -/

namespace Sys2Proof.Machine

open Sys2Proof

/-! ### The encoder (R65) -/

/-- A transition in the sequence 00, 10, 11, 01, 00 of (A, B). -/
def encoderForward (e : EncoderPair) : EncoderPair := ⟨!e.b, e.a⟩

/-- A transition in the opposite sequence. -/
def encoderReverse (e : EncoderPair) : EncoderPair := ⟨e.b, !e.a⟩

/-- What a transition of the pair counts as (R65). -/
inductive EncoderCount where
  | forward
  | reverse
  | none
  deriving DecidableEq, Repr

/-- Decodes a transition of the encoder pair. No change, and a change of both inputs together, counts nothing. No
command carries such a transition, so none changes the pair. DESIGN CHOICE: log entry 54. -/
def decodeTransition (old new : EncoderPair) : EncoderCount :=
  if new = encoderForward old then .forward else if new = encoderReverse old then .reverse else .none

/-! ### Tracking's own steps 1 and 2 (R67, R68) -/

/-- One record moves one count downstream. A forming record grows with its head (R75). -/
def moveRecord (r : UnitRecord) : UnitRecord :=
  { r with head := r.head + 1, length := if r.forming then r.head + 1 else r.length }

/-- Step 1 of R67. -/
def moveHeads (s : State) : State :=
  { s with
    tracking.zone := s.tracking.zone.map moveRecord
    tracking.mergeBound := s.tracking.mergeBound.map (fun m => { m with length := m.length + 1 }) }

/-- Step 2 of R67: the off run (R68). -/
def sampleEntry (on : Bool) (s : State) : State :=
  { s with tracking.offRun := if on then 0 else sat16 (s.tracking.offRun + 1) }

/-- A gap run's count (R137). -/
def stepGapRun (s : State) : State :=
  match s.flow.gapRun with
  | none => s
  | some n => { s with flow.gapRun := if n + 1 < s.gapRunLength then some (n + 1) else none }

/-! ### The walk (R55 to R59) -/

/-- The walk state after a count without the edge. -/
def walkAdvance (on : Bool) (w : Walk) : Walk :=
  { w with
    offSeen := w.offSeen || !on
    passAdvance := if w.passOrigin ≠ 0 ∧ w.edgeSeen = false then sat16 (w.passAdvance + 1) else w.passAdvance
    edgeAdvance := if w.edgeSeen then sat16 (w.edgeAdvance + 1) else w.edgeAdvance }

/-- This sample is the station's edge (R55). -/
def walkEdge (on : Bool) (w : Walk) : Bool := on && w.offSeen && !w.edgeSeen

def queueWalkSeen (upstream distance : Nat) (s : State) : State :=
  queueFrame (ownFrame .walkSeen 0 (byteOf upstream :: be16 distance) s) s

/-- The EVENT WALK_ORDER that an edge without a full pass brings (R58). -/
def edgeOrder (w : Walk) (s : State) : State :=
  if w.passOrigin = 0 then queueEvent .walkOrder 256 0 s
  else if w.passAdvance = 0 then queueEvent .walkOrder (512 + w.passOrigin) w.passOrigin s
  else s

/-- The transfer distance that an edge records: 0 when no WALK_PASS has been heard (R58). -/
def edgeDistance (w : Walk) : Nat := if w.passOrigin = 0 then 0 else w.passAdvance

/-- The station's entry edge (R57, R58). Its frames are queued in this order: the STATUS and the HOLD of the neighbour
record, WALK_SEEN, EVENT. DESIGN CHOICE: log entry 52. -/
def readEdge (w : Walk) (s : State) : State :=
  let s1 := { s with peer.walk := some { w with edgeSeen := true, edgeAdvance := 0 } }
  if s.isHead then queueWalkSeen 0 0 s1
  else
    let s2 := setNeighbours ⟨w.passOrigin, s1.downstream, edgeDistance w⟩ s1
    edgeOrder w (queueWalkSeen w.passOrigin (edgeDistance w) s2)

/-- The walk's part in an accepted forward count, after the sensor sample. DEDUCED: log entry 18. -/
def walkStep (on : Bool) (s : State) : State :=
  match s.peer.walk with
  | none => s
  | some w =>
    if s.mode ≠ .walking then s
    else if walkEdge on w then readEdge w s
    else queueWalkPass { s with peer.walk := some (walkAdvance on w) }

/-! ### Closes: step 3 of R67 (R76, R77) -/

/-- The head of the forming record, or the merge-bound length. -/
def formingLength (s : State) : Option Nat :=
  match s.tracking.mergeBound with
  | some m => some m.length
  | none => (s.tracking.zone.find? (·.forming)).map (·.head)

/-- A gap ends the forming segment (R76). -/
def gapDue (s : State) : Bool := (formingLength s).isSome && decide (s.gapLength ≤ s.tracking.offRun)

/-- The maximum length ends the forming segment, and no gap does at the same count (R77). DEDUCED: log entry 19. -/
def lengthDue (s : State) : Bool := (formingLength s).any (fun n => decide (s.segmentMax ≤ n)) && !gapDue s

/-- The gap close: the head less GAP_LENGTH, at least 1. -/
def closeByGap (enter : UnitRecord → State → State) (s : State) : State :=
  closeForming enter zoneChanged (fun head => max 1 (head - s.gapLength)) s

/-- The length close. -/
def closeByLength (enter : UnitRecord → State → State) (s : State) : State :=
  closeForming enter zoneChanged (fun _ => s.segmentMax) s

/-- The close of this count, if one is due. DEDUCED: log entry 46. -/
def closeDue (s : State) : State :=
  if gapDue s then closeByGap enterInCount s else if lengthDue s then closeByLength enterInCount s else s

/-! ### Verdicts (R118 to R121). Items 32, 33 and 37 are the limits. -/

/-- The failing outcome of a record's verdict, if it fails: OVER 4, UNDER 5, WARM 6 (R119, R120). -/
def verdictOutcome (s : State) (r : UnitRecord) : Option Nat :=
  if s.hasRole .blanch then
    match r.dose with
    | none => some 5
    | some d => if d < s.item 32 then some 5 else if s.item 33 < d then some 4 else none
  else
    match r.dwell with
    | none => some 6
    | some d => if d < s.item 37 then some 6 else none

/-- The record after its verdict. -/
def judgedRecord (s : State) (r : UnitRecord) : UnitRecord :=
  { r with
    disposition := match verdictOutcome s r with
      | none => r.disposition
      | some code => raiseTo code r.disposition
    blanchMade := r.blanchMade || s.hasRole .blanch
    dwellMade := r.dwellMade || !s.hasRole .blanch }

/-- A failing verdict is counted and reported (R121). -/
def reportVerdict (outcome : Option Nat) (s : State) (r : UnitRecord) : State :=
  match outcome with
  | none => s
  | some code => queueEvent .verdict code r.tag.toNat (count .verdictFail s)

/-- The dose unit's turn: every due record is judged, in queue order. -/
def judgeZone (s : State) : State :=
  (s.tracking.zone.filter (verdictDue s)).foldl (fun s1 r => reportVerdict (verdictOutcome s r) s1 r)
    { s with tracking.zone := s.tracking.zone.map (fun r => if verdictDue s r then judgedRecord s r else r) }

/-- The close of this count has made a record of the merge-bound segment that `s` held. -/
def closeInserted (s closed : State) : Bool := s.tracking.mergeBound.any (fun m => closed.zoneHolds m.tag)

/-- The close of step 3, and the dose unit's turn. A record that the close inserted is examined by the handover unit after
the verdicts, so that a frame it brings about carries them (R88, R95, R118). DEDUCED: log entry 46. -/
def closeAndJudge (s : State) : State :=
  let s1 := closeDue s
  let s2 := judgeZone s1
  if closeInserted s s1 then examineZone s2 else s2

/-! ### Removing windows and the packing unit (R166, R174) -/

/-- Channel `ch` is a RUNNING segment window with the remove flag. -/
def removingWindow (s : State) (ch : Nat) : Bool :=
  let r := s.channelRecord ch
  decide (r.mode = .segmentWindow) && r.remove && (s.channels.chans.toList[ch]?).any (fun c => decide (c.run = .running))

/-- The window asks for the removal of this record (R166). -/
def windowRemoves (r : ChannelRecord) (u : UnitRecord) : Bool :=
  r.mask.getLsbD u.disposition && decide (u.tail = r.b) && decide (r.a < r.b)

/-- A record removed by a window counts DIVERTED. One already gone counts nothing. -/
def divertRecord (s : State) (t : Tag) : State :=
  if s.zoneHolds t then count .diverted (removeRecord t s) else s

/-- One window's turn, over the records that were in the queue before the packing unit's turn. DEDUCED: log entry 36. -/
def takeWindow (present : List (Tag × UnitKind)) (s : State) (ch : Nat) : State :=
  if removingWindow s ch then
    ((s.tracking.zone.filter (fun u => windowRemoves (s.channelRecord ch) u && present.contains (u.tag, u.kind))).map
      (·.tag)).foldl divertRecord s
  else s

/-- The turn of the windows that `takes` names, by channel number. DESIGN CHOICE: log entry 58. -/
def takeWindows (present : List (Tag × UnitKind)) (takes : Nat → Bool) (s : State) : State :=
  ((List.range 6).filter takes).foldl (takeWindow present) s

/-- The records present, by tag and unit kind. DEDUCED: log entry 36. -/
def presentUnits (s : State) : List (Tag × UnitKind) := s.tracking.zone.map (fun u => (u.tag, u.kind))

/-- The windows and the packing unit take the count. Where both can act, a free value says of each window whether it is
before the packing unit (R174). A window after it takes none of the bags that the packing unit has entered, not even one
that holds the tag of a bag that a window before it has removed. DESIGN CHOICE: log entry 10. DEDUCED: log entry 36. -/
def divertAndPack (s : State) : State :=
  let due := packingTags s
  if due = [] then takeWindows (presentUnits s) (fun _ => true) s
  else if (List.range 6).any (removingWindow s) then
    let first := Config.windowTakesCountFirst s.orderDraws
    let s1 := takeWindows (presentUnits s) first { s with orderDraws := s.orderDraws + 1 }
    takeWindows (presentUnits s1) (fun ch => !first ch) (due.foldl packRecord s1)
  else due.foldl packRecord s

/-! ### Removal at the zone end: step 4 of R67 (R83) -/

def pastZoneEnd (s : State) (r : UnitRecord) : Bool := decide ((s.zoneLength : Int) ≤ r.tail)

/-- One record leaves at the zone end. A TRANSFER station reports it (R179), before the frames of the
removal. DESIGN CHOICE: log entry 59. -/
def leaveZone (s : State) (r : UnitRecord) : State :=
  let s1 := dropRecord r.tag s
  zoneChanged s.counts
    (if s.hasRole .transfer then queueEvent .unbagged (decide (r.kind = .bag)).toNat r.tag.toNat s1 else s1)

/-- Step 4 of R67. Several records that reach the zone end at one count leave in queue order. DESIGN CHOICE: log entry
53. -/
def removeAtZoneEnd (s : State) : State := (s.tracking.zone.filter (pastZoneEnd s)).foldl leaveZone s

/-! ### The start test: step 5 of R67 (R73, R74, R81) -/

/-- A record covers the entry. -/
def coversEntry (r : UnitRecord) : Bool := decide (r.tail ≤ 0)

/-- All terms of the start test hold. -/
def startDue (on : Bool) (s : State) : Bool :=
  on && !s.formingNow && !s.tracking.zone.any coversEntry && !s.arrivals.any (arrivalImminent s) && beltState s.mode

/-- A record as formation makes it (R69, R74). -/
def formedRecord (t : Tag) (lot disposition : Nat) : UnitRecord :=
  { tag := t
    kind := .segment
    lot := lot
    head := 0
    length := 0
    mass := 0
    dose := none
    dwell := none
    disposition := disposition
    blanchMade := false
    dwellMade := false
    forming := true
    handover := .localUnit
    attempts := 0 }

/-- The orphan's count and EVENT at a station that is not a head (R74). -/
def reportOrphan (t : Tag) (s : State) : State :=
  if s.isHead then s else queueEvent .orphan s.upstream t.toNat (count .orphans s)

/-- A segment starts: as the last record, or merge-bound when the queue holds 24 (R73, R81). An orphan's EVENT is queued
before the frames that its record's entry brings. DESIGN CHOICE: log entry 56. -/
def startSegment (s : State) : State :=
  match issueTag s with
  | (t, s1) =>
    let lot := if s.isHead then s.tracking.currentLot else 0
    let disposition := if s.isHead then 0 else 7
    let s2 := reportOrphan t s1
    if s.tracking.zone.length < 24 then
      zoneChanged s.counts (examineZone (insertRecord (formedRecord t lot disposition) s2))
    else { s2 with tracking.mergeBound := some ⟨t, lot, disposition, 0⟩ }

def startTest (on : Bool) (s : State) : State := if startDue on s then startSegment s else s

/-! ### The accepted forward count -/

/-- The steps of an accepted forward count up to the closes of step 3. DEDUCED: log entry 18. -/
def beltMoves (on : Bool) (s : State) : State :=
  walkStep on (sampleEntry on (moveHeads (stepGapRun (stepBelt s))))

/-- One belt-advance event (R67). A length close lets no segment start at its count (R77). DEDUCED: log entries 7 and
19. -/
def beltAdvance (on : Bool) (s : State) : State :=
  let s1 := beltMoves on s
  let s2 := handoverTurn (removeAtZoneEnd (divertAndPack (closeAndJudge s1)))
  if lengthDue s1 then s2 else startTest on s2

/-! ### Meanings -/

/-- FORWARD_COUNT (R65 to R67). -/
def execForwardCount (on : Bool) (s : State) : Host.Outcome State Fault Refusal :=
  let s1 := { s with encoder := encoderForward s.encoder }
  if s1.acts then
    if s1.tracking.reverseDebt = 0 then done (beltAdvance on s1)
    else .next { s1 with tracking.reverseDebt := s1.tracking.reverseDebt - 1 }
  else .next s1

/-- REVERSE_COUNT (R65, R66). -/
def execReverseCount (s : State) : Host.Outcome State Fault Refusal :=
  let s1 := { s with encoder := encoderReverse s.encoder }
  if s1.acts then .next { s1 with tracking.reverseDebt := sat16 (s1.tracking.reverseDebt + 1) } else .next s1

/-- GAP_CLOSE (R76): the close of an accepted forward count whose off run has reached GAP_LENGTH. DEDUCED: log entry
7. -/
def execGapClose (s : State) : Host.Outcome State Fault Refusal :=
  if s.acts && gapDue s then done (closeByGap enterRecord s) else .next s

/-- LENGTH_CLOSE (R77): the close of an accepted forward count whose head has reached SEGMENT_MAX. DEDUCED: log entry
7. -/
def execLengthClose (s : State) : Host.Outcome State Fault Refusal :=
  if s.acts && lengthDue s then done (closeByLength enterRecord s) else .next s

/-- The gap run has reached its length (R137). -/
def gapRunDue (s : State) : Bool := s.flow.gapRun.any (fun n => decide (s.gapRunLength ≤ n))

/-- GAP_RUN_END (R137): the gap run ends, and the infeed gate with it may open. DEDUCED: log entry 7. -/
def execGapRunEnd (s : State) : Host.Outcome State Fault Refusal :=
  if s.acts && gapRunDue s then done { s with flow.gapRun := none } else .next s

end Sys2Proof.Machine
end

