-- ==== Sys2Proof/Machine/Dose.lean ====
section
/-! DEFINITION. The sample expiry (chapter 6, and R136, R139, R140 of the flow unit), and the commands SAMPLE_EXPIRY and
THROTTLE_STEP. Items 26 to 41 are its items. -/

namespace Sys2Proof.Machine

open Sys2Proof

/-! ### Probes (R107, R109, R110) -/

def thermalStation (s : State) : Bool := s.hasRole .blanch || s.hasRole .chill || s.hasRole .freeze

/-- Probe `n` is used (R107). -/
def probeUsed (s : State) (n : Nat) : Bool := thermalStation s && decide (s.item (26 + n) ≠ 0)

/-- A used probe's range [start, end). -/
def probeStart (s : State) (n : Nat) : Nat := itemHigh s.items (26 + n)
def probeEnd (s : State) (n : Nat) : Nat := itemLow s.items (26 + n)

/-- A reading in the valid range (R109). -/
def readingValid (t : Int) : Bool := decide (-600 ≤ t) && decide (t ≤ 1300)

/-- A probe takes a reading (R109). -/
def probeReads (t : Int) (p : Probe) : Probe :=
  if readingValid t then ⟨some t, 0⟩ else { p with invalidRun := min 255 (p.invalidRun + 1) }

/-- A used probe is stale (R110). DEDUCED: log entry 35. -/
def probeIsStale (limit : Nat) (p : Probe) : Bool := p.value.isNone || decide (limit < p.invalidRun)

/-- This reading makes the probe stale. -/
def becomesStale (limit : Nat) (old new : Probe) : Bool := !probeIsStale limit old && probeIsStale limit new

/-- Probe `n`'s record. A number above 3 names none. -/
def State.probe (s : State) (n : Nat) : Probe := s.dose.probes.toList.getD n ⟨none, 0⟩

def State.setProbe (s : State) (n : Nat) (p : Probe) : State :=
  if h : n < 4 then { s with dose.probes := s.dose.probes.set n p } else s

/-- One used probe is sampled: PROBE_STALE is counted and reported when it becomes stale. DEDUCED: log entry 31. -/
def sampleProbe (s : State) (reading : Nat × Int) : State :=
  if probeUsed s reading.1 then
    let old := s.probe reading.1
    let new := probeReads reading.2 old
    let s1 := s.setProbe reading.1 new
    if becomesStale s.staleLimit old new then queueEvent .probeStale reading.1 0 (count .probeStale s1) else s1
  else s

/-! ### The lethal increment (R113 to R116) -/

/-- The decade table: M(f) = round(4,096 × 10^(f / 256)) (R114). -/
def decadeTable : List Nat :=
  [4096, 4133, 4170, 4208, 4246, 4284, 4323, 4362, 4402, 4441, 4481, 4522, 4563, 4604, 4646, 4688]
    ++ [4730, 4773, 4816, 4859, 4903, 4948, 4992, 5037, 5083, 5129, 5175, 5222, 5269, 5317, 5365, 5413]
    ++ [5462, 5511, 5561, 5611, 5662, 5713, 5765, 5817, 5870, 5923, 5976, 6030, 6085, 6140, 6195, 6251]
    ++ [6308, 6365, 6422, 6480, 6539, 6598, 6657, 6717, 6778, 6839, 6901, 6964, 7026, 7090, 7154, 7219]
    ++ [7284, 7350, 7416, 7483, 7551, 7619, 7688, 7757, 7827, 7898, 7969, 8041, 8114, 8187, 8261, 8336]
    ++ [8411, 8487, 8564, 8641, 8719, 8798, 8878, 8958, 9039, 9120, 9203, 9286, 9370, 9455, 9540, 9626]
    ++ [9713, 9801, 9889, 9979, 10069, 10160, 10252, 10344, 10438, 10532, 10627, 10723, 10820, 10918, 11017, 11116]
    ++ [11217, 11318, 11420, 11523, 11627, 11733, 11839, 11945, 12053, 12162, 12272, 12383, 12495, 12608, 12722, 12837]
    ++ [12953, 13070, 13188, 13307, 13427, 13548, 13671, 13794, 13919, 14045, 14172, 14300, 14429, 14559, 14691, 14824]
    ++ [14958, 15093, 15229, 15367, 15505, 15646, 15787, 15930, 16073, 16219, 16365, 16513, 16662, 16813, 16965, 17118]
    ++ [17273, 17429, 17586, 17745, 17905, 18067, 18230, 18395, 18561, 18729, 18898, 19069, 19241, 19415, 19591, 19768]
    ++ [19946, 20126, 20308, 20492, 20677, 20864, 21052, 21242, 21434, 21628, 21823, 22021, 22220, 22420, 22623, 22827]
    ++ [23034, 23242, 23452, 23663, 23877, 24093, 24311, 24530, 24752, 24976, 25201, 25429, 25659, 25891, 26124, 26361]
    ++ [26599, 26839, 27081, 27326, 27573, 27822, 28074, 28327, 28583, 28841, 29102, 29365, 29630, 29898, 30168, 30441]
    ++ [30716, 30993, 31273, 31556, 31841, 32129, 32419, 32712, 33007, 33306, 33606, 33910, 34216, 34526, 34838, 35152]
    ++ [35470, 35790, 36114, 36440, 36769, 37101, 37437, 37775, 38116, 38461, 38808, 39159, 39513, 39870, 40230, 40593]

/-- A signed quotient rounded to an integer, half away from zero (R1). -/
def roundAway (n : Int) (d : Nat) : Int := n.sign * (roundDiv n.natAbs d : Nat)

/-- Stages 1 and 2: the exponent q in 1/256 of a decade (R113). -/
def exponentOf (tRef : Int) (z : Nat) (t : Int) : Int := max (-1024) (min 512 (roundAway ((t - tRef) * 256) z))

/-- Stages 3 to 5: the lethal rate in Q12 (R113 to R115). -/
def lethalRate (q : Int) : Nat :=
  let i := q / 256
  let m := decadeTable.getD (q % 256).toNat 4096
  if 0 ≤ i then m * 10 ^ i.toNat else roundDiv m (10 ^ (-i).toNat)

/-- Stage 6: the increment of one expiry (R116). -/
def lethalIncrement (rate period : Nat) : Nat := roundDiv (rate * period) 4096

/-! ### Accrual (R111, R112, R117) -/

/-- The used probe whose range holds the record's midpoint. A position lies in at most one (R107). -/
def probeUnder (s : State) (r : UnitRecord) : Option Nat :=
  (List.range 4).find? fun n =>
    probeUsed s n && decide ((probeStart s n : Int) ≤ r.midpoint) && decide (r.midpoint < (probeEnd s n : Int))

/-- The verdict that closes the account at this role is made. -/
def accountClosed (s : State) (r : UnitRecord) : Bool := if s.hasRole .blanch then r.blanchMade else r.dwellMade

/-- What a fresh probe's value adds to a record (R116, R117). -/
def accrue (s : State) (t : Int) (r : UnitRecord) : UnitRecord :=
  if s.hasRole .blanch then
    let rate := lethalRate (exponentOf (itemInt s.items 30) (s.item 31) t)
    { r with dose := some (sat24 (r.dose.getD 0 + lethalIncrement rate s.samplePeriod)) }
  else if t ≤ itemInt s.items 36 then { r with dwell := some (sat24 (r.dwell.getD 0 + s.samplePeriod)) }
  else r

/-- One record's accrual at this expiry. -/
def accrueRecord (s : State) (r : UnitRecord) : UnitRecord :=
  if r.kind = .segment ∧ accountClosed s r = false then
    match probeUnder s r with
    | none => r
    | some n =>
      match (s.probe n).value with
      | some t => if s.staleLimit < (s.probe n).invalidRun then { r with disposition := raiseTo 3 r.disposition } else accrue s t r
      | none => { r with disposition := raiseTo 3 r.disposition }
  else r

/-- The accrual part of an expiry (R108). -/
def accrueZone (s : State) : State := { s with tracking.zone := s.tracking.zone.map (accrueRecord s) }

/-! ### The load filter and load_high (R139, R140) -/

/-- A Nat no greater than 65,535 from an Int, clamped at both ends. -/
def clamp16 (n : Int) : Nat := min 65535 n.toNat

/-- The filter after an update with constant `k` (R139). -/
def filterNext (k f input : Nat) : Nat :=
  if k = 0 then input
  else clamp16 ((f : Int) + ((input : Int) - (f : Int) + (2 ^ (k - 1) : Nat)) / (2 ^ k : Nat))

/-- A used probe's current value is greater than AIR_ALARM. -/
def airWarm (s : State) : Bool :=
  (List.range 4).any fun n => probeUsed s n && (s.probe n).value.any (fun t => decide (itemInt s.items 41 < t))

/-- load_high after an expiry (R140). -/
def loadHighNow (s : State) : Bool :=
  decide (s.item 39 ≤ s.flow.loadFilter) || (decide (s.item 40 ≤ s.flow.loadFilter) && airWarm s)

/-- The flow unit's filter step at a FREEZE station. A change of load_high is handed on. -/
def stepLoad (s : State) : State :=
  if s.hasRole .freeze then
    let s1 := { s with flow.loadFilter := filterNext (s.item 38) s.flow.loadFilter s.flow.loadInput, flow.loadInput := 0 }
    if loadHighNow s1 = s.flow.loadHigh then s1
    else evaluateChain (queueStatus { s1 with flow.loadHigh := loadHighNow s1 })
  else s

/-! ### The throttle (R136) -/

/-- The duty after a throttle step. -/
def dutyNext (s : State) : Nat :=
  if s.peer.chainLoad then max s.throttleFloor (s.flow.duty - s.throttleStep)
  else min s.infeedDuty (s.flow.duty + s.throttleStep)

/-- The throttle steps: the count returns to 0. A change of the throttled flag queues a STATUS. -/
def stepThrottle (s : State) : State :=
  let s1 := { s with flow.throttleCount := 0, flow.duty := dutyNext s }
  if s1.throttled = s.throttled then s1 else queueStatus s1

/-- The throttle count of a sample expiry, at a head. -/
def countThrottle (s : State) : State :=
  if s.isHead then
    if s.flow.throttleCount + 1 < s.throttleInterval then { s with flow.throttleCount := s.flow.throttleCount + 1 }
    else stepThrottle s
  else s

/-! ### Meanings -/

/-- The three parts of an expiry, in the order of R108. DEDUCED: log entry 7. -/
def sampleExpires (readings : List (Nat × Int)) (s : State) : State :=
  countThrottle (stepLoad (accrueZone (readings.foldl sampleProbe s)))

/-- SAMPLE_EXPIRY (R108), with the converted readings of the four inputs. DESIGN CHOICE: log entry 6. -/
def execSampleExpiry (t0 t1 t2 t3 : Int) (s : State) : Host.Outcome State Fault Refusal :=
  match s.dose.sampleTimer with
  | none => .next s
  | some timer =>
    if s.acts && decide (timer.due ≤ s.now) then
      done (sampleExpires [(0, t0), (1, t1), (2, t2), (3, t3)]
        { s with dose.sampleTimer := some { timer with due := timer.due + timer.period } })
    else .next s

/-- THROTTLE_STEP (R136): the step of an expiry that has brought the count to THROTTLE_INTERVAL. DEDUCED: log entry 7. -/
def execThrottleStep (s : State) : Host.Outcome State Fault Refusal :=
  if s.acts && s.isHead && decide (s.throttleInterval ≤ s.flow.throttleCount) then done (stepThrottle s) else .next s

end Sys2Proof.Machine
end

