-- ==== Sys2Proof/Machine/Flow.lean ====
section
/-! DEFINITION. The commands of the flow unit's limiters, of the defrost controller and of the channels' clocks:
DEFERRAL_EXPIRY (R132), DEFROST_INTERVAL_EXPIRY and DEFROST_COMPLETION (chapter 8), TIME_BASE_TICK and ONE_SHOT_TICK
(chapter 9), and the tick of station time. -/

namespace Sys2Proof.Machine

open Sys2Proof

/-! ### Deferrals (R132, R133, R182) -/

/-- What a grant at expiry `t` does for its requester. A grant that finds the drive unable to run leaves it off.
DEDUCED: log entry 28. -/
def useGrant (i : LimiterId) (t : Nat) (s : State) : State :=
  match i with
  | .drive =>
    if s.unstoppable = false ∧ (s.mode = .running ∨ s.mode = .draining) ∧ s.stopCause = false then driveOn s else s
  | .door => if s.packing.door = .requested then openDoor t s else s

/-- DEFERRAL_EXPIRY (R132). DESIGN CHOICE: log entry 6. DEDUCED: log entry 28. -/
def execDeferralExpiry (i : LimiterId) (s : State) : Host.Outcome State Fault Refusal :=
  match (limiterOf s i).deferred with
  | none => .next s
  | some t =>
    if s.acts && decide (t ≤ s.now) then
      done (useGrant i t (setLimiter i (limiterExpire (limiterWindow s i) t (limiterOf s i)) s))
    else .next s

/-! ### Defrost -/

/-- The states in which the interval timer runs (R146). -/
def intervalRuns (s : State) : Bool := s.hasRole .freeze && (decide (s.mode = .running) || decide (s.mode = .draining))

/-- The datum of EVENT DEFROST_OVERDUE: the kind of the cycle in flight (R147). DESIGN CHOICE: log entry 25. -/
def overdueDatum (s : State) : Nat :=
  match s.defrost.cycle with
  | some ⟨.normal, _⟩ => 1
  | some ⟨.panic, _⟩ => 2
  | none => Config.overdueDatumWithoutCycle.toNat

/-- The debt rises, and what a change of debt brings: want, STATUS, start test (R145, R147). -/
def raiseDebt (s : State) : State :=
  defrostTest (queueStatus (evaluateWant { s with defrost.debt := s.defrost.debt + 1 }))

/-- An interval expiry (R147). -/
def intervalExpires (s : State) : State :=
  if s.defrost.debt < 8 then raiseDebt s
  else if s.defrost.overdueStay then s
  else queueEvent .defrostOverdue (overdueDatum s) 0 { s with defrost.overdueStay := true }

/-- DEFROST_INTERVAL_EXPIRY (R146, R147): the timer starts again at 0, at whatever time the expiry is taken. An expiry
that is due when the timer stops waits until it runs again. DESIGN CHOICE: log entries 6 and 49. -/
def execDefrostIntervalExpiry (s : State) : Host.Outcome State Fault Refusal :=
  if intervalRuns s && decide (s.defrostPeriod ≤ s.defrost.intervalElapsed) then
    done (intervalExpires { s with defrost.intervalElapsed := 0 })
  else .next s

/-- Steps 1 to 4 of R152. -/
def completeCycle (s : State) : State :=
  let s1 := evaluateWant (count .defrostDone { s with defrost.debt := s.defrost.debt - 1 })
  { s1 with
    defrost.overdueStay := s1.defrost.overdueStay && decide (8 ≤ s1.defrost.debt)
    defrost.cycle := none }

/-- DEFROST_COMPLETION (R152): the completion and a new start are one change to the other blocks. DESIGN CHOICE: log
entry 6. -/
def execDefrostCompletion (s : State) : Host.Outcome State Fault Refusal :=
  match s.defrost.cycle with
  | none => .next s
  | some c =>
    if s.acts && decide (c.endTime ≤ s.now) then done (queueStatus (refreshReasons (startDueCycle (completeCycle s))))
    else .next s

/-! ### Channel clocks -/

/-- TIME_BASE_TICK (R158): one millisecond of a running base. DEDUCED: log entry 30. -/
def execTimeBaseTick (b : MsBase) (s : State) : Host.Outcome State Fault Refusal :=
  match msBaseValue s b with
  | none => .next s
  | some v =>
    if s.mode = .quiet then .next s
    else
      match baseNext (msBasePeriod s b) v with
      | (v', wrap) => done (baseTakes (msBaseName b) v' wrap (setMsBase b (some v') s))

/-- A channel's one-shot advances by one millisecond and holds at 65,535 (R168). -/
def stepOneShot (r : ChannelRecord) (c : Channel) : Channel :=
  match c.oneShot with
  | none => c
  | some n =>
    if c.run = .running ∧ r.mode = .eventPulse ∧ n < 65535 then oneShotTakes r (n + 1) { c with oneShot := some (n + 1) }
    else c

/-- ONE_SHOT_TICK (R168): one millisecond of a channel's one-shot. DEDUCED: log entry 30. -/
def execOneShotTick (channel : Nat) (s : State) : Host.Outcome State Fault Refusal :=
  if s.mode = .quiet then .next s
  else done (s.mapChannels (fun ch c => if ch = channel then stepOneShot (s.channelRecord ch) c else c))

/-! ### Station time -/

/-- One millisecond of station time, in which the defrost interval timer runs as R146 states. What falls due then is a
command of its own (log entries 1 and 6). The interval timer stays at its period until its expiry is taken. DESIGN
CHOICE: log entries 2 and 49. DEDUCED: log entry 30. -/
def tick (s : State) : State :=
  { s with
    now := s.now + 1
    defrost.intervalElapsed :=
      if intervalRuns s then min s.defrostPeriod (s.defrost.intervalElapsed + 1) else s.defrost.intervalElapsed }

end Sys2Proof.Machine
end

