-- ==== Sys2Proof/Machine/Link.lean ====
section
/-! DEFINITION. The line link's commands (chapter 2): TRANSMIT_START, ARBITRATION_LOSS, BIT_ERROR, ACKNOWLEDGE_SLOT,
FRAME_RECEIVED and LINE_BUSY. -/

namespace Sys2Proof.Machine

open Sys2Proof

/-! ### The frame in transmission -/

/-- The queue without the frame in transmission. -/
def dropSending (q : List TxEntry) : List TxEntry := q.eraseP (·.sending)

/-- The frame in transmission goes back to waiting, with `attempts`. -/
def stopSending (attempts : Nat) (q : List TxEntry) : List TxEntry :=
  q.map (fun e => if e.sending then { e with sending := false, attempts := attempts } else e)

def setTxq (q : List TxEntry) (s : State) : State := { s with link.txq := q }

/-- A newer STATUS or HOLD waits behind the frame in transmission `e` (R40). -/
def newerWaits (e : TxEntry) (q : List TxEntry) : Bool := mergingKind e.frame.kind && kindWaits e.frame.kind q

/-- An entry in transmission that a line restart has severed, or that a newer one of its kind replaces, leaves the
queue without a count or a loss event when its attempt does not succeed (R40, R45). -/
def leavesUncounted (e : TxEntry) (q : List TxEntry) : Bool := e.severed || newerWaits e q

/-- The entry is dropped after its eighth failed attempt: LINK_DROP, EVENT LINK_DROP unless it was an EVENT, and the
loss event (R35). With silencing on it was EVENT DUPLICATE_NUMBER, and the station enters QUIET (R42). DESIGN
CHOICE: log entry 59. -/
def dropEntry (e : TxEntry) (s : State) : State :=
  let s1 := count .linkDrop (setTxq (dropSending s.link.txq) s)
  if s.link.silencing then enterQuiet s1
  else
    let s2 := if e.frame.kind = .event then s1 else queueEvent .linkDrop (kindCode e.frame.kind) e.frame.target s1
    settleLoss 4 e s2

/-- A failed attempt of the frame in transmission (R35, R40, R45). DEDUCED: log entry 17. -/
def failAttempt (e : TxEntry) (s : State) : State :=
  if e.severed then setTxq (dropSending s.link.txq) s
  else if 8 ≤ e.attempts + 1 then dropEntry e s
  else if newerWaits e s.link.txq then setTxq (dropSending s.link.txq) s
  else setTxq (stopSending (e.attempts + 1) s.link.txq) s

/-- The completion event of a frame: an OFFER's starts the reply interval of a SENDING record (R90). -/
def completeFrame (f : Frame) (s : State) : State :=
  if f.kind = .offer then
    updateRecord (imageOf f.payload).tag
      (fun r => if r.handover = .offered .sending then { r with handover := .offered (.waiting (s.now + 40)) } else r) s
  else s

/-! ### Duplicate station numbers (R42) -/

/-- A duplicate number is detected from a frame of kind `k`: silencing turns on, both queues empty, and EVENT
DUPLICATE_NUMBER alone is queued. -/
def detectDuplicate (k : Kind) (s : State) : State :=
  { s with
    link.silencing := true
    link.rxq := []
    link.txq := [⟨eventFrame .duplicateNumber (kindCode k) 0 s, 0, false, false⟩] }

/-! ### Meanings -/

/-- TRANSMIT_START (R24, R31): the line becomes IDLE, and with that the head entry of a non-empty queue starts
(`settleLine`). DEDUCED: log entry 9. In QUIET the line condition stands. DESIGN CHOICE: log entry 51. -/
def execTransmitStart (s : State) : Host.Outcome State Fault Refusal :=
  if s.mode = .quiet ∨ (sendingEntry s.link.txq).isSome = true then .next s
  else done { s with link.line := .idle, link.ackDrive := false }

/-- ARBITRATION_LOSS (R32): the entry keeps its place and attempts, unless R40 or R45 takes it out. -/
def execArbitrationLoss (bit : Nat) (s : State) : Host.Outcome State Fault Refusal :=
  match sendingEntry s.link.txq with
  | none => .next s
  | some e =>
    if s.mode = .quiet ∨ (arbitrationBits e.frame)[bit]? ≠ some true then .next s
    else if leavesUncounted e s.link.txq then done (setTxq (dropSending s.link.txq) s)
    else done (setTxq (stopSending e.attempts s.link.txq) s)

/-- Whether a mismatch at a bit of the sent frame is a bit error: not the arbitration loss of R32. -/
def isBitError (f : Frame) (bit : Nat) : Bool :=
  match (sentBits f)[bit]? with
  | none => false
  | some driven => !(driven && decide (1 ≤ bit) && decide (bit ≤ 12))

/-- BIT_ERROR (R33): a failed attempt. -/
def execBitError (bit : Nat) (s : State) : Host.Outcome State Fault Refusal :=
  match sendingEntry s.link.txq with
  | none => .next s
  | some e => if isBitError e.frame bit && decide (s.mode ≠ .quiet) then done (failAttempt e s) else .next s

/-- ACKNOWLEDGE_SLOT (R34): success removes the entry and completes it. Recessive is a failed attempt. -/
def execAcknowledgeSlot (dominant : Bool) (s : State) : Host.Outcome State Fault Refusal :=
  match sendingEntry s.link.txq with
  | none => .next s
  | some e =>
    if s.mode = .quiet then .next s
    else if dominant then
      let s1 := setTxq (dropSending s.link.txq) s
      if e.severed then done s1
      else if s.link.silencing then done (enterQuiet s1)
      else done (completeFrame e.frame s1)
    else done (failAttempt e s)

/-- A well-formed frame offered to the receive buffer (R36, R37): stored and acknowledged, counted as RX_OVERRUN, or
discarded. -/
def storeFrame (f : Frame) (s : State) : State :=
  if f.origin = 0 ∨ (f.target ≠ 0 ∧ f.target ≠ s.station.number) ∨ s.link.silencing = true then s
  else if s.link.rxq.length < 4 then { s with link.rxq := s.link.rxq ++ [f], link.ackDrive := true }
  else count .rxOverrun s

/-- FRAME_RECEIVED (R36, R37, R42): another node's frame at the end of its check field. DEDUCED: log entry 9. -/
def execFrameReceived (bits : List Bool) (s : State) : Host.Outcome State Fault Refusal :=
  if s.mode = .quiet ∨ (sendingEntry s.link.txq).isSome = true then .next s
  else
    let s1 := { s with link.line := .busy, link.ackDrive := false }
    match formedFrame bits with
    | none => done s1
    | some f =>
      if f.origin = s.station.number then
        if s.link.silencing then done s1 else done (detectDuplicate f.kind s1)
      else done (storeFrame f s1)

/-- LINE_BUSY (R24): another node's start bit on the idle line. DEDUCED: log entry 9. In QUIET the line condition
stands. DESIGN CHOICE: log entry 51. -/
def execLineBusy (s : State) : Host.Outcome State Fault Refusal :=
  if s.mode = .quiet ∨ s.link.line = .busy then .next s
  else done { s with link.line := .busy, link.ackDrive := false }

end Sys2Proof.Machine
end

