-- ==== Sys2Proof/Machine/Station.lean ====
section
/-! DEFINITION. Station control's commands (chapter 1): FULL_RESET, the fault input, the admission of command frames
(R8) and the commands PROFILE, PROFILE_END, WALK_START, WALK_END, RUN, STOP, LOT, FAULT_CLEAR, RESTART and
REPORT_ASK. -/

namespace Sys2Proof.Machine

open Sys2Proof

/-! ### Full reset (R2, R23) -/

/-- The straps are a valid setting (R2). -/
def strapsValid (station rate : Nat) : Bool := decide (1 ≤ station) && decide (station ≤ 29) && decide (rate ≤ 2)

/-- Every block as full reset leaves it, before the fault latch. A QUIET station starts no status timer (R63) and
evaluates no holding reason (R142). The pins, station time and the waiting commands are outside the reset. DESIGN
CHOICE: log entries 2 and 4. -/
def resetBlocks (station rate : Nat) (s : State) : State :=
  let valid := strapsValid station rate
  { State.reset with
    mode := if valid then .joining else .quiet
    station := ⟨station, rate, [], none, false⟩
    peer := { resetPeerView s.now with statusTimer := if valid then some ⟨1000, s.now + 1000⟩ else none }
    flow := { resetFlow with reasons := ⟨false, valid, false, false, false⟩ }
    faultIn := s.faultIn
    encoder := s.encoder
    now := s.now
    orderDraws := s.orderDraws
    pending := s.pending }

/-- A station that joins with the fault input active sets the latch and reports it (R7, R23). DEDUCED: log entries 22
and 23. -/
def joinWithFault (s : State) : State :=
  if s.faultIn = true ∧ s.mode = .joining then queueEvent .fault 0 0 { s with station.faultLatch := true } else s

/-- FULL_RESET (R2, R23, R44, R63, R85, R105, R123, R142, R154, R172, R185, R189). -/
def execFullReset (station rate : Nat) (s : State) : Host.Outcome State Fault Refusal :=
  .next (joinWithFault (resetBlocks station rate s))

/-! ### The fault input (R7) -/

/-- The states from which a set latch takes the station to FAULTED. -/
def faultableState (m : StationState) : Bool :=
  decide (m ∈ [StationState.profiled, .walking, .ready, .running, .draining])

/-- FAULT_INPUT (R7). DEDUCED: log entry 22. -/
def execFaultInput (s : State) : Host.Outcome State Fault Refusal :=
  let s1 := { s with faultIn := true }
  if s.mode = .quiet ∨ s.station.faultLatch = true then .next s1
  else if faultableState s.mode then done (enterState .faulted (latchFault s1))
  else done (latchFault s1)

/-- FAULT_INPUT_INACTIVE (R7): the latch stays as it is. -/
def execFaultInputInactive (s : State) : Host.Outcome State Fault Refusal := .next { s with faultIn := false }

/-! ### Admission (R8) -/

/-- The command kinds that must carry the station's own number as target. -/
def ownTargetOnly (k : Kind) : Bool := decide (k ∈ [Kind.profile, .profileEnd, .lot, .reportAsk])

/-- The origin may send this kind of command. -/
def originAdmitted (f : Frame) : Bool :=
  decide (f.origin = 31) || (decide (f.origin = 30) && decide (f.kind ≠ .walkStart) && decide (f.kind ≠ .walkEnd))

/-- The reason code that refuses a command, by the first failing test. `accepted` is the state test. -/
def refusalReason (f : Frame) (accepted : Bool) : Option Nat :=
  if originAdmitted f = false then some 2
  else if ownTargetOnly f.kind = true ∧ f.target = 0 then some 3
  else if accepted then none
  else some 1

/-- A refused command changes no state: EVENT COMMAND_REFUSED. -/
def refuseCommand (reason : Nat) (f : Frame) (s : State) : State :=
  queueEvent .commandRefused (256 * reason + kindCode f.kind) f.origin s

/-- A command frame is handled: refused, or accepted with its effect. -/
def takeCommand (k : Kind) (accepted : State → Bool) (effect : Frame → State → State) (s : State) :
    Host.Outcome State Fault Refusal :=
  match handleFrame k s with
  | none => .next s
  | some (f, s1) =>
    match refusalReason f (accepted s1) with
    | some reason => done (refuseCommand reason f s1)
    | none => done (effect f s1)

/-! ### The profile (R17, R18, R22) -/

/-- A PROFILE or PROFILE_END outside JOINING: EVENT PROFILE_LOCKED (R17). -/
def profileLocked (f : Frame) (s : State) : State := queueEvent .profileLocked (kindCode f.kind) f.origin s

/-- A PROFILE's effect (R17). -/
def storeItem (f : Frame) (s : State) : State :=
  if s.mode = .joining then
    { s with
      station.pendingProfile :=
        profilePut s.station.pendingProfile (payloadByte f.payload 0) (payloadValue f.payload 1) }
  else profileLocked f s

/-- PROFILE (R17). -/
def execProfile (s : State) : Host.Outcome State Fault Refusal := takeCommand .profile (fun _ => true) storeItem s

/-- A refused profile (R22). -/
def refuseProfile (stage item : Nat) (s : State) : State :=
  let held := s.station.pendingProfile.length
  queueEvent .profileRefused (256 * stage + item) held { s with station.pendingProfile := [] }

/-- A heard entry judged against the present staleness age (R49). -/
def judgePeer (s : State) (e : PeerEntry) : PeerEntry :=
  match e.lastFrame with
  | none => e
  | some t => { e with stale := decide (s.stalenessAge < s.now - t) }

/-- Steps 1 to 3 of R22, and each block's values at acceptance (R49, R51, R107, R108, R136, R154). -/
def freezeProfile (s : State) : State :=
  let s1 := { s with station.frozen := some s.station.pendingProfile, station.pendingProfile := [] }
  { s1 with
    peer.neighbours := ⟨s1.item 12, s1.item 13, s1.item 14⟩
    peer.statusTimer := some ⟨s1.statusPeriod, s1.now + s1.statusPeriod⟩
    peer.peers := s1.peer.peers.map (judgePeer s1)
    dose := ⟨some ⟨s1.samplePeriod, s1.now + s1.samplePeriod⟩, Vector.replicate 4 ⟨none, 0⟩⟩
    flow.duty := if s1.isHead then s1.infeedDuty else 0
    defrost.debt := if s1.hasRole .freeze then s1.item 48 else 0 }

/-- The state that acceptance enters: step 4 of R22. -/
def acceptedState (s : State) : StationState := if s.station.faultLatch then .faulted else restState s

/-- Acceptance (R22): the profile is frozen, the want and chain flags are evaluated, the state is entered, and the new
upstream is sent a HOLD (R128). A downstream that already reports chain_defrost makes a rise, and so does an
INITIAL_DEBT that sets defrost_want: a rise starts a gap run (R53, R137). DESIGN CHOICE: log entry 45. -/
def acceptProfile (s : State) : State :=
  let s1 := freezeProfile s
  let s2 := evaluateChain (if s1.hasRole .freeze then evaluateWant s1 else s1)
  queueHold (enterState (acceptedState s2) s2)

/-- A PROFILE_END's effect (R18, R22). -/
def endProfile (f : Frame) (s : State) : State :=
  if s.mode = .joining then
    match profileFailure s.station.pendingProfile (payloadByte f.payload 0) with
    | some (stage, item) => refuseProfile stage item s
    | none => acceptProfile s
  else profileLocked f s

/-- PROFILE_END (R18, R22). -/
def execProfileEnd (s : State) : Host.Outcome State Fault Refusal := takeCommand .profileEnd (fun _ => true) endProfile s

/-! ### The line walk (R12, R55, R61) -/

/-- The walk state of R55. -/
def freshWalk : Walk := ⟨false, false, 0, 0, 0, false⟩

/-- A WALK_START's effect (R12, R55, R104): the neighbour record is empty before the flow unit acts. DEDUCED: log
entry 11. -/
def startWalk (_ : Frame) (s : State) : State :=
  let s1 := { s with peer.neighbours := ⟨0, 0, 0⟩, peer.walk := some freshWalk, arrivals := [] }
  let s2 := evaluateChain (enterState .walking s1)
  if s.arrivals.isEmpty then s2 else queueChanged s.counts s2

/-- WALK_START (R12, R55). -/
def execWalkStart (s : State) : Host.Outcome State Fault Refusal :=
  takeCommand .walkStart (fun s => decide (s.mode = .profiled) || decide (s.mode = .ready)) startWalk s

/-- A WALK_END's effect (R12, R61). -/
def endWalk (_ : Frame) (s : State) : State := enterState (restState s) { s with peer.walk := none }

/-- WALK_END (R12, R61). -/
def execWalkEnd (s : State) : Host.Outcome State Fault Refusal :=
  takeCommand .walkEnd (fun s => decide (s.mode = .walking)) endWalk s

/-! ### RUN, STOP and LOT (R9, R10, R80) -/

/-- RUN (R9). -/
def execRun (s : State) : Host.Outcome State Fault Refusal :=
  takeCommand .run (fun s => decide (s.mode = .ready) || decide (s.mode = .draining)) (fun _ s => enterState .running s) s

/-- STOP (R10), with the drain test that entry to DRAINING makes at once (R11). -/
def execStop (s : State) : Host.Outcome State Fault Refusal :=
  takeCommand .stop (fun s => decide (s.mode = .running)) (fun _ s => drainTest (enterState .draining s)) s

/-- The states in which a head accepts LOT. -/
def lotState (m : StationState) : Bool := decide (m ∈ [StationState.ready, .running, .draining])

/-- A LOT's effect (R78, R80): a forming segment closes with the lot it had. -/
def changeLot (f : Frame) (s : State) : State :=
  { closeForming enterRecord zoneChanged id s with tracking.currentLot := payload16 f.payload 0 }

/-- LOT (R80). -/
def execLot (s : State) : Host.Outcome State Fault Refusal :=
  takeCommand .lot (fun s => s.isHead && lotState s.mode) changeLot s

/-! ### FAULT_CLEAR and RESTART (R13, R14) -/

/-- A FAULT_CLEAR's effect in FAULTED (R13). -/
def clearFault (f : Frame) (s : State) : State :=
  if s.faultIn then refuseCommand 4 f s
  else enterState (restState s) { s with station.faultLatch := false }

/-- FAULT_CLEAR (R13). -/
def execFaultClear (s : State) : Host.Outcome State Fault Refusal :=
  takeCommand .faultClear (fun s => decide (s.mode = .faulted)) clearFault s

/-- The states in which RESTART is accepted. -/
def restartState (m : StationState) : Bool :=
  decide (m ∈ [StationState.profiled, .walking, .ready, .running, .draining, .faulted])

/-- What a line restart clears in each block (R45, R61, R64, R86, R106, R143, R155, R186). The frame in transmission is
finished on the wire, and its outcome is told to no block. -/
def restartBlocks (s : State) : State :=
  { s with
    link.txq := (s.link.txq.filter (·.sending)).map (fun e => { e with severed := true })
    link.rxq := []
    peer.peers := Vector.replicate 31 unheardPeer
    peer.walk := none
    tracking.zone := []
    tracking.mergeBound := none
    tracking.offRun := 0
    tracking.reverseDebt := 0
    arrivals := []
    flow.duty := if s.isHead then s.infeedDuty else 0
    flow.throttleCount := 0
    flow.gapRun := none
    flow.loadInput := 0
    flow.loadFilter := 0
    flow.loadHigh := false
    defrost.intervalElapsed := 0
    packing.openBag := none
    packing.openCarrier := none
    packing.doorList := [] }

/-- The EVENTs of the carriers that a line restart discards: the open one, then the door list's, oldest first (R186).
DEDUCED: log entry 27. -/
def discardCarriers (carrier : Option Carrier) (list : List DoorEntry) (s : State) : State :=
  let s1 :=
    match carrier with
    | none => s
    | some c => queueEvent .carrierStored c.number (512 + c.disposition) s
  list.foldl (fun s c => queueEvent .carrierStored c.number (256 + c.disposition) s) s1

/-- The fault latch at a line restart: it follows the input, and a set from clear queues EVENT FAULT (R14). DEDUCED:
log entry 27. -/
def restartLatch (s : State) : State :=
  if s.faultIn then
    if s.station.faultLatch then s
    else queueEvent .fault (stateCode s.mode) 0 { s with station.faultLatch := true }
  else { s with station.faultLatch := false }

/-- A RESTART's effect (R14): the blocks' line restart, then the state that it leaves. DEDUCED: log entry 27. A restart
from WALKING into FAULTED empties the neighbour record, which a line restart otherwise keeps. DESIGN CHOICE: log entry
41. -/
def lineRestart (_ : Frame) (s : State) : State :=
  let s1 := discardCarriers s.packing.openCarrier s.packing.doorList (restartBlocks s)
  let s2 := evaluateChain (restartLatch (abortDoor (abortDefrost s1)))
  evaluateLevel (enterStateAfresh (if s2.faultIn then .faulted else restState s2) s2)

/-- RESTART (R14). -/
def execRestart (s : State) : Host.Outcome State Fault Refusal :=
  takeCommand .restart (fun s => restartState s.mode) lineRestart s

/-! ### REPORT_ASK (R190) -/

/-- The REPORT of a page, with the counters as they stand. -/
def reportFrame (page : Nat) (s : State) : Frame :=
  ownFrame .report 0 (byteOf page :: (counterPage page).flatMap (fun c => be16 (counterOf s.counters c))) s

/-- A REPORT_ASK's effect: one REPORT, or a refusal for a page above 3. -/
def answerReport (f : Frame) (s : State) : State :=
  let page := payloadByte f.payload 0
  if page ≤ 3 then queueFrame (reportFrame page s) s else refuseCommand 5 f s

/-- REPORT_ASK (R190). -/
def execReportAsk (s : State) : Host.Outcome State Fault Refusal :=
  takeCommand .reportAsk (fun _ => true) answerReport s

end Sys2Proof.Machine
end

