-- ==== Sys2Proof/Machine/Dispatch.lean ====
section
/-! DEFINITION. The effect of a command on everything but the queue: one arm per row of spec/opcode_table.json. -/

namespace Sys2Proof.Machine

open Sys2Proof

def exec (i : Instr) (s : State) : Host.Outcome State Fault Refusal :=
  match i with
  | .fullReset station rate => Sys2Proof.Machine.execFullReset station rate s
  | .faultInput => Sys2Proof.Machine.execFaultInput s
  | .forwardCount entryOn => Sys2Proof.Machine.execForwardCount entryOn s
  | .reverseCount => Sys2Proof.Machine.execReverseCount s
  | .gapClose => Sys2Proof.Machine.execGapClose s
  | .lengthClose => Sys2Proof.Machine.execLengthClose s
  | .arrivalAtT => Sys2Proof.Machine.execArrivalAtT s
  | .walkPassQueued => Sys2Proof.Machine.execWalkPassQueued s
  | .gapRunEnd => Sys2Proof.Machine.execGapRunEnd s
  | .transmitStart => Sys2Proof.Machine.execTransmitStart s
  | .arbitrationLoss bit => Sys2Proof.Machine.execArbitrationLoss bit s
  | .bitError bit => Sys2Proof.Machine.execBitError bit s
  | .acknowledgeSlot dominant => Sys2Proof.Machine.execAcknowledgeSlot dominant s
  | .frameReceived bits => Sys2Proof.Machine.execFrameReceived bits s
  | .hold => Sys2Proof.Machine.execHold s
  | .status => Sys2Proof.Machine.execStatus s
  | .walkPass => Sys2Proof.Machine.execWalkPass s
  | .walkSeen => Sys2Proof.Machine.execWalkSeen s
  | .offer => Sys2Proof.Machine.execOffer s
  | .take => Sys2Proof.Machine.execTake s
  | .pass => Sys2Proof.Machine.execPass s
  | .profile => Sys2Proof.Machine.execProfile s
  | .profileEnd => Sys2Proof.Machine.execProfileEnd s
  | .walkStart => Sys2Proof.Machine.execWalkStart s
  | .walkEnd => Sys2Proof.Machine.execWalkEnd s
  | .run => Sys2Proof.Machine.execRun s
  | .stop => Sys2Proof.Machine.execStop s
  | .lot => Sys2Proof.Machine.execLot s
  | .faultClear => Sys2Proof.Machine.execFaultClear s
  | .restart => Sys2Proof.Machine.execRestart s
  | .reportAsk => Sys2Proof.Machine.execReportAsk s
  | .eventReceived => Sys2Proof.Machine.execEventReceived s
  | .reportReceived => Sys2Proof.Machine.execReportReceived s
  | .statusTimerExpiry => Sys2Proof.Machine.execStatusTimerExpiry s
  | .peerStale node => Sys2Proof.Machine.execPeerStale node s
  | .sampleExpiry probe0 probe1 probe2 probe3 => Sys2Proof.Machine.execSampleExpiry probe0 probe1 probe2 probe3 s
  | .throttleStep => Sys2Proof.Machine.execThrottleStep s
  | .offerReplyExpiry tag => Sys2Proof.Machine.execOfferReplyExpiry tag s
  | .reservationExpiry tag => Sys2Proof.Machine.execReservationExpiry tag s
  | .deferralExpiry limiter => Sys2Proof.Machine.execDeferralExpiry limiter s
  | .doorCycleCompletion => Sys2Proof.Machine.execDoorCycleCompletion s
  | .defrostIntervalExpiry => Sys2Proof.Machine.execDefrostIntervalExpiry s
  | .defrostCompletion => Sys2Proof.Machine.execDefrostCompletion s
  | .timeBaseTick base => Sys2Proof.Machine.execTimeBaseTick base s
  | .oneShotTick channel => Sys2Proof.Machine.execOneShotTick channel s
  | .faultInputInactive => Sys2Proof.Machine.execFaultInputInactive s
  | .lineBusy => Sys2Proof.Machine.execLineBusy s

end Sys2Proof.Machine
end

