-- ==== Sys2Proof/Safety.lean ====
section
/-! DEFINITION. The terms in which claims are stated: which frame a command handles, what other blocks may do in response
to a command's own effect, the capacities of section 0.1, and the invariants of outputs, drive and holding reasons. -/

namespace Sys2Proof.Safety

open Sys2Proof Sys2Proof.Machine

/-! ### Commands and frames -/

/-- The command answers this next state. -/
def Next (c : Instr) (s t : State) : Prop := exec c s = .next t

/-- The oldest frame of the receive buffer is `f`, of this kind, and the station handles frames (R15, R38). -/
def Oldest (k : Kind) (f : Frame) (rest : List Frame) (s : State) : Prop :=
  s.link.rxq = f :: rest ∧ f.kind = k ∧ s.mode ≠ .quiet

/-- The station with the oldest frame taken and its origin's entry refreshed (R46). -/
def taken (f : Frame) (rest : List Frame) (s : State) : State :=
  { s with link.rxq := rest }.setPeerEntry f.origin (refreshedEntry s f.origin)

/-- A frame as a station may send it: the fields fit their widths, and the payload has its kind's length (R25, R27). -/
def Sendable (f : Frame) : Prop := f.origin < 32 ∧ f.target < 32 ∧ f.payload.length = kindLength f.kind

/-- The transmit queue with one more waiting frame (R39). -/
def queued (f : Frame) (q : List TxEntry) : List TxEntry := insertEntry ⟨f, 0, false, false⟩ q

/-- The link controller takes this frame as a new entry: no merge (R40), no displacement (R41), no discard (R42). -/
def Accepts (k : Kind) (s : State) : Prop :=
  s.mode ≠ .quiet ∧ s.link.silencing = false ∧ s.link.txq.length < 8
    ∧ (mergingKind k && kindWaits k s.link.txq) = false

/-- The station with the oldest frame taken and its origin's entry rewritten. -/
def takenWith (f : Frame) (rest : List Frame) (e : PeerEntry) (s : State) : State :=
  { s with link.rxq := rest }.setPeerEntry f.origin e

/-! ### Admission of commands (R8) -/

/-- The row that handles each of the ten command kinds. -/
def commandOf : Kind → Option Instr
  | .profile => some .profile
  | .profileEnd => some .profileEnd
  | .walkStart => some .walkStart
  | .walkEnd => some .walkEnd
  | .run => some .run
  | .stop => some .stop
  | .lot => some .lot
  | .faultClear => some .faultClear
  | .restart => some .restart
  | .reportAsk => some .reportAsk
  | .hold | .offer | .take | .pass | .status | .walkPass | .walkSeen | .event | .report => none

/-- The state test of each command kind, as its own rule gives it. PROFILE and PROFILE_END outside JOINING are answered
by R17 instead, and a REPORT_ASK is accepted in every state but QUIET. -/
def StateAccepts (k : Kind) (s : State) : Prop :=
  match k with
  | .run => s.mode = .ready ∨ s.mode = .draining
  | .stop => s.mode = .running
  | .walkStart => s.mode = .profiled ∨ s.mode = .ready
  | .walkEnd => s.mode = .walking
  | .lot => s.isHead = true ∧ (s.mode = .ready ∨ s.mode = .running ∨ s.mode = .draining)
  | .faultClear => s.mode = .faulted
  | .restart => s.mode ≠ .joining ∧ s.mode ≠ .quiet
  | .profile | .profileEnd | .reportAsk => True
  | .hold | .offer | .take | .pass | .status | .walkPass | .walkSeen | .event | .report => False

/-- The origin test passes. -/
def OriginAdmitted (f : Frame) : Prop :=
  f.origin = 31 ∨ (f.origin = 30 ∧ f.kind ≠ .walkStart ∧ f.kind ≠ .walkEnd)

/-- The target test passes. -/
def TargetAdmitted (f : Frame) : Prop :=
  f.target = 0 → f.kind ≠ .profile ∧ f.kind ≠ .profileEnd ∧ f.kind ≠ .lot ∧ f.kind ≠ .reportAsk

/-- The first failing test of R8 refuses the command with this reason code. -/
def Refused (f : Frame) (s : State) (reason : Nat) : Prop :=
  (reason = 2 ∧ ¬ OriginAdmitted f)
    ∨ (reason = 3 ∧ OriginAdmitted f ∧ ¬ TargetAdmitted f)
    ∨ (reason = 1 ∧ OriginAdmitted f ∧ TargetAdmitted f ∧ ¬ StateAccepts f.kind s)

/-- The command passes the three tests. -/
def Admitted (f : Frame) (s : State) : Prop := OriginAdmitted f ∧ TargetAdmitted f ∧ StateAccepts f.kind s

/-- An EVENT frame of this station (R187). -/
def eventOf (s : State) (code datum tag : Nat) : Frame :=
  ⟨.event, s.station.number, 0, [byteOf code] ++ be16 datum ++ be16 tag⟩

/-- The neighbours are complete for the line position (R6). -/
def Complete (s : State) : Prop :=
  (s.isHead = true ∨ (s.upstream ≠ 0 ∧ s.transferDistance ≠ 0)) ∧ (s.isTail = true ∨ s.downstream ≠ 0)

/-- The drain is complete (R11). -/
def Drained (s : State) : Prop :=
  s.tracking.zone = [] ∧ s.arrivals = []
    ∧ (s.upstream = 0 ∨ (s.peerEntry s.upstream).stale = true ∨ (s.peerEntry s.upstream).state = 3)

/-! ### What other blocks may do in response -/

/-- A record without what the handover unit writes in it (R69). -/
def withoutHandover (r : UnitRecord) : UnitRecord := { r with handover := .localUnit, attempts := 0 }

/-- The same records in the same order, but for their handover states and offer attempts. -/
def SameUnits (z z' : List UnitRecord) : Prop := z'.map withoutHandover = z.map withoutHandover

/-- `s`, with all that queueing frames may write as `t` has it. -/
def withFrames (s t : State) : State :=
  { s with
    link.txq := t.link.txq
    counters.txDrop := t.counters.txDrop
    tracking.zone := t.tracking.zone }

/-- `t` is `s` after frames were queued: the transmit queue, TX_DROP, and the handover state of records whose OFFER was
lost (R39 to R41, R90). Nothing else. -/
def FramesQueued (s t : State) : Prop := t = withFrames s t ∧ SameUnits s.tracking.zone t.tracking.zone

/-- The transmit queue `q` as a command leaves it on the line of `s`: on an IDLE line the head entry starts (R24,
R31). -/
def onLine (s : State) (q : List TxEntry) : List TxEntry :=
  match q with
  | [] => []
  | e :: rest =>
    if s.link.line = .idle ∧ ∀ x ∈ e :: rest, x.sending = false then { e with sending := true } :: rest else e :: rest

/-- The line condition is kept, but for an IDLE line that a starting frame makes BUSY (R24, R31). -/
def LineKept (s t : State) : Prop :=
  t.link.line = s.link.line ∨ (s.link.line = .idle ∧ t.link.line = .busy)

/-- `t` is `s` after the frame was handed to the link controller (R39), which ends the command. Where the controller
takes it, the transmit queue gains it and nothing else changes, but for its start on an IDLE line. -/
def GivesFrame (f : Frame) (s t : State) : Prop :=
  (∃ u, FramesQueued s u ∧ t = settle u)
    ∧ (Accepts f.kind s → t = settle { s with link.txq := queued f s.link.txq })

/-- `s`, with all that responding blocks may write as `t` has it. -/
def withResponses (s t : State) : State :=
  { withFrames s t with
    link.line := t.link.line
    counters.startDeferred := t.counters.startDeferred
    flow.reasons := t.flow.reasons
    flow.drive := t.flow.drive
    flow.driveLimiter := t.flow.driveLimiter
    flow.doorLimiter := t.flow.doorLimiter
    flow.gapRun := t.flow.gapRun
    peer.chainLoad := t.peer.chainLoad
    peer.chainDefrost := t.peer.chainDefrost
    defrost.cycle := t.defrost.cycle
    channels := t.channels
    packing.door := t.packing.door }

/-- `t` is `s` after blocks responded: frames queued, holding reasons, drive, limiters, gap run, chain flags, defrost
cycle, channels and door cycle, and a frame's start on an IDLE line. Nothing else, and no record joins or leaves the
zone queue. -/
def BlocksResponded (s t : State) : Prop :=
  t = withResponses s t ∧ SameUnits s.tracking.zone t.tracking.zone ∧ LineKept s t

/-- `s`, with all that the end of formation and the completion of a drain may write as `t` has it. -/
def withQueue (s t : State) : State :=
  { withResponses s t with
    mode := t.mode
    counters.merged := t.counters.merged
    counters.untakenPass := t.counters.untakenPass
    tracking.mergeBound := t.tracking.mergeBound
    flow.loadInput := t.flow.loadInput }

/-- `t` is `s` after records joined or left and blocks responded, which may complete a drain (R11, R71). -/
def QueueWritten (s t : State) : Prop :=
  t = withQueue s t ∧ (t.mode = s.mode ∨ (s.mode = .draining ∧ t.mode = .ready)) ∧ LineKept s t

/-- `t` is `s` after a forming segment, if there was one, was closed and blocks responded (R78). With none forming no
record joins or leaves the zone queue. -/
def FormationEnded (s t : State) : Prop :=
  QueueWritten s t ∧ (s.formingNow = false → BlocksResponded { s with mode := t.mode } t)

/-- `t` is `s` after a change of the zone queue or the arrivals list, which `s` shows, was handed on: as
`BlocksResponded`, and where the drain is complete, READY is entered, which ends formation (R11, R78). -/
def QueueResponded (s t : State) : Prop :=
  BlocksResponded s t ∨ (s.mode = .draining ∧ Drained s ∧ t.mode = .ready ∧ FormationEnded s t)

/-! ### Capacities -/

/-- The capacities and ranges that the manual gives the lists, counts and counters (section 0.1, R41, R71, R96, R131,
R145, R189), the orders of the transmit queue (R39), the zone queue (R71) and the pending profile (R17), and that no
frame waits on an IDLE line (R24). Some fields carry what the step needs to keep the others so. -/
structure Capacities (s : State) : Prop where
  transmitQueue : s.link.txq.length ≤ 8
  transmitOrder : s.link.txq.Pairwise (fun a b => arbitration a.frame ≤ arbitration b.frame)
  ownFrames : ∀ e ∈ s.link.txq, e.frame.origin = s.station.number
  receiveBuffer : s.link.rxq.length ≤ 4
  zoneQueue : s.tracking.zone.length ≤ 24
  arrivalsList : s.arrivals.length ≤ 4
  doorList : s.packing.doorList.length ≤ 4
  openCarrier : ∀ c, s.packing.openCarrier = some c → 1 ≤ c.count ∧ c.count < s.carrierSize
  joiningNoProfile : s.mode = .joining → s.station.frozen = none
  noCarrierBefore : s.hasProfile = false → s.packing.openCarrier = none
  offRun : s.tracking.offRun ≤ 65535
  reverseDebt : s.tracking.reverseDebt ≤ 65535
  tagSequence : s.tracking.tagSeq < 2048
  counters : ∀ c, counterOf s.counters c ≤ 65535
  zoneOrder : s.tracking.zone.Pairwise (fun a b => b.head ≤ a.head)
  debt : s.defrost.debt ≤ 8
  pendingOrder : s.station.pendingProfile.Pairwise (fun a b => a.1 < b.1)
  driveHistory : s.flow.driveLimiter.history.length ≤ 4
  doorHistory : s.flow.doorLimiter.history.length ≤ 4
  driveDeferral : ∀ d, s.flow.driveLimiter.deferred = some d → s.item 9 ≠ 0 →
    (s.flow.driveLimiter.history.filter (fun e => decide (d - e ≤ s.item 9))).length < 4
  doorDeferral : ∀ d, s.flow.doorLimiter.deferred = some d → s.item 76 ≠ 0 →
    (s.flow.doorLimiter.history.filter (fun e => decide (d - e ≤ s.item 76))).length < 4
  noDeferralBefore : s.hasProfile = false →
    s.flow.driveLimiter.deferred = none ∧ s.flow.doorLimiter.deferred = none
  idleLine : s.link.line = .idle → s.link.txq = []

/-- The tags of the zone queue, of the arrivals list and of a merge-bound segment. -/
def heldTags (s : State) : List Tag :=
  s.tracking.zone.map (·.tag) ++ s.arrivals.map (·.image.tag) ++ (s.tracking.mergeBound.map (·.tag)).toList

/-- No tag is held twice: not by two records (R71), nor by two arrival entries or by one of each (R96). -/
def UniqueTags (s : State) : Prop := (heldTags s).Nodup

/-- What the line owes a station whose merge-bound segment holds a tag outside both lists: no frame that waits here
names that tag, and the tag sequence has not come round to it (R72). -/
def FreshTags (s : State) : Prop :=
  ∀ m, s.tracking.mergeBound = some m →
    (∀ f ∈ s.link.rxq, (imageOf f.payload).tag ≠ m.tag)
      ∧ ∀ k, k < 128 → mkTag s.station.number ((s.tracking.tagSeq + k) % 2048) ≠ m.tag

/-! ### Outputs of a faulted station and of one without a profile -/

/-- While FAULTED the drive and every fault-governed output are inactive (R130, R170), and a station without a profile
keeps its drive and every output inactive (R5). The first two fields carry what the step needs to keep this so. -/
structure SafeOutputs (s : State) : Prop where
  joiningNoProfile : s.mode = .joining → s.station.frozen = none
  governedStopped : s.mode = .faulted → ∀ ch (h : ch < 6), (s.channelRecord ch).faultGoverned = true →
    s.channels.chans[ch].run ≠ .running
  governedInactive : s.mode = .faulted → ∀ ch (h : ch < 6), (s.channelRecord ch).faultGoverned = true →
    s.channels.chans[ch].out = false
  faultedDrive : s.mode = .faulted → s.flow.drive = false
  noProfileDrive : s.hasProfile = false → s.flow.drive = false
  noProfileOutputs : s.hasProfile = false → ∀ ch (h : ch < 6), s.channels.chans[ch].out = false

/-! ### Drive and holding reasons -/

/-- A stop cause is present: DOWNSTREAM, NO_TAKE or DOOR (R129). -/
def StopCause (s : State) : Prop :=
  (s.downstream ≠ 0 ∧ ((s.peerEntry s.downstream).holding = true ∨ (s.peerEntry s.downstream).stale = true))
    ∨ (∃ r ∈ s.tracking.zone, r.handover.isOffered = true ∧ s.zoneLength - s.offerLead ≤ r.head)
    ∨ (s.hasRole .transfer = true ∧ 4 ≤ s.packing.doorList.length)

/-- The belt runs or may run product: WALKING, RUNNING or DRAINING. -/
def BeltMode (s : State) : Prop := s.mode = .walking ∨ s.mode = .running ∨ s.mode = .draining

/-- The drive and its deferred request are as role, station state and stop causes say (R129, R130, R133). An
unstoppable belt runs in the three belt states. A stoppable one runs in WALKING. In RUNNING and DRAINING a stop cause
stops it, and without one it runs or waits for its limiter. A request is deferred only while it waits so. -/
structure DriveFollows (s : State) : Prop where
  unaccepted : s.hasProfile = false → s.flow.drive = false ∧ s.flow.driveLimiter.deferred = none
  elsewhere : ¬ BeltMode s → s.flow.drive = false ∧ s.flow.driveLimiter.deferred = none
  unstoppable : s.hasRole .blanch = true → BeltMode s →
    s.flow.drive = true ∧ s.flow.driveLimiter.deferred = none
  walking : s.hasProfile = true → s.mode = .walking → s.flow.drive = true ∧ s.flow.driveLimiter.deferred = none
  stopped : s.hasRole .blanch = false → (s.mode = .running ∨ s.mode = .draining) → StopCause s →
    s.flow.drive = false ∧ s.flow.driveLimiter.deferred = none
  asks : s.hasProfile = true → s.hasRole .blanch = false → (s.mode = .running ∨ s.mode = .draining) →
    ¬ StopCause s → (s.flow.drive = true ↔ s.flow.driveLimiter.deferred = none)

/-- The holding reasons outside QUIET are those that R126 and R127 give: each holds exactly while its condition does,
and LEVEL by its hysteresis. Before acceptance both lists and the door list are empty and no cycle runs. -/
structure ReasonsFollow (s : State) : Prop where
  joiningNoProfile : s.mode = .joining → s.station.frozen = none
  idle : s.mode ≠ .quiet → (s.flow.reasons.idle = true ↔ ¬ BeltMode s)
  fault : s.mode ≠ .quiet → (s.flow.reasons.fault = true ↔ s.mode = .faulted)
  defrost : s.mode ≠ .quiet → (s.flow.reasons.defrost = true ↔ ∃ e, s.defrost.cycle = some ⟨.normal, e⟩)
  door : s.mode ≠ .quiet →
    (s.flow.reasons.door = true ↔ s.hasRole .transfer = true ∧ 4 ≤ s.packing.doorList.length)
  levelSet : s.mode ≠ .quiet → s.hasProfile = true →
    s.holdLevel ≤ s.tracking.zone.length + s.arrivals.length → s.flow.reasons.level = true
  levelClear : s.mode ≠ .quiet → s.hasProfile = true →
    s.tracking.zone.length + s.arrivals.length < s.holdLevel →
    s.tracking.zone.length + s.arrivals.length ≤ s.releaseLevel → s.flow.reasons.level = false
  unaccepted : s.hasProfile = false → s.mode ≠ .quiet →
    s.mode = .joining ∧ s.tracking.zone = [] ∧ s.arrivals = [] ∧ s.packing.doorList = [] ∧ s.defrost.cycle = none
      ∧ s.flow.reasons.level = false

/-! ### The door -/

/-- No carrier waits at an IDLE door in the four states in which the door cycle makes its request (R182). -/
def DoorServed (s : State) : Prop :=
  s.hasRole .transfer = true → s.mode = .ready ∨ s.mode = .running ∨ s.mode = .draining ∨ s.mode = .walking →
    s.packing.doorList = [] ∨ s.packing.door ≠ .idle

/-! ### Probes -/

/-- This reading makes used probe `n` stale: it has a value, and the invalid run passes STALE_LIMIT with it (R109,
R110). -/
def turnsStale (s : State) (n : Nat) (reading : Int) : Bool :=
  probeUsed s n && (s.probe n).value.isSome && decide (reading < -600 ∨ 1300 < reading)
    && decide ((s.probe n).invalidRun ≤ s.staleLimit) && decide (s.staleLimit < min 255 ((s.probe n).invalidRun + 1))

/-! ### Segments and bags -/

/-- A forming segment closed at a length: the mass of R79. -/
def closedAt (s : State) (length : Nat) (r : UnitRecord) : UnitRecord :=
  { r with length := length, mass := min (roundDiv (length * s.loading) 256) 65535, forming := false }

/-- The load input after a mass has joined the zone (R138). -/
def loadGained (s : State) (mass : Nat) : Nat :=
  if s.hasRole .freeze then min (s.flow.loadInput + mass) 65535 else s.flow.loadInput

/-- The zone at an accepted forward count whose close takes the last record's segment, at the closed length that its
moved head gives, with the verdicts of the count (R67, R76, R77, R118). -/
def closedZone (s : State) (zone : List UnitRecord) (r : UnitRecord) (length : Nat) : List UnitRecord :=
  let moved := zone.map fun (x : UnitRecord) => { x with head := x.head + 1 }
  (moved ++ [closedAt s length { r with head := r.head + 1 }]).map
    fun u => if verdictDue s u then judgedRecord s u else u

/-- A closed record after an accepted forward count has moved it (R67). -/
def advanced (u : UnitRecord) : UnitRecord := { u with head := u.head + 1 }

/-- The zone after the verdicts of a count (R118). -/
def judgedZone (s : State) (zone : List UnitRecord) : List UnitRecord :=
  zone.map fun u => if verdictDue s u then judgedRecord s u else u

/-- A closed record that has absorbed this length and mass (R82). -/
def absorbed (u : UnitRecord) (length mass : Nat) : UnitRecord :=
  { u with
    length := min 4095 (u.length + length)
    mass := min (u.mass + mass) 65535
    disposition := if u.kind = .bag then 9 else max 8 u.disposition }

/-- The tag that the station issues next, where neither list holds it (R72). -/
def nextTag (s : State) : Tag := BitVec.ofNat 16 (2048 * s.station.number + s.tracking.tagSeq)

/-- The mass of a closed length (R79). -/
def massAt (s : State) (length : Nat) : Nat := min (roundDiv (length * s.loading) 256) 65535

/-- The record of a merge-bound segment that closes with this length (R69, R74, R81). -/
def mergeRecord (s : State) (m : MergeBound) (length : Nat) : UnitRecord :=
  { formedRecord m.tag m.lot m.disposition with
    head := m.length
    length := length
    mass := massAt s length
    forming := false }

/-- The zone after a merge-bound segment has closed with this length: the last of 24 records has absorbed it, or it
stands as a record of its own by its head (R71, R81, R82). -/
def MergeClosed (s : State) (zone : List UnitRecord) (m : MergeBound) (length : Nat) (z : List UnitRecord) : Prop :=
  (zone.length = 24 ∧ ∃ before last, zone = before ++ [last] ∧ last.forming = false
      ∧ z = before ++ [absorbed last length (massAt s length)])
    ∨ (zone.length < 24 ∧ ∃ before after, zone = before ++ after ∧ (∀ x ∈ before, m.length ≤ x.head)
      ∧ (∀ x ∈ after, x.head < m.length) ∧ z = before ++ mergeRecord s m length :: after)

/-- The record that a placement of an arrival enters (R102). -/
def placed (s : State) (m : UnitImage) : UnitRecord :=
  { tag := m.tag
    kind := m.kind
    lot := m.lot
    head := 0
    length := max 1 (min 4095 (roundDiv (m.length * s.lengthScale) 256))
    mass := m.mass
    dose := m.dose
    dwell := if s.hasRole .chill || s.hasRole .freeze then some 0 else m.dwell
    disposition := m.disposition
    blanchMade := m.blanchMade
    dwellMade := if s.hasRole .chill || s.hasRole .freeze then false else m.dwellMade
    forming := false
    handover := .localUnit
    attempts := 0 }

/-- The record of a closed bag, with the tag of this sequence number (R72, R177). -/
def closedBag (s : State) (seq lot mass disposition : Nat) : UnitRecord :=
  { tag := BitVec.ofNat 16 (2048 * s.station.number + seq)
    kind := .bag
    lot := lot
    head := s.bagPoint + s.bagPitch
    length := s.bagPitch
    mass := mass
    dose := none
    dwell := none
    disposition := disposition
    blanchMade := false
    dwellMade := false
    forming := false
    handover := .localUnit
    attempts := 0 }

/-- How a bag that a segment has just joined closes: REJECT, HEAVY or GOOD (R176). -/
def bagDisposition (s : State) (segment mass : Nat) : Nat :=
  if segment ≠ 0 then 9 else if s.bagTarget + s.bagOver < mass then 1 else 0

/-! ### Channels -/

/-- What a base value `n` makes of a RUNNING channel of a compare mode, by its mode (R160 to R162). `wrap` says that the
base has wrapped to take it. -/
def CompareTakes (r : ChannelRecord) (n : Nat) (wrap : Bool) (c d : Channel) : Prop :=
  (r.mode = .setAt →
    d.level = (c.level || (!c.latched && decide (n = r.a))) ∧ d.latched = (c.latched || decide (n = r.a)))
  ∧ (r.mode = .clearAt →
    d.level = (c.level && (c.latched || decide (n ≠ r.a))) ∧ d.latched = (c.latched || decide (n = r.a)))
  ∧ (r.mode = .toggle → d.level = (c.level ^^ decide (n = r.a)))
  ∧ (r.mode = .onePulse →
    (c.phase = .awaitingRise → r.a ≠ r.b → n = r.a → d.level = true ∧ d.phase = .awaitingFall)
    ∧ (c.phase = .awaitingRise → r.a = r.b ∨ n ≠ r.a → d.level = c.level)
    ∧ (c.phase = .awaitingFall → wrap = false → n = r.b → d.level = false ∧ d.phase = .inert)
    ∧ (c.phase = .awaitingFall → wrap = false → n ≠ r.b → d.level = c.level ∧ d.phase = .awaitingFall)
    ∧ (c.phase = .awaitingFall → wrap = true → d.level = c.level ∧ d.phase = .inert)
    ∧ (c.phase = .inert → d.level = c.level ∧ d.phase = .inert))
  ∧ (r.mode = .repeatPulse →
    d.level = (if r.a = r.b then c.level else if n = r.a then true else if n = r.b then false else c.level))

/-- A channel as its start leaves it (R157): the initial level of its mode, with its base at 0. -/
def Started (r : ChannelRecord) (c : Channel) : Prop :=
  c.run = .running ∧ c.oneShot = none ∧ c.rose = false
    ∧ c.level
        = (match r.mode with
          | .setAt | .toggle => decide (r.a = 0)
          | .clearAt => decide (r.a ≠ 0)
          | .onePulse | .repeatPulse => decide (r.a = 0 ∧ r.b ≠ 0)
          | .off | .duty | .segmentWindow | .eventPulse | .follow => false)
    ∧ c.latched = decide ((r.mode = .setAt ∨ r.mode = .clearAt) ∧ r.a = 0)
    ∧ c.phase
        = (if r.mode = .onePulse ∧ r.a = 0 then (if r.b = 0 then .inert else .awaitingFall) else .awaitingRise)

/-- The bases at their start: the belt base, and each time base whose period is held, at 0 (R158, R159). -/
def BasesAtStart (s : State) : Prop :=
  s.channels.tb0 = (if itemHeld s.items 67 then some 0 else none)
    ∧ s.channels.tb1 = (if itemHeld s.items 68 then some 0 else none) ∧ s.channels.belt = some 0

/-- Every channel STOPPED with its output inactive, and the bases stopped (R156). -/
def Dormant (s : State) : Prop :=
  (∀ ch (h : ch < 6), s.channels.chans[ch] = ⟨.stopped, false, false, .awaitingRise, none, false, false⟩)
    ∧ s.channels.tb0 = none ∧ s.channels.tb1 = none ∧ s.channels.belt = none

/-- The infeed gate is open (R135). -/
def GateOpen (s : State) : Prop :=
  s.isHead = true ∧ s.mode = .running
    ∧ (s.downstream ≠ 0 →
        (s.peerEntry s.downstream).holding = false ∧ (s.peerEntry s.downstream).stale = false)
    ∧ (s.hasRole .blanch = true ∨ s.flow.drive = true) ∧ s.flow.gapRun = none

/-- What a RUNNING channel of record `r` shows on its pin, by its mode (R160 to R165, R168, R169). -/
def OutputRow (s : State) (ch : Nat) (r : ChannelRecord) (level out : Bool) : Prop :=
  match r.mode with
  | .off => out = false
  | .setAt | .clearAt | .toggle | .onePulse | .repeatPulse | .eventPulse => out = level
  | .segmentWindow =>
    out = true ↔ r.a < r.b
      ∧ ∃ u ∈ s.tracking.zone, r.mask.getLsbD u.disposition = true ∧ r.a ≤ u.head ∧ (u.head : Int) - u.length < r.b
  | .follow =>
    out = true ↔ (r.source = 4 ∧ s.defrost.cycle ≠ none) ∨ (r.source = 5 ∧ ∃ e, s.packing.door = .opened e)
      ∨ (r.source = 6 ∧ s.flow.reasons ≠ ⟨false, false, false, false, false⟩)
  | .duty =>
    ∀ v p, (r.base = .tb0 ∧ s.channels.tb0 = some v ∧ p = s.item 67)
        ∨ (r.base = .tb1 ∧ s.channels.tb1 = some v ∧ p = s.item 68) →
      (s.isHead = false ∨ s.item 20 ≠ ch → (out = true ↔ v < r.a * p / 64))
        ∧ (s.isHead = true → s.item 20 = ch → (out = true ↔ GateOpen s ∧ v < s.flow.duty * p / 64))

/-- Every output pin shows what its channel's run state and mode say. -/
def OutputsFollow (s : State) : Prop :=
  ∀ ch (h : ch < 6),
    (s.channels.chans[ch].run ≠ .running → s.channels.chans[ch].out = false)
      ∧ (s.channels.chans[ch].run = .running →
          OutputRow s ch (s.channelRecord ch) s.channels.chans[ch].level s.channels.chans[ch].out)

/-! ### Accepted profiles -/

/-- The items that the held values require, apart from the probe ranges and the channels' items (R19). -/
def Required (p : Profile) (n : Nat) : Prop :=
  n ∈ [1, 2, 3, 5, 6, 7, 8, 17, 18, 19]
    ∨ (n = 4 ∧ (itemNat p 2 = 0 ∨ itemNat p 2 = 1))
    ∨ (n ∈ [9, 10] ∧ itemNat p 1 ≠ 1)
    ∨ (n ∈ [11, 15, 16] ∧ (itemNat p 2 = 0 ∨ itemNat p 2 = 2))
    ∨ (20 ≤ n ∧ n ≤ 25 ∧ (itemNat p 2 = 1 ∨ itemNat p 2 = 3))
    ∨ (30 ≤ n ∧ n ≤ 33 ∧ itemNat p 1 = 1)
    ∨ (n ∈ [34, 35] ∧ 1 ≤ itemNat p 1 ∧ itemNat p 1 ≤ 3)
    ∨ (n ∈ [36, 37] ∧ (itemNat p 1 = 2 ∨ itemNat p 1 = 3))
    ∨ (38 ≤ n ∧ n ≤ 48 ∧ itemNat p 1 = 3)
    ∨ (69 ≤ n ∧ n ≤ 72 ∧ itemNat p 1 = 4)
    ∨ (73 ≤ n ∧ n ≤ 77 ∧ itemNat p 1 = 5)

/-- Number, Min and Max of the single-field items that are read as unsigned (R16). -/
def unsignedBounds : List (Nat × Nat × Nat) :=
  [(1, 0, 5), (2, 0, 3), (3, 256, 65535), (4, 1, 65535), (5, 100, 5000), (6, 20, 1000), (7, 2, 24), (8, 0, 23)]
    ++ [(9, 0, 600000), (10, 0, 60000), (11, 100, 60000), (12, 1, 29), (13, 1, 29), (14, 1, 65535), (15, 1, 4095)]
    ++ [(16, 1, 65535), (17, 1, 65535), (18, 64, 4095), (19, 8, 1023), (20, 0, 5), (21, 1, 64), (22, 1, 16)]
    ++ [(23, 0, 63), (24, 1, 255), (25, 1, 65535), (31, 10, 500), (32, 1, 16777215), (33, 1, 16777215)]
    ++ [(34, 1, 65535), (35, 1, 50), (37, 1, 16777215), (38, 0, 7), (39, 1, 65535), (40, 1, 65535), (42, 1, 255)]
    ++ [(43, 1, 8), (44, 1, 8), (45, 1, 8), (46, 1, 8), (47, 10, 3600), (48, 0, 8), (61, 0, 1023), (62, 0, 1023)]
    ++ [(63, 0, 1023), (64, 0, 1023), (65, 0, 1023), (66, 0, 1023), (67, 1, 65535), (68, 1, 65535), (69, 1, 65535)]
    ++ [(70, 50, 50000), (71, 0, 5000), (72, 16, 4095), (73, 1, 65535), (74, 1, 64), (75, 1000, 120000)]
    ++ [(76, 0, 3600000), (77, 0, 600000)]

/-- What the four stages grant of a profile that passes them (R18 to R21). The first five fields hold whatever the role
and the line position: the items that are required, the bounds of every item held, and the checks between any items
held. The others spell out what they come to for a role or a position. -/
structure ProfileFits (p : Profile) : Prop where
  required : ∀ n, Required p n → itemHeld p n = true
  unsigned : ∀ n lo hi, (n, lo, hi) ∈ unsignedBounds → itemHeld p n = true → lo ≤ itemNat p n ∧ itemNat p n ≤ hi
  signed : ∀ n, n = 30 ∨ n = 36 ∨ n = 41 → itemHeld p n = true → -600 ≤ itemInt p n ∧ itemInt p n ≤ 1300
  points : (itemHeld p 4 = true → itemNat p 4 < itemNat p 3) ∧ (itemHeld p 34 = true → itemNat p 34 ≤ itemNat p 3)
    ∧ (itemHeld p 69 = true → itemNat p 19 < itemNat p 69 ∧ itemNat p 69 < itemNat p 3)
    ∧ (itemHeld p 69 = true → itemHeld p 72 = true → itemNat p 69 + itemNat p 72 ≤ itemNat p 3)
    ∧ (itemHeld p 73 = true → itemNat p 73 < itemNat p 3)
    ∧ (itemHeld p 20 = true → itemHeld p (49 + itemNat p 20) = true ∧ modeField p (itemNat p 20) = 6)
  pairs : (itemHeld p 21 = true → itemHeld p 23 = true → itemNat p 23 < itemNat p 21)
    ∧ (itemHeld p 32 = true → itemHeld p 33 = true → itemNat p 32 ≤ itemNat p 33)
    ∧ (itemHeld p 39 = true → itemHeld p 40 = true → itemNat p 40 ≤ itemNat p 39)
    ∧ (itemHeld p 43 = true → itemHeld p 44 = true → itemNat p 43 < itemNat p 44)
    ∧ (itemHeld p 44 = true → itemHeld p 45 = true → itemNat p 44 < itemNat p 45)
    ∧ (itemHeld p 43 = true → itemHeld p 44 = true → itemHeld p 46 = true →
        itemNat p 43 ≤ itemNat p 46 ∧ itemNat p 46 ≤ itemNat p 44)
  known : ∀ n v, (n, v) ∈ p → 1 ≤ n ∧ n ≤ 77
  role : itemHeld p 1 = true ∧ itemNat p 1 ≤ 5
  position : itemHeld p 2 = true ∧ itemNat p 2 ≤ 3
  zoneLength : 256 ≤ itemNat p 3 ∧ itemNat p 3 ≤ 65535
  periods : 100 ≤ itemNat p 5 ∧ itemNat p 5 ≤ 5000 ∧ 20 ≤ itemNat p 6 ∧ itemNat p 6 ≤ 1000
  levels : 2 ≤ itemNat p 7 ∧ itemNat p 7 ≤ 24 ∧ itemNat p 8 < itemNat p 7
  formation : 1 ≤ itemNat p 17 ∧ itemNat p 17 ≤ 65535 ∧ 64 ≤ itemNat p 18 ∧ itemNat p 18 ≤ 4095
    ∧ 8 ≤ itemNat p 19 ∧ itemNat p 19 ≤ 1023
  offerLead : itemNat p 2 = 0 ∨ itemNat p 2 = 1 → 1 ≤ itemNat p 4 ∧ itemNat p 4 < itemNat p 3
  tail : itemNat p 2 = 2 ∨ itemNat p 2 = 3 → itemHeld p 13 = false ∧ itemNat p 1 ≠ 1
  arrivals : itemNat p 2 = 0 ∨ itemNat p 2 = 2 → 100 ≤ itemNat p 11 ∧ itemNat p 11 ≤ 60000
    ∧ 1 ≤ itemNat p 15 ∧ itemNat p 15 ≤ 4095 ∧ 1 ≤ itemNat p 16 ∧ itemNat p 16 ≤ 65535
  head : itemNat p 2 = 1 ∨ itemNat p 2 = 3 → itemHeld p 12 = false
    ∧ itemNat p 20 ≤ 5 ∧ modeField p (itemNat p 20) = 6
    ∧ itemNat p 23 < itemNat p 21 ∧ itemNat p 21 ≤ 64 ∧ 1 ≤ itemNat p 22 ∧ itemNat p 22 ≤ 16
    ∧ 1 ≤ itemNat p 24 ∧ itemNat p 24 ≤ 255 ∧ 1 ≤ itemNat p 25 ∧ itemNat p 25 ≤ 65535
  distance : itemHeld p 14 = true → itemHeld p 12 = true
  stoppable : itemNat p 1 ≠ 1 → itemHeld p 9 = true ∧ itemNat p 9 ≤ 600000
    ∧ itemHeld p 10 = true ∧ itemNat p 10 ≤ 60000
  thermal : 1 ≤ itemNat p 1 → itemNat p 1 ≤ 3 →
    (∃ n, 26 ≤ n ∧ n ≤ 29 ∧ itemNat p n ≠ 0) ∧ 1 ≤ itemNat p 35 ∧ itemNat p 35 ≤ 50 ∧ 1 ≤ itemNat p 34
      ∧ (itemNat p 2 = 0 ∨ itemNat p 2 = 1 → itemNat p 34 + itemNat p 18 / 2 < itemNat p 3 - itemNat p 4)
      ∧ (itemNat p 2 = 2 ∨ itemNat p 2 = 3 → itemNat p 34 + itemNat p 18 / 2 < itemNat p 3)
  probes : ∀ n, 26 ≤ n → n ≤ 29 → itemNat p n ≠ 0 →
    itemHigh p n < itemLow p n ∧ itemLow p n ≤ itemNat p 3
      ∧ ∀ m, 26 ≤ m → m < n → itemNat p m ≠ 0 → itemLow p m ≤ itemHigh p n ∨ itemLow p n ≤ itemHigh p m
  blanch : itemNat p 1 = 1 → -600 ≤ itemInt p 30 ∧ itemInt p 30 ≤ 1300 ∧ 10 ≤ itemNat p 31 ∧ itemNat p 31 ≤ 500
    ∧ 1 ≤ itemNat p 32 ∧ itemNat p 32 ≤ itemNat p 33 ∧ itemNat p 33 ≤ 16777215
  dwell : itemNat p 1 = 2 ∨ itemNat p 1 = 3 → -600 ≤ itemInt p 36 ∧ itemInt p 36 ≤ 1300
    ∧ 1 ≤ itemNat p 37 ∧ itemNat p 37 ≤ 16777215
  freeze : itemNat p 1 = 3 → itemNat p 38 ≤ 7 ∧ 1 ≤ itemNat p 40 ∧ itemNat p 40 ≤ itemNat p 39
    ∧ itemNat p 39 ≤ 65535 ∧ -600 ≤ itemInt p 41 ∧ itemInt p 41 ≤ 1300 ∧ 1 ≤ itemNat p 42 ∧ itemNat p 42 ≤ 255
    ∧ 1 ≤ itemNat p 43 ∧ itemNat p 43 < itemNat p 44 ∧ itemNat p 44 < itemNat p 45 ∧ itemNat p 45 ≤ 8
    ∧ itemNat p 43 ≤ itemNat p 46 ∧ itemNat p 46 ≤ itemNat p 44 ∧ 10 ≤ itemNat p 47 ∧ itemNat p 47 ≤ 3600
    ∧ itemNat p 48 ≤ 8
  channelFields : ∀ ch, ch < 6 →
    modeField p ch ≤ 9 ∧ baseField p ch ≤ 2 ∧ sourceField p ch ≤ 6 ∧ flagsField p ch ≤ 3
  compares : ∀ ch, ch < 6 → 1 ≤ modeField p ch → modeField p ch ≤ 8 → itemHeld p (55 + ch) = true
  masks : ∀ ch, ch < 6 → modeField p ch = 7 → itemHeld p (61 + ch) = true ∧ itemNat p (61 + ch) ≤ 1023
  bases : ∀ ch, ch < 6 → 1 ≤ modeField p ch → modeField p ch ≤ 6 →
    (baseField p ch = 1 → 1 ≤ itemNat p 67 ∧ itemNat p 67 ≤ 65535)
      ∧ (baseField p ch = 2 → 1 ≤ itemNat p 68 ∧ itemNat p 68 ≤ 65535)
  duties : ∀ ch, ch < 6 → modeField p ch = 6 → baseField p ch ≠ 0
    ∧ (¬ ((itemNat p 2 = 1 ∨ itemNat p 2 = 3) ∧ itemNat p 20 = ch) →
        1 ≤ itemHigh p (55 + ch) ∧ itemHigh p (55 + ch) ≤ 64)
  windows : ∀ ch, ch < 6 → modeField p ch = 7 → (flagsField p ch).testBit 0 = true →
    itemNat p 19 < itemLow p (55 + ch)
  bag : itemNat p 1 = 4 → itemNat p 19 < itemNat p 69 ∧ itemNat p 69 + itemNat p 72 ≤ itemNat p 3
    ∧ 50 ≤ itemNat p 70 ∧ itemNat p 70 ≤ 50000 ∧ itemNat p 71 ≤ 5000 ∧ 16 ≤ itemNat p 72 ∧ itemNat p 72 ≤ 4095
  transfer : itemNat p 1 = 5 → 1 ≤ itemNat p 73 ∧ itemNat p 73 < itemNat p 3 ∧ 1 ≤ itemNat p 74
    ∧ itemNat p 74 ≤ 64 ∧ 1000 ≤ itemNat p 75 ∧ itemNat p 75 ≤ 120000 ∧ itemHeld p 76 = true
    ∧ itemNat p 76 ≤ 3600000 ∧ itemHeld p 77 = true ∧ itemNat p 77 ≤ 600000

end Sys2Proof.Safety
end

