-- ==== Sys2Proof/Certificates/Slice0/Obligations.lean ====
section
/-! DEFINITION. The statements for the provers, grouped as the chapters of the manual are. -/

open Sys2Proof Sys2Proof.Machine Sys2Proof.Safety

/-! ### The whole machine -/

/-- A step is the effect of the command at the front of the queue, on the queue's rest. With no command waiting, one
millisecond of station time passes, which is the model's choice (log entry 1): station time goes on by one, and at a
FREEZE station in RUNNING or DRAINING so does the interval timer (R146), whose time the model holds at its period (log
entry 49). -/
def Obligations.StepRunsFrontCommand : Prop :=
  (∀ (c : Instr) (rest : List Instr) (s : State), s.pending = c :: rest → step s = exec c { s with pending := rest })
    ∧ (∀ s : State, s.pending = [] →
        step s = .next
          { s with
            now := s.now + 1
            defrost.intervalElapsed :=
              if s.hasRole .freeze = true ∧ (s.mode = .running ∨ s.mode = .draining) then
                min (s.item 42 * 60000) (s.defrost.intervalElapsed + 1)
              else s.defrost.intervalElapsed })

/-- Every step keeps the capacities of the lists, the ranges of the counters and of the debt, the limiters' histories,
and the orders of the transmit queue, of the zone queue and of the pending profile, and leaves no frame waiting on an
IDLE line. It keeps the held tags unique too, where the line owes what `FreshTags` says of a merge-bound segment's tag,
and lets no carrier wait at an IDLE door in a state in which the door is asked for (R182). -/
def Obligations.CapacitiesKept : Prop :=
  (∀ s t : State, Capacities s → step s = .next t → Capacities t)
    ∧ (∀ s t : State, Capacities s → UniqueTags s → FreshTags s → step s = .next t → UniqueTags t)
    ∧ (∀ s t : State, DoorServed s → step s = .next t → DoorServed t)

/-- Every step keeps the drive and the fault-governed outputs of a FAULTED station inactive, and every output of a
station without a profile. It keeps the drive, and the request that its limiter defers, as role, station state and stop
causes say: a stop cause stops a stoppable station in RUNNING and DRAINING, and without one it runs or waits for its
limiter (R129, R130, R133). -/
def Obligations.SafeOutputsKept : Prop :=
  (∀ s t : State, SafeOutputs s → step s = .next t → SafeOutputs t)
    ∧ (∀ s t : State, DriveFollows s → step s = .next t → DriveFollows t)

/-- The invariants hold right after reset. -/
def Obligations.InvariantsAtReset : Prop :=
  Capacities State.reset ∧ UniqueTags State.reset ∧ SafeOutputs State.reset ∧ OutputsFollow State.reset
    ∧ DriveFollows State.reset ∧ ReasonsFollow State.reset ∧ DoorServed State.reset

/-- A frame that a station sends is read, bit for bit, as the frame it was: R25 and R26 at the sender, R36 at the
receiver. -/
def Obligations.FramesReadAsSent : Prop :=
  ∀ f : Frame, Sendable f → formedFrame ((sentBits f).drop 1) = some f

/-- In QUIET no command but FULL_RESET changes anything but the levels of the fault input and of the encoder pins
(R15). That the line condition stands in QUIET is the model's choice (log entry 51), and so is the pair that the encoder
commands leave (log entry 54). -/
def Obligations.QuietActsOnNothing : Prop :=
  ∀ (c : Instr) (s : State), s.mode = .quiet → (∀ n r, c ≠ .fullReset n r) →
    ∃ (i : Bool) (e : EncoderPair), Next c s { s with faultIn := i, encoder := e }

/-- The station number and the link rate stand until the next full reset (R2), and so does a frozen profile (R22). -/
def Obligations.IdentityKept : Prop :=
  ∀ (c : Instr) (s t : State), (s.mode = .joining → s.station.frozen = none) → (∀ n r, c ≠ .fullReset n r) →
    Next c s t →
      t.station.number = s.station.number ∧ t.station.rateCode = s.station.rateCode
        ∧ (∀ p, s.station.frozen = some p → t.station.frozen = some p)

/-- While a profile is held only a completed defrost cycle lowers the debt, and it lowers it by one (R145). -/
def Obligations.OnlyCompletionLowersDebt : Prop :=
  ∀ (c : Instr) (s t : State), (s.mode = .joining → s.station.frozen = none) → (∀ n r, c ≠ .fullReset n r) →
    Next c s t → s.hasProfile = true → t.defrost.debt < s.defrost.debt →
      c = .defrostCompletion ∧ t.defrost.debt + 1 = s.defrost.debt

/-! ### Station control -/

/-- Full reset with valid straps leaves JOINING, with every block at its reset value; a fault input that is active sets
the latch and queues EVENT FAULT. With invalid straps it leaves QUIET, with no status timer and no holding reason. The
pins, station time and the waiting commands stand (R2, R23). Station time, the encoder pair, the latch of a QUIET
station and the frames of a full reset are the model's readings (log entries 2, 4, 22 and 23). -/
def Obligations.FullResetLeaves : Prop :=
  ∀ (n r : Nat) (s : State),
    (1 ≤ n ∧ n ≤ 29 ∧ r ≤ 2 →
      Next (.fullReset n r) s
        { State.reset with
          station := ⟨n, r, [], none, s.faultIn⟩
          link := { resetLink with
            txq := if s.faultIn then [⟨⟨.event, n, 0, [16#8, 0#8, 0#8, 0#8, 0#8]⟩, 0, false, false⟩] else [] }
          peer := resetPeerView s.now
          faultIn := s.faultIn
          encoder := s.encoder
          now := s.now
          orderDraws := s.orderDraws
          pending := s.pending })
    ∧ (¬ (1 ≤ n ∧ n ≤ 29 ∧ r ≤ 2) →
      Next (.fullReset n r) s
        { State.reset with
          mode := .quiet
          station := ⟨n, r, [], none, false⟩
          peer := { resetPeerView s.now with statusTimer := none }
          flow := { resetFlow with reasons := ⟨false, false, false, false, false⟩ }
          faultIn := s.faultIn
          encoder := s.encoder
          now := s.now
          orderDraws := s.orderDraws
          pending := s.pending })

/-- The fault input taking a profiled station to FAULTED: the latch, EVENT FAULT with the code of the state it found,
the drive and the reasons, both cycles, the walk, the close of a forming segment, the fault-governed channels, and what
is kept (R7, R62, R78, R126, R130, R153, R170, R184). The event is stated where the queue has room for all that
follows, and no segment forms. -/
def Obligations.FaultInputFaults : Prop :=
  ∀ s : State, s.hasProfile = true → s.station.faultLatch = false →
    (s.mode = .profiled ∨ s.mode = .walking ∨ s.mode = .ready ∨ s.mode = .running ∨ s.mode = .draining) →
    ∃ t, Next .faultInput s t
      ∧ t.mode = .faulted ∧ t.faultIn = true ∧ t.station = { s.station with faultLatch := true }
      ∧ t.flow.drive = false ∧ t.flow.reasons.idle = true ∧ t.flow.reasons.fault = true
      ∧ t.flow.reasons.defrost = false
      ∧ (s.unstoppable = false → t.flow.driveLimiter.deferred = none)
      ∧ t.defrost = { s.defrost with cycle := none }
      ∧ t.counters.defrostAborted
          = (if s.defrost.cycle.isSome then min (s.counters.defrostAborted + 1) 65535 else s.counters.defrostAborted)
      ∧ t.packing = { s.packing with door := .idle }
      ∧ (s.mode = .walking → t.peer.walk = none ∧ t.peer.neighbours = ⟨0, 0, 0⟩)
      ∧ (s.mode ≠ .walking → t.peer.walk = s.peer.walk ∧ t.peer.neighbours = s.peer.neighbours)
      ∧ t.peer.peers = s.peer.peers ∧ t.peer.statusTimer = s.peer.statusTimer
      ∧ t.arrivals = s.arrivals ∧ t.dose = s.dose ∧ t.link.rxq = s.link.rxq
      ∧ t.now = s.now ∧ t.pending = s.pending ∧ t.encoder = s.encoder
      ∧ (s.link.silencing = false → s.link.txq.length ≤ 4 → s.formingNow = false →
          ∀ code, (s.mode = .profiled ∧ code = 1) ∨ (s.mode = .walking ∧ code = 2) ∨ (s.mode = .ready ∧ code = 3)
              ∨ (s.mode = .running ∧ code = 4) ∨ (s.mode = .draining ∧ code = 5) →
            ∃ e ∈ t.link.txq, e.frame = eventOf s 16 code 0)
      ∧ (s.formingNow = false → SameUnits s.tracking.zone t.tracking.zone)
      ∧ (∀ (zone : List UnitRecord) (r : UnitRecord),
          (s.mode = .walking ∨ s.mode = .running ∨ s.mode = .draining) → s.tracking.mergeBound = none →
          s.tracking.zone = zone ++ [r] → r.forming = true → 0 < r.head →
          SameUnits
            (zone ++ [{ r with
              length := r.head, mass := min (roundDiv (r.head * s.loading) 256) 65535, forming := false }])
            t.tracking.zone)
      ∧ (∀ ch (h : ch < 6),
          ((s.channelRecord ch).faultGoverned = true →
            t.channels.chans[ch].run = .forced ∧ t.channels.chans[ch].out = false)
          ∧ ((s.channelRecord ch).faultGoverned = false → s.mode ≠ .profiled →
            t.channels.chans[ch] = { s.channels.chans[ch] with out := t.channels.chans[ch].out })
          ∧ ((s.channelRecord ch).faultGoverned = false → s.mode = .profiled →
            Started (s.channelRecord ch) t.channels.chans[ch]))

/-- The fault input elsewhere: with the latch set, or in QUIET, only the pin changes; in JOINING the latch is set, EVENT
FAULT with datum 0 is queued, and the state stays; and the input going inactive changes only the pin (R7). -/
def Obligations.FaultInputElsewhere : Prop :=
  (∀ s : State, s.station.faultLatch = true ∨ s.mode = .quiet → Next .faultInput s { s with faultIn := true })
    ∧ (∀ s : State, s.mode = .joining → s.station.faultLatch = false →
        ∃ t, Next .faultInput s t
          ∧ (∃ u, FramesQueued { s with faultIn := true, station.faultLatch := true } u ∧ t = settle u)
          ∧ (s.link.silencing = false → s.link.txq.length ≤ 6 → ∃ e ∈ t.link.txq, e.frame = eventOf s 16 0 0))
    ∧ (∀ s : State, Next .faultInputInactive s { s with faultIn := false })

/-- A command that fails a test of R8 changes no state, and the first failing test's reason code is reported. So it is
with a PROFILE or PROFILE_END outside JOINING, which is reported as locked out (R17). A PROFILE in JOINING stores its
value under its item number, in the place of the value held for that number if there is one, and changes nothing else
(R17). What follows a frame of the downstream may change what responding blocks change. -/
def Obligations.CommandRefused : Prop :=
  (∀ (c : Instr) (f : Frame) (rest : List Frame) (s : State) (reason : Nat),
    commandOf f.kind = some c → Oldest f.kind f rest s → Refused f s reason →
    ∃ t, Next c s t ∧ BlocksResponded (taken f rest s) t
      ∧ (f.origin ≠ s.downstream →
          GivesFrame (eventOf s 1 (256 * reason + kindCode f.kind) f.origin) (taken f rest s) t))
  ∧ (∀ (c : Instr) (f : Frame) (rest : List Frame) (s : State),
    (c = .profile ∧ f.kind = .profile) ∨ (c = .profileEnd ∧ f.kind = .profileEnd) →
    Oldest f.kind f rest s → Admitted f s → s.mode ≠ .joining →
    ∃ t, Next c s t ∧ BlocksResponded (taken f rest s) t
      ∧ (f.origin ≠ s.downstream → GivesFrame (eventOf s 3 (kindCode f.kind) f.origin) (taken f rest s) t))
  ∧ (∀ (f : Frame) (rest : List Frame) (s : State), Oldest .profile f rest s → Admitted f s → s.mode = .joining →
    s.station.pendingProfile.Pairwise (fun a b => a.1 < b.1) →
    ∃ p t, Next .profile s t ∧ BlocksResponded { taken f rest s with station.pendingProfile := p } t
      ∧ (f.origin ≠ s.downstream → t = settle { taken f rest s with station.pendingProfile := p })
      ∧ p.Pairwise (fun a b => a.1 < b.1)
      ∧ (∀ n v, (n, v) ∈ p ↔
          (n = payloadByte f.payload 0 ∧ v = payloadValue f.payload 1)
            ∨ (n ≠ payloadByte f.payload 0 ∧ (n, v) ∈ s.station.pendingProfile)))

/-- RUN in READY or DRAINING enters RUNNING. The records stay, and nothing but the blocks' responses follows. The drive
of an unstoppable station is then on, and that of a stoppable one with a stop cause off, with no request deferred. In
READY, with the drive off and no stop cause, a stoppable station asks its DRIVE limiter: a grant turns the drive on, and
a deferral leaves it off, counts START_DEFERRED and queues EVENT START_DEFERRED (R129 to R133). IDLE is clear, FAULT is
clear, and LEVEL stands (R126). The EVENT is stated where the queue has room. What the drive's request counts is stated
of a station at whose door no carrier waits unasked for (`DoorServed`, which every step keeps). -/
def Obligations.RunEntersRunning : Prop :=
  ∀ (f : Frame) (rest : List Frame) (s : State), Oldest .run f rest s → Admitted f s →
    ∃ t, Next .run s t ∧ BlocksResponded { taken f rest s with mode := .running } t
      ∧ t.flow.reasons.idle = false ∧ t.flow.reasons.fault = false
      ∧ t.flow.reasons.level = s.flow.reasons.level
      ∧ (s.hasRole .blanch = true → t.flow.drive = true)
      ∧ (s.hasProfile = true → s.hasRole .blanch = false → StopCause (taken f rest s) →
          t.flow.drive = false ∧ t.flow.driveLimiter.deferred = none)
      ∧ (s.hasProfile = true → s.hasRole .blanch = false → s.mode = .ready → f.origin ≠ s.downstream →
          ¬ StopCause s → s.flow.drive = false → s.flow.driveLimiter.deferred = none → DoorServed s →
          (∀ l, limiterAnswer (s.item 9) (s.item 10) s.now s.flow.driveLimiter = .granted l →
            t.flow.drive = true ∧ t.flow.driveLimiter = l ∧ t.counters.startDeferred = s.counters.startDeferred)
          ∧ (∀ l failing length,
            limiterAnswer (s.item 9) (s.item 10) s.now s.flow.driveLimiter = .deferred l failing length →
            t.flow.drive = false ∧ t.flow.driveLimiter = l
            ∧ t.counters.startDeferred = min (s.counters.startDeferred + 1) 65535
            ∧ (s.link.silencing = false → s.link.txq.length ≤ 4 →
                ∃ e ∈ t.link.txq, e.frame = eventOf s 11 failing (min ((length + 99) / 100) 65535))))

/-- STOP in RUNNING enters DRAINING, and READY at once where the drain is complete (R10, R11). -/
def Obligations.StopDrains : Prop :=
  ∀ (f : Frame) (rest : List Frame) (s : State), Oldest .stop f rest s → Admitted f s →
    ∃ t, Next .stop s t ∧ QueueResponded { taken f rest s with mode := .draining } t
      ∧ (Drained (taken f rest s) → t.mode = .ready)
      ∧ (¬ Drained (taken f rest s) → BlocksResponded { taken f rest s with mode := .draining } t)

/-- WALK_START enters WALKING with an empty neighbour record, a fresh walk state, an empty arrivals list and the drive
on (R12, R55, R104, R130). -/
def Obligations.WalkStartBegins : Prop :=
  ∀ (f : Frame) (rest : List Frame) (s : State), Oldest .walkStart f rest s → Admitted f s → s.hasProfile = true →
    ∃ t, Next .walkStart s t ∧ t.flow.drive = true
      ∧ BlocksResponded
          { taken f rest s with
            mode := .walking
            peer.neighbours := ⟨0, 0, 0⟩
            peer.walk := some ⟨false, false, 0, 0, 0, false⟩
            arrivals := [] } t

/-- WALK_END enters READY or PROFILED by the record that the walk has left, which is kept (R12, R61). -/
def Obligations.WalkEndLeaves : Prop :=
  ∀ (f : Frame) (rest : List Frame) (s : State), Oldest .walkEnd f rest s → Admitted f s →
    ∃ t, Next .walkEnd s t
      ∧ (Complete s → t.mode = .ready ∧ FormationEnded { taken f rest s with mode := .ready, peer.walk := none } t)
      ∧ (¬ Complete s →
          t.mode = .profiled ∧ FormationEnded { taken f rest s with mode := .profiled, peer.walk := none } t)
      ∧ t.tracking.mergeBound = none

/-- LOT at a head sets the current lot, and closes a forming segment at its head with the lot it had (R78, R80). A
merge-bound segment closes with its length, and is discarded at length 0 (R81). -/
def Obligations.LotSetsCurrentLot : Prop :=
  ∀ (f : Frame) (rest : List Frame) (s : State), Oldest .lot f rest s → Admitted f s →
    ∃ t, Next .lot s t
      ∧ FormationEnded { taken f rest s with tracking.currentLot := payload16 f.payload 0 } t
      ∧ t.tracking.mergeBound = none
      ∧ (∀ (zone : List UnitRecord) (r : UnitRecord), s.tracking.mergeBound = none → s.tracking.zone = zone ++ [r] →
          r.forming = true → 0 < r.head →
          SameUnits
            (zone ++ [{ r with
              length := r.head, mass := min (roundDiv (r.head * s.loading) 256) 65535, forming := false }])
            t.tracking.zone)
      ∧ (∀ (m : MergeBound) (z : List UnitRecord), s.tracking.mergeBound = some m →
          (m.length = 0 → SameUnits s.tracking.zone t.tracking.zone)
          ∧ (0 < m.length → MergeClosed s s.tracking.zone m m.length z → SameUnits z t.tracking.zone))

/-- FAULT_CLEAR in FAULTED: with the input inactive it clears the latch and enters READY or PROFILED; with the input
active it is refused with reason code 4 (R13). -/
def Obligations.FaultClearLeaves : Prop :=
  ∀ (f : Frame) (rest : List Frame) (s : State), Oldest .faultClear f rest s → Admitted f s →
    ∃ t, Next .faultClear s t
      ∧ (s.faultIn = false → Complete s →
          BlocksResponded { taken f rest s with mode := .ready, station.faultLatch := false } t)
      ∧ (s.faultIn = false → ¬ Complete s →
          BlocksResponded { taken f rest s with mode := .profiled, station.faultLatch := false } t)
      ∧ (s.faultIn = true → BlocksResponded (taken f rest s) t
          ∧ (f.origin ≠ s.downstream → Accepts .event s →
              t.link.txq = onLine s (queued (eventOf s 1 (256 * 4 + 23) f.origin) s.link.txq)))

/-- RESTART empties the receive buffer, the peer table, the walk state, the zone queue, the arrivals list, the packing
unit's lists and, but for the entry in transmission, the transmit queue. It takes the drive, the duty, the throttle, the
gap run, the load filter and the interval timer back to their starts, and withdraws deferred requests. It keeps the
neighbour record, the status timer, the probes, the debt, the limiters' histories, the tag sequence, the current lot and
the numbering of bags and carriers. A frame that it queues on an IDLE line starts. It leaves FAULTED, READY or
PROFILED (R14, R45, R61, R64, R86, R106, R143, R155, R186). The order of its parts is the model's reading (log
entry 27), and so is the empty neighbour record of a restart into FAULTED from WALKING (log entry 41). -/
def Obligations.RestartClears : Prop :=
  ∀ (f : Frame) (rest : List Frame) (s : State), Oldest .restart f rest s → Admitted f s → s.hasProfile = true →
    ∃ t, Next .restart s t
      ∧ t.station = { s.station with faultLatch := s.faultIn }
      ∧ (s.faultIn = true → t.mode = .faulted)
      ∧ (s.faultIn = false → Complete s → t.mode = .ready)
      ∧ (s.faultIn = false → ¬ Complete s → t.mode = .profiled)
      ∧ t.link.rxq = [] ∧ t.peer.peers = Vector.replicate 31 unheardPeer ∧ t.peer.walk = none
      ∧ t.peer.neighbours = (if s.mode = .walking ∧ s.faultIn = true then ⟨0, 0, 0⟩ else s.peer.neighbours)
      ∧ t.peer.statusTimer = s.peer.statusTimer
      ∧ t.tracking = ⟨[], none, 0, 0, s.tracking.tagSeq, s.tracking.currentLot⟩
      ∧ t.arrivals = [] ∧ t.dose = s.dose
      ∧ t.flow.drive = false ∧ t.flow.duty = (if s.isHead then s.infeedDuty else 0) ∧ t.flow.throttleCount = 0
      ∧ t.flow.loadInput = 0 ∧ t.flow.loadFilter = 0 ∧ t.flow.loadHigh = false
      ∧ (f.origin ≠ s.downstream → t.flow.driveLimiter.history = s.flow.driveLimiter.history)
      ∧ t.flow.doorLimiter.history = s.flow.doorLimiter.history
      ∧ t.defrost.debt = s.defrost.debt ∧ t.defrost.intervalElapsed = 0
      ∧ t.defrost.overdueStay = s.defrost.overdueStay ∧ t.defrost.want = s.defrost.want
      ∧ t.packing = ⟨none, s.packing.nextBag, none, s.packing.nextCarrier, [], .idle⟩
      ∧ t.now = s.now ∧ t.pending = s.pending
      ∧ (∀ e ∈ t.link.txq, e.sending = false →
          e.frame.kind = .status ∨ e.frame.kind = .hold ∨ e.frame.kind = .event)
      ∧ (∀ e ∈ s.link.txq, e.sending = true → { e with severed := true } ∈ t.link.txq)
      ∧ (∀ e ∈ t.link.txq, e.sending = true →
          (∃ e' ∈ s.link.txq, e'.sending = true ∧ e = { e' with severed := true })
            ∨ (s.link.line = .idle ∧ t.link.line = .busy ∧ e.severed = false ∧ e.attempts = 0
                ∧ t.link.txq.head? = some e))
      ∧ LineKept s t
      ∧ (s.peer.chainDefrost = true ∨ s.defrost.want = false → t.flow.gapRun = none)
      ∧ (s.unstoppable = false → t.flow.driveLimiter.deferred = none)
      ∧ (s.packing.door = .requested → t.flow.doorLimiter.deferred = none)

/-- A PROFILE_END whose profile fails a stage empties the pending profile and reports the stage and the item (R22). The
count stage fails where the count is not the number of items held, the required stage at an item that is not held or,
with no probe in use, at item 26, and the range stage at an item held (R18 to R20). A profile that passes all four has
what R18 to R21 ask of it, in the items that its role and position use and in any others that it holds. -/
def Obligations.ProfileRefused : Prop :=
  (∀ (f : Frame) (rest : List Frame) (s : State) (stage item : Nat), Oldest .profileEnd f rest s → Admitted f s →
    s.mode = .joining → profileFailure s.station.pendingProfile (payloadByte f.payload 0) = some (stage, item) →
    ∃ t, Next .profileEnd s t ∧ BlocksResponded { taken f rest s with station.pendingProfile := [] } t
      ∧ (f.origin ≠ s.downstream →
          GivesFrame (eventOf s 2 (256 * stage + item) s.station.pendingProfile.length)
            { taken f rest s with station.pendingProfile := [] } t))
  ∧ (∀ (p : Profile) (count : Nat),
      (count ≠ p.length → profileFailure p count = some (1, 0))
      ∧ (count = p.length → itemHeld p 1 = false → profileFailure p count = some (2, 1))
      ∧ (∀ stage item, profileFailure p count = some (stage, item) →
          (stage = 1 ∧ item = 0 ∧ count ≠ p.length)
            ∨ (stage = 2 ∧ count = p.length ∧ 1 ≤ item ∧ item ≤ 77
                ∧ (itemHeld p item = false ∨ (item = 26 ∧ ∀ n, 26 ≤ n → n ≤ 29 → itemNat p n = 0)))
            ∨ (stage = 3 ∧ count = p.length ∧ ∃ v, (item, v) ∈ p)
            ∨ (stage = 4 ∧ count = p.length ∧ 1 ≤ item ∧ item ≤ 77))
      ∧ (profileFailure p count = none → count = p.length ∧ ProfileFits p))

/-- Acceptance: the frozen profile, the neighbour record, the state entered, and the values each block takes (R22, R51,
R108, R136, R154). -/
def Obligations.ProfileAccepted : Prop :=
  ∀ (f : Frame) (rest : List Frame) (s : State), Oldest .profileEnd f rest s → Admitted f s → s.mode = .joining →
    profileFailure s.station.pendingProfile (payloadByte f.payload 0) = none →
    ∃ t, Next .profileEnd s t
      ∧ t.station = { s.station with pendingProfile := [], frozen := some s.station.pendingProfile }
      ∧ t.peer.neighbours
          = ⟨itemNat s.station.pendingProfile 12, itemNat s.station.pendingProfile 13,
              itemNat s.station.pendingProfile 14⟩
      ∧ (s.station.faultLatch = true → t.mode = .faulted)
      ∧ (s.station.faultLatch = false → Complete t → t.mode = .ready)
      ∧ (s.station.faultLatch = false → ¬ Complete t → t.mode = .profiled)
      ∧ t.peer.statusTimer
          = some ⟨itemNat s.station.pendingProfile 5, s.now + itemNat s.station.pendingProfile 5⟩
      ∧ t.dose = ⟨some ⟨itemNat s.station.pendingProfile 6, s.now + itemNat s.station.pendingProfile 6⟩,
          Vector.replicate 4 ⟨none, 0⟩⟩
      ∧ t.flow.duty = (if t.isHead then itemNat s.station.pendingProfile 21 else 0)
      ∧ t.defrost.debt = (if t.hasRole .freeze then itemNat s.station.pendingProfile 48 else 0)

/-- REPORT_ASK in every state but QUIET: the origin's entry is refreshed, which may make a stale downstream fresh again;
then one REPORT of its own with the page's four counters as they stand, or, for a page above 3, EVENT COMMAND_REFUSED
with datum 1,305 and no REPORT. No counter changes (R190). -/
def Obligations.ReportAnswers : Prop :=
  ∀ (f : Frame) (rest : List Frame) (s : State), Oldest .reportAsk f rest s → Admitted f s →
    ∃ u t, BlocksResponded (taken f rest s) u ∧ (f.origin ≠ s.downstream → u = taken f rest s)
      ∧ Next .reportAsk s t ∧ BlocksResponded u t
      ∧ (Accepts .event u → t.counters = u.counters
          ∧ (3 < payloadByte f.payload 0 → t.link.txq = onLine u (queued (eventOf u 1 1305 f.origin) u.link.txq))
          ∧ (∀ a b c d : CounterName,
              (payloadByte f.payload 0 = 0 ∧ [a, b, c, d] = [.merged, .orphans, .arrivalMiss, .reserveExpired])
                ∨ (payloadByte f.payload 0 = 1 ∧ [a, b, c, d] = [.untakenPass, .diverted, .verdictFail, .probeStale])
                ∨ (payloadByte f.payload 0 = 2 ∧ [a, b, c, d] = [.txDrop, .linkDrop, .rxOverrun, .startDeferred])
                ∨ (payloadByte f.payload 0 = 3
                    ∧ [a, b, c, d] = [.defrostDone, .defrostAborted, .bagsClosed, .carriersStored]) →
              t.link.txq
                = onLine u
                    (queued
                      ⟨.report, u.station.number, 0,
                        byteOf (payloadByte f.payload 0) :: (be16 (counterOf u.counters a)
                          ++ be16 (counterOf u.counters b) ++ be16 (counterOf u.counters c)
                          ++ be16 (counterOf u.counters d))⟩
                      u.link.txq)))

/-! ### The line link -/

/-- The line becoming IDLE starts the head entry of the transmit queue, or leaves the line IDLE when nothing waits; a
start bit of another node makes the line BUSY. A command that queues frames on an IDLE line leaves the first of them in
transmission and the line BUSY; FULL_RESET and FRAME_RECEIVED make the line BUSY themselves (R24, R31). That
TRANSMIT_START is the line becoming IDLE is the model's reading (log entry 9), and so are that the frame starts at the
command's end (log entry 44) and that an event of a line in another condition changes nothing (log entry 5). -/
def Obligations.LineConditions : Prop :=
  (∀ (s : State) (e : TxEntry) (q : List TxEntry), s.mode ≠ .quiet → s.link.txq = e :: q →
      (∀ x ∈ s.link.txq, x.sending = false) →
      Next .transmitStart s
        (settleOutputs
          { s with link := { s.link with txq := { e with sending := true } :: q, line := .busy, ackDrive := false } }))
    ∧ (∀ s : State, s.mode ≠ .quiet → s.link.txq = [] →
        Next .transmitStart s (settleOutputs { s with link.line := .idle, link.ackDrive := false }))
    ∧ (∀ s : State, (∃ x ∈ s.link.txq, x.sending = true) → Next .transmitStart s s)
    ∧ (∀ s : State, s.mode ≠ .quiet → s.link.line = .idle →
        Next .lineBusy s (settleOutputs { s with link.line := .busy, link.ackDrive := false }))
    ∧ (∀ s : State, s.link.line = .busy → Next .lineBusy s s)
    ∧ (∀ (c : Instr) (s t : State), (∀ n r, c ≠ .fullReset n r) → (∀ bits, c ≠ .frameReceived bits) → Next c s t →
        s.link.line = .idle → s.link.txq = [] → t.link.txq ≠ [] →
        t.link.line = .busy
          ∧ ∃ e q, t.link.txq = e :: q ∧ e.sending = true ∧ e.attempts = 0 ∧ ∀ x ∈ q, x.sending = false)

/-- Arbitration loss leaves the entry waiting with its attempts, unless a newer STATUS or HOLD waits behind it or a line
restart has severed it: then it leaves the queue (R32, R40, R45). -/
def Obligations.ArbitrationLossKeeps : Prop :=
  ∀ (s : State) (before after : List TxEntry) (e : TxEntry) (bit : Nat), s.mode ≠ .quiet →
    s.link.txq = before ++ e :: after → e.sending = true → (∀ x ∈ before ++ after, x.sending = false) →
    (arbitrationBits e.frame)[bit]? = some true →
      (e.severed = false → (mergingKind e.frame.kind && kindWaits e.frame.kind s.link.txq) = false →
        Next (.arbitrationLoss bit) s
          (settle { s with link.txq := before ++ { e with sending := false } :: after }))
      ∧ (e.severed = true ∨ (mergingKind e.frame.kind && kindWaits e.frame.kind s.link.txq) = true →
        Next (.arbitrationLoss bit) s (settle { s with link.txq := before ++ after }))

/-- A bit error and a recessive acknowledge slot are failed attempts: the attempt count goes up and the entry waits,
and at the eighth the entry is dropped, LINK_DROP is counted and, unless it was an EVENT, reported (R33, R34, R35).
That the eighth failure drops and counts the entry also where a newer one waits is the model's reading (log
entry 17). -/
def Obligations.FailedAttempts : Prop :=
  ∀ (s : State) (before after : List TxEntry) (e : TxEntry) (c : Instr), s.mode ≠ .quiet →
    s.link.txq = before ++ e :: after → e.sending = true → (∀ x ∈ before ++ after, x.sending = false) →
    e.severed = false → s.link.silencing = false →
    (c = .acknowledgeSlot false
      ∨ ∃ bit driven, c = .bitError bit ∧ (sentBits e.frame)[bit]? = some driven
          ∧ (driven = true → bit = 0 ∨ 12 < bit)) →
      (e.attempts < 7 → (mergingKind e.frame.kind && kindWaits e.frame.kind s.link.txq) = false →
        Next c s
          (settle
            { s with link.txq := before ++ { e with sending := false, attempts := e.attempts + 1 } :: after }))
      ∧ (7 ≤ e.attempts → e.frame.kind = .event →
        Next c s (settle (count .linkDrop { s with link.txq := before ++ after })))
      ∧ (7 ≤ e.attempts → e.frame.kind ≠ .event → e.frame.kind ≠ .offer → s.link.txq.length ≤ 8 →
        Next c s
          (settle (count .linkDrop
            { s with
              link.txq := queued (eventOf s 10 (kindCode e.frame.kind) e.frame.target) (before ++ after) })))

/-- A dominant acknowledge slot removes the entry. A completed OFFER gives its SENDING record a reply deadline 40 ms
on. The completed EVENT of a silenced station takes it to QUIET, with drive and outputs inactive (R15, R34, R42, R90).
That the status timer stops and silencing ends in QUIET is the model's reading (log entry 24). -/
def Obligations.AcknowledgedFrames : Prop :=
  ∀ (s : State) (before after : List TxEntry) (e : TxEntry), s.mode ≠ .quiet →
    s.link.txq = before ++ e :: after → e.sending = true → (∀ x ∈ before ++ after, x.sending = false) →
    e.severed = false →
      (s.link.silencing = false → e.frame.kind ≠ .offer →
        Next (.acknowledgeSlot true) s (settle { s with link.txq := before ++ after }))
      ∧ (s.link.silencing = false → e.frame.kind = .offer →
        Next (.acknowledgeSlot true) s
          (settle
            { s with
              link.txq := before ++ after
              tracking.zone := s.tracking.zone.map (fun r =>
                if r.tag = (imageOf e.frame.payload).tag ∧ r.handover = .offered .sending then
                  { r with handover := .offered (.waiting (s.now + 40)) }
                else r) }))
      ∧ (s.link.silencing = true →
        ∃ t, Next (.acknowledgeSlot true) s t ∧ t.mode = .quiet ∧ t.flow.drive = false ∧ t.peer.statusTimer = none
          ∧ t.link.silencing = false ∧ t.link.txq = before ++ after ∧ (∀ ch (h : ch < 6), t.channels.chans[ch].out = false))

/-- A frame of another node, at the end of its check field: discarded, stored and acknowledged, counted as an overrun,
or taken as a sign of a duplicate station number (R36, R37, R42). -/
def Obligations.FramesReceived : Prop :=
  ∀ (s : State) (bits : List Bool), s.mode ≠ .quiet → (∀ x ∈ s.link.txq, x.sending = false) →
    (formedFrame bits = none →
      Next (.frameReceived bits) s (settleOutputs { s with link.line := .busy, link.ackDrive := false }))
    ∧ ∀ f : Frame, formedFrame bits = some f →
      (f.origin ≠ s.station.number →
        (f.origin = 0 ∨ (f.target ≠ 0 ∧ f.target ≠ s.station.number) ∨ s.link.silencing = true) →
        Next (.frameReceived bits) s (settleOutputs { s with link.line := .busy, link.ackDrive := false }))
      ∧ (f.origin ≠ s.station.number → f.origin ≠ 0 → (f.target = 0 ∨ f.target = s.station.number) →
        s.link.silencing = false → s.link.rxq.length < 4 →
        Next (.frameReceived bits) s
          (settleOutputs { s with link.line := .busy, link.ackDrive := true, link.rxq := s.link.rxq ++ [f] }))
      ∧ (f.origin ≠ s.station.number → f.origin ≠ 0 → (f.target = 0 ∨ f.target = s.station.number) →
        s.link.silencing = false → 4 ≤ s.link.rxq.length →
        Next (.frameReceived bits) s
          (settleOutputs (count .rxOverrun { s with link.line := .busy, link.ackDrive := false })))
      ∧ (f.origin = s.station.number → s.link.silencing = false →
        Next (.frameReceived bits) s
          (settleOutputs
            { s with
              link :=
                { txq := [⟨eventOf s 4 (kindCode f.kind) 0, 0, false, false⟩]
                  rxq := []
                  line := .busy
                  silencing := true
                  ackDrive := false } }))

/-- What the transmit queue does with a frame that a block hands it. A QUIET or silenced station discards it (R15, R42).
A STATUS or HOLD takes the place of the one that waits, with that one's place and attempts (R40). Otherwise it joins by
its arbitration value, after those of equal value, while the queue holds fewer than 8 (R39). With 8 entries the last
waiting one gives way to a frame of a lower class, and a frame of an equal or higher class is itself lost, with TX_DROP
counted (R41). Where an OFFER gives way, its re-offers meet the full queue again and its record comes to rest, which
rests on the model's readings (log entries 15, 38 and 42). That a frame joins ahead of a frame in transmission of a
higher value is its choice too (log entry 61). -/
def Obligations.QueueMergesAndDisplaces : Prop :=
  ∀ (s : State) (f : Frame),
    (s.mode = .quiet ∨ s.link.silencing = true → queueFrame f s = s)
    ∧ (s.mode ≠ .quiet → s.link.silencing = false →
      (∀ (before after : List TxEntry) (e : TxEntry), f.kind = .status ∨ f.kind = .hold →
          s.link.txq = before ++ e :: after → e.frame.kind = f.kind → e.sending = false →
          (∀ x ∈ before ++ after, x.frame.kind = f.kind → x.sending = true) →
          queueFrame f s = { s with link.txq := before ++ { e with frame := f } :: after })
      ∧ ((f.kind ≠ .status ∧ f.kind ≠ .hold) ∨ (∀ x ∈ s.link.txq, x.frame.kind = f.kind → x.sending = true) →
        (∀ before after : List TxEntry, s.link.txq.length < 8 → s.link.txq = before ++ after →
          (∀ x ∈ before, arbitration x.frame ≤ arbitration f) → (∀ x ∈ after, arbitration f < arbitration x.frame) →
          queueFrame f s = { s with link.txq := before ++ ⟨f, 0, false, false⟩ :: after })
        ∧ (∀ (before after : List TxEntry) (e : TxEntry), 8 ≤ s.link.txq.length →
          s.link.txq = before ++ e :: after → e.sending = false → (∀ x ∈ after, x.sending = true) →
          (kindClass f.kind < kindClass e.frame.kind → e.frame.kind ≠ .offer →
            queueFrame f s
              = { s with
                  link.txq := queued f (before ++ after)
                  counters.txDrop := min (s.counters.txDrop + 1) 65535 })
          ∧ (kindClass e.frame.kind ≤ kindClass f.kind → f.kind ≠ .offer →
            queueFrame f s = { s with counters.txDrop := min (s.counters.txDrop + 1) 65535 })
          ∧ (∀ r, kindClass f.kind < kindClass e.frame.kind → e.frame.kind = .offer → s.mode ≠ .walking →
            s.downstream ≠ 0 → s.link.txq.length = 8 → s.tracking.zone = [r] →
            (imageOf e.frame.payload).tag = r.tag → imageOf (imageBytes (recordImage r)) = recordImage r →
            (∀ x ∈ before, kindClass x.frame.kind ≤ 1) → r.handover = .offered .sending → r.attempts ≤ 3 →
            queueFrame f s
              = { s with
                  link.txq := queued f (before ++ after)
                  counters.txDrop := min (s.counters.txDrop + 4 - r.attempts) 65535
                  tracking.zone := [{ r with handover := .offered .resting, attempts := 3 }] }))))

/-! ### The peer view -/

/-- A HOLD sets its origin's holding field, and one from the downstream that holds leaves no offer waiting: each record
that waited rests, with the attempts it had (R47, R93). That freshness and field are handed on together is the model's
reading (log entry 14). -/
def Obligations.HoldHandled : Prop :=
  ∀ (f : Frame) (rest : List Frame) (s : State), Oldest .hold f rest s → 1 ≤ f.origin → f.origin ≤ 31 →
    ∃ t, Next .hold s t
      ∧ BlocksResponded
          (takenWith f rest { refreshedEntry s f.origin with holding := decide (payloadByte f.payload 0 ≠ 0) } s) t
      ∧ (f.origin = s.downstream → payloadByte f.payload 0 ≠ 0 →
          ∀ r ∈ t.tracking.zone, ∀ deadline, r.handover ≠ .offered (.waiting deadline))
      ∧ (f.origin = s.downstream → payloadByte f.payload 0 ≠ 0 → (s.tracking.zone.map (·.tag)).Nodup →
          ∀ r ∈ s.tracking.zone, ∀ deadline, r.handover = .offered (.waiting deadline) →
            { r with handover := .offered .resting } ∈ t.tracking.zone)

/-- A STATUS sets its origin's state, flags and holding fields. A READY from the upstream completes the drain of an
empty station (R11, R48). One from the downstream evaluates both chain flags, whose rise of chain_defrost starts a gap
run at a head (R53, R137), and with its holding flag clear it revives every resting offer, with its attempts at 0 and a
new OFFER, where the queue has room for them (R94). That freshness and fields are handed on together is the model's
reading (log entry 14). -/
def Obligations.StatusHandled : Prop :=
  ∀ (f : Frame) (rest : List Frame) (s : State), Oldest .status f rest s → 1 ≤ f.origin → f.origin ≤ 31 →
    ∃ t, Next .status s t
      ∧ QueueResponded
          (takenWith f rest
            { refreshedEntry s f.origin with
              state := payloadByte f.payload 0
              flags := f.payload.getD 1 0#8
              holding := (f.payload.getD 1 0#8).getLsbD 0 } s) t
      ∧ (s.mode = .draining → f.origin = s.upstream → payloadByte f.payload 0 = 3 → s.tracking.zone = [] →
          s.arrivals = [] → t.mode = .ready)
      ∧ (f.origin = s.downstream → s.hasProfile = true →
          t.peer.chainLoad = (s.flow.loadHigh || (f.payload.getD 1 0#8).getLsbD 5)
          ∧ t.peer.chainDefrost = (s.defrost.want || (f.payload.getD 1 0#8).getLsbD 6)
          ∧ t.flow.gapRun
              = (if s.isHead = true ∧ s.peer.chainDefrost = false
                  ∧ (s.defrost.want || (f.payload.getD 1 0#8).getLsbD 6) = true ∧ s.flow.gapRun = none then some 0
                else s.flow.gapRun))
      ∧ (f.origin = s.downstream → (f.payload.getD 1 0#8).getLsbD 0 = false → s.mode ≠ .walking →
          s.link.silencing = false → (s.tracking.zone.map (·.tag)).Nodup →
          s.link.txq.length + s.tracking.zone.length ≤ 6 →
          ∀ r ∈ s.tracking.zone, r.handover = .offered .resting →
            { r with handover := .offered .sending, attempts := 0 } ∈ t.tracking.zone
            ∧ ∃ e ∈ t.link.txq,
                e.frame = ⟨.offer, s.station.number, s.downstream, imageBytes (recordImage r)⟩)

/-- A WALK_PASS is noted by a walking station that is not a head and has not seen its edge, and by no other (R56); and
a station whose edge advance has reached ZONE_LENGTH queues its one WALK_PASS (R59). That the row WALK_PASS_QUEUED is
this piece alone is the model's reading (log entry 7). -/
def Obligations.WalkPasses : Prop :=
  (∀ (f : Frame) (rest : List Frame) (s : State), Oldest .walkPass f rest s →
    ∃ t, Next .walkPass s t
      ∧ (∀ w, s.peer.walk = some w → s.mode = .walking → s.isHead = false → w.edgeSeen = false →
          BlocksResponded
            { taken f rest s with peer.walk := some { w with passOrigin := f.origin, passAdvance := 0 } } t)
      ∧ ((s.peer.walk = none ∨ s.mode ≠ .walking ∨ s.isHead = true ∨ ∃ w, s.peer.walk = some w ∧ w.edgeSeen = true) →
          BlocksResponded (taken f rest s) t))
  ∧ (∀ (s : State) (w : Walk), s.peer.walk = some w → s.mode = .walking →
      (w.edgeSeen = true → w.passSent = false → s.zoneLength ≤ w.edgeAdvance →
        ∃ t, Next .walkPassQueued s t ∧ BlocksResponded { s with peer.walk := some { w with passSent := true } } t
          ∧ (Accepts .walkPass s → t.link.txq = onLine s (queued ⟨.walkPass, s.station.number, 0, []⟩ s.link.txq)))
      ∧ (w.edgeSeen = false ∨ w.passSent = true ∨ w.edgeAdvance < s.zoneLength → Next .walkPassQueued s s))

/-- Another station's EVENT or REPORT refreshes its origin's entry and does nothing more (R38), and so does an OFFER,
TAKE or PASS that fails a condition of R87. A WALK_SEEN that names a walking station as upstream sets its downstream,
and EVENT WALK_ORDER reason 3 reports the downstream it replaces. At a tail it queues EVENT WALK_ORDER reason 4 and
leaves the record. Any other WALK_SEEN does nothing more (R60). What follows a frame of the downstream may change what
responding blocks change. -/
def Obligations.OtherFramesRefresh : Prop :=
  (∀ (c : Instr) (f : Frame) (rest : List Frame) (s : State),
    (c = .eventReceived ∧ f.kind = .event) ∨ (c = .reportReceived ∧ f.kind = .report)
      ∨ (((c = .offer ∧ f.kind = .offer) ∨ (c = .pass ∧ f.kind = .pass))
          ∧ (s.hasProfile = false ∨ s.mode = .walking ∨ s.upstream = 0 ∨ f.origin ≠ s.upstream))
      ∨ ((c = .take ∧ f.kind = .take)
          ∧ (s.hasProfile = false ∨ s.mode = .walking ∨ s.downstream = 0 ∨ f.origin ≠ s.downstream)) →
    Oldest f.kind f rest s →
    ∃ t, Next c s t ∧ BlocksResponded (taken f rest s) t
      ∧ (f.origin ≠ s.downstream → t = settle (taken f rest s)))
  ∧ (∀ (f : Frame) (rest : List Frame) (s : State), Oldest .walkSeen f rest s →
    ∃ t, Next .walkSeen s t
      ∧ (s.mode ≠ .walking ∨ payloadByte f.payload 0 ≠ s.station.number →
          BlocksResponded (taken f rest s) t ∧ (f.origin ≠ s.downstream → t = settle (taken f rest s)))
      ∧ (s.mode = .walking → payloadByte f.payload 0 = s.station.number → s.isTail = true →
          BlocksResponded (taken f rest s) t
          ∧ (f.origin ≠ s.downstream → GivesFrame (eventOf s 5 1024 f.origin) (taken f rest s) t))
      ∧ (s.mode = .walking → payloadByte f.payload 0 = s.station.number → s.isTail = false →
          BlocksResponded { taken f rest s with peer.neighbours := { s.peer.neighbours with downstream := f.origin } } t
          ∧ (s.downstream ≠ 0 → f.origin ≠ s.downstream → s.link.silencing = false → s.link.txq.length ≤ 6 →
              ∃ e ∈ t.link.txq, e.frame = eventOf s 5 (768 + s.downstream) f.origin)
          ∧ (s.downstream = 0 ∨ f.origin = s.downstream →
              ∀ e ∈ t.link.txq, e.frame.kind = .event → ∃ e' ∈ s.link.txq, e'.frame = e.frame)))

/-- The status timer's expiry queues a STATUS and starts the timer again with the same period (R51). That the period
runs from the due time, and that nothing happens before it, is the model's choice (log entries 5 and 6). -/
def Obligations.StatusTimerExpires : Prop :=
  ∀ (s : State) (timer : Timer), s.peer.statusTimer = some timer → s.mode ≠ .quiet →
    (timer.due ≤ s.now →
      ∃ t, Next .statusTimerExpiry s t
        ∧ BlocksResponded { s with peer.statusTimer := some { timer with due := timer.due + timer.period } } t
        ∧ (Accepts .status s →
            t.link.txq = onLine s (queued ⟨.status, s.station.number, 0, s.statusPayload⟩ s.link.txq)))
    ∧ (s.now < timer.due → Next .statusTimerExpiry s s)

/-- A heard entry older than three status periods becomes stale, and keeps every other field. A younger one does not
(R49). That the command changes nothing before is the model's choice (log entry 5). -/
def Obligations.PeersGoStale : Prop :=
  ∀ (s : State) (node heard : Nat), 1 ≤ node → node ≤ 31 → s.mode ≠ .quiet →
    (s.peerEntry node).lastFrame = some heard → (s.peerEntry node).stale = false →
      (3 * s.statusPeriod < s.now - heard →
        ∃ t, Next (.peerStale node) s t
          ∧ QueueResponded (s.setPeerEntry node { s.peerEntry node with stale := true }) t)
      ∧ (s.now - heard ≤ 3 * s.statusPeriod → Next (.peerStale node) s s)

/-! ### Tracking -/

/-- A reverse count adds one to the reverse debt, which saturates. A forward count with debt standing pays one and does
nothing else. Full reset and line restart clear the debt. Before acceptance counts move only the encoder (R65, R66). -/
def Obligations.ReverseDebtPaid : Prop :=
  (∀ s : State, s.hasProfile = true → s.mode ≠ .quiet →
      Next .reverseCount s
        { s with
          encoder := encoderReverse s.encoder
          tracking.reverseDebt := min (s.tracking.reverseDebt + 1) 65535 }
      ∧ (∀ on, s.tracking.reverseDebt ≠ 0 →
          Next (.forwardCount on) s
            { s with
              encoder := encoderForward s.encoder
              tracking.reverseDebt := s.tracking.reverseDebt - 1 }))
    ∧ (∀ s : State, s.hasProfile = false →
        Next .reverseCount s { s with encoder := encoderReverse s.encoder }
          ∧ ∀ on, Next (.forwardCount on) s { s with encoder := encoderForward s.encoder })
    ∧ (∀ n r (s t : State), Next (.fullReset n r) s t → t.tracking.reverseDebt = 0)
    ∧ (∀ (f : Frame) (rest : List Frame) (s t : State), Oldest .restart f rest s → Admitted f s → Next .restart s t →
        t.tracking.reverseDebt = 0)

/-- An accepted forward count samples the entry sensor into the off run, and leaves the station's identity, the peers'
entries, the probes, the debt and station time as they were (R67, R68). In WALKING the sample is the station's edge when
it reads ON after an OFF sample and no edge has been seen (R55): the walk notes it, and a station that is not a head
takes the origin of the last WALK_PASS as its upstream and the counts since as its transfer distance (R57, R58). Without
the edge, the walk's two counts and its one WALK_PASS go on (R56, R59). The frames of an edge, and the two EVENT
WALK_ORDER of R58, are stated for a clear belt and a queue with room for them. -/
def Obligations.CountSamplesEntry : Prop :=
  (∀ (s : State) (on : Bool), s.hasProfile = true → s.mode ≠ .quiet → s.tracking.reverseDebt = 0 →
    ∃ t, Next (.forwardCount on) s t
      ∧ t.encoder = encoderForward s.encoder
      ∧ t.tracking.offRun = (if on then 0 else min (s.tracking.offRun + 1) 65535)
      ∧ t.tracking.reverseDebt = 0 ∧ t.tracking.currentLot = s.tracking.currentLot
      ∧ t.station = s.station ∧ t.link.rxq = s.link.rxq ∧ LineKept s t
      ∧ t.peer.peers = s.peer.peers ∧ t.peer.statusTimer = s.peer.statusTimer
      ∧ t.dose = s.dose ∧ t.flow.duty = s.flow.duty ∧ t.flow.loadFilter = s.flow.loadFilter
      ∧ t.defrost.debt = s.defrost.debt ∧ t.defrost.intervalElapsed = s.defrost.intervalElapsed
      ∧ t.faultIn = s.faultIn ∧ t.now = s.now ∧ t.pending = s.pending)
  ∧ (∀ (s : State) (on : Bool) (w : Walk), s.hasProfile = true → s.mode = .walking → s.tracking.reverseDebt = 0 →
    s.peer.walk = some w →
    ∃ t, Next (.forwardCount on) s t
      ∧ (on = false ∨ w.offSeen = false ∨ w.edgeSeen = true →
          t.peer.neighbours = s.peer.neighbours
          ∧ ∃ edgeAdvance, edgeAdvance = (if w.edgeSeen then min (w.edgeAdvance + 1) 65535 else w.edgeAdvance)
            ∧ t.peer.walk
                = some
                    { edgeSeen := w.edgeSeen
                      offSeen := w.offSeen || !on
                      passOrigin := w.passOrigin
                      passAdvance :=
                        if w.passOrigin ≠ 0 ∧ w.edgeSeen = false then min (w.passAdvance + 1) 65535 else w.passAdvance
                      edgeAdvance := edgeAdvance
                      passSent := w.passSent || (w.edgeSeen && decide (s.zoneLength ≤ edgeAdvance)) })
      ∧ (on = true → w.offSeen = true → w.edgeSeen = false →
          t.peer.walk = some { w with edgeSeen := true, edgeAdvance := 0 }
          ∧ t.peer.neighbours
              = (if s.isHead then s.peer.neighbours
                else ⟨w.passOrigin, s.downstream, if w.passOrigin = 0 then 0 else w.passAdvance⟩)
          ∧ (s.tracking.zone = [] → s.arrivals = [] → s.tracking.mergeBound = none → s.link.silencing = false →
              s.link.txq.length ≤ 3 →
              (s.isHead = true →
                ∃ e ∈ t.link.txq, e.frame = ⟨.walkSeen, s.station.number, 0, [0#8, 0#8, 0#8]⟩)
              ∧ (s.isHead = false →
                (∃ e ∈ t.link.txq,
                  e.frame
                    = ⟨.walkSeen, s.station.number, 0,
                        byteOf w.passOrigin :: be16 (if w.passOrigin = 0 then 0 else w.passAdvance)⟩)
                ∧ (w.passOrigin = 0 → ∃ e ∈ t.link.txq, e.frame = eventOf s 5 256 0)
                ∧ (w.passOrigin ≠ 0 → w.passAdvance = 0 →
                    ∃ e ∈ t.link.txq, e.frame = eventOf s 5 (512 + w.passOrigin) w.passOrigin)))))

/-- On an accepted forward count with the sensor OFF every closed record of a CONVEY zone moves one count downstream, as
long as none reaches the offer point, the zone end or a removing window. Nothing joins or leaves (R67). A record alone
in a zone moves, is judged where it is due (R118, R121), is then diverted where a removing window asks for it (R166),
leaves where its tail is at the zone end (R83), and is otherwise offered from the offer point (R88) or passed from the
zone end (R95), to a downstream and outside WALKING. Its frames are stated for a queue with room for them. -/
def Obligations.CountMovesRecords : Prop :=
  (∀ s : State, s.hasRole .convey = true → s.mode ≠ .quiet → s.tracking.reverseDebt = 0 → s.arrivals = [] →
    s.tracking.mergeBound = none → (∀ ch, ch < 6 → removingWindow s ch = false) →
    (∀ r ∈ s.tracking.zone, r.forming = false ∧ r.tail + 1 < (s.zoneLength : Int)
      ∧ (s.downstream = 0 ∨ r.head + 1 < s.offerPoint ∧ r.head + 1 < s.zoneLength)) →
    ∃ t, Next (.forwardCount false) s t ∧ t.arrivals = [] ∧ t.tracking.mergeBound = none
      ∧ SameUnits (s.tracking.zone.map (fun r => { r with head := r.head + 1 })) t.tracking.zone)
  ∧ (∀ (s : State) (r j : UnitRecord), s.hasProfile = true → s.mode ≠ .quiet → s.hasRole .bag = false →
    s.hasRole .transfer = false → s.tracking.reverseDebt = 0 → s.arrivals = [] → s.tracking.mergeBound = none →
    s.tracking.zone = [r] → r.forming = false →
    j = (if verdictDue s { r with head := r.head + 1 } then judgedRecord s { r with head := r.head + 1 }
      else { r with head := r.head + 1 }) →
    ∃ t, Next (.forwardCount false) s t
      ∧ (s.counters.verdictFail < 65535 →
          t.counters.verdictFail
            = s.counters.verdictFail
              + (if verdictDue s { r with head := r.head + 1 } = true
                  ∧ (verdictOutcome s { r with head := r.head + 1 }).isSome = true then 1 else 0))
      ∧ (∀ code, verdictDue s { r with head := r.head + 1 } = true →
          verdictOutcome s { r with head := r.head + 1 } = some code → s.link.silencing = false →
          s.link.txq.length ≤ 3 → ∃ e ∈ t.link.txq, e.frame = eventOf s 8 code r.tag.toNat)
      ∧ ((∃ ch, ch < 6 ∧ removingWindow s ch = true ∧ (s.channelRecord ch).mask.getLsbD j.disposition = true
            ∧ j.tail = (s.channelRecord ch).b ∧ (s.channelRecord ch).a < (s.channelRecord ch).b) →
          t.tracking.zone = [] ∧ t.counters.diverted = min (s.counters.diverted + 1) 65535)
      ∧ ((∀ ch, ch < 6 → removingWindow s ch = false) →
          t.counters.diverted = s.counters.diverted
          ∧ ((s.zoneLength : Int) ≤ j.tail → t.tracking.zone = [])
          ∧ (j.tail < s.zoneLength → s.downstream = 0 ∨ s.mode = .walking → t.tracking.zone = [j])
          ∧ (j.tail < s.zoneLength → s.downstream ≠ 0 → s.mode ≠ .walking →
              (s.offerPoint ≤ j.head → j.head < s.zoneLength → j.handover = .localUnit → s.link.silencing = false →
                s.link.txq.length ≤ 3 →
                t.tracking.zone = [{ j with handover := .offered .sending, attempts := 0 }]
                ∧ ∃ e ∈ t.link.txq,
                    e.frame = ⟨.offer, s.station.number, s.downstream, imageBytes (recordImage j)⟩)
              ∧ (s.zoneLength ≤ j.head → j.handover ≠ .passed →
                t.tracking.zone = [{ j with handover := .passed }]
                ∧ t.counters.untakenPass
                    = (if j.handover = .taken then s.counters.untakenPass
                      else min (s.counters.untakenPass + 1) 65535)
                ∧ (s.link.silencing = false → s.link.txq.length ≤ 3 →
                    ∃ e ∈ t.link.txq,
                      e.frame = ⟨.pass, s.station.number, s.downstream, imageBytes (recordImage j)⟩))
              ∧ ((j.head < s.zoneLength ∧ (j.head < s.offerPoint ∨ j.handover ≠ .localUnit))
                  ∨ (s.zoneLength ≤ j.head ∧ j.handover = .passed) →
                t.tracking.zone = [j]))))

/-- Product at the entry of an empty zone starts a segment with the next tag: at a head of the current lot and GOOD, and
elsewhere an orphan of lot 0, UNTRACKED, which is counted and reported (R72, R73, R74). With 24 records in the queue,
none of them forming, over the entry or leaving, the segment starts merge-bound with the same tag, lot and disposition,
and no record enters (R81). EVENT ORPHAN is stated for a queue with room for it. That at the count of a walk's edge it
carries the upstream that the edge has just set is the model's reading (log entry 18). -/
def Obligations.SegmentStarts : Prop :=
  (∀ s : State, s.hasProfile = true → s.tracking.reverseDebt = 0 →
    (s.mode = .running ∨ s.mode = .draining ∨ s.mode = .walking) → s.tracking.zone = [] → s.arrivals = [] →
    s.tracking.mergeBound = none → s.tracking.tagSeq < 2048 →
    ∃ t, Next (.forwardCount true) s t
      ∧ SameUnits
          [formedRecord (BitVec.ofNat 16 (2048 * s.station.number + s.tracking.tagSeq))
            (if s.isHead then s.tracking.currentLot else 0) (if s.isHead then 0 else 7)]
          t.tracking.zone
      ∧ t.tracking.tagSeq = (if s.tracking.tagSeq = 2047 then 0 else s.tracking.tagSeq + 1)
      ∧ t.counters.orphans = (if s.isHead then s.counters.orphans else min (s.counters.orphans + 1) 65535)
      ∧ t.tracking.mergeBound = none ∧ t.mode = s.mode
      ∧ (s.isHead = false → s.link.silencing = false → s.link.txq.length ≤ 2 →
          ∃ e ∈ t.link.txq, e.frame = eventOf s 6 t.upstream (nextTag s).toNat))
  ∧ (∀ s : State, s.hasProfile = true → s.tracking.reverseDebt = 0 →
    (s.mode = .running ∨ s.mode = .draining ∨ s.mode = .walking) → s.tracking.zone.length = 24 → s.arrivals = [] →
    s.tracking.mergeBound = none → s.tracking.tagSeq < 2048 → (∀ ch, ch < 6 → removingWindow s ch = false) →
    (∀ r ∈ s.tracking.zone, r.tag ≠ nextTag s ∧ r.forming = false ∧ 0 ≤ r.tail ∧ r.tail + 1 < (s.zoneLength : Int)
      ∧ packingDue s (advanced r) = false) →
    ∃ t, Next (.forwardCount true) s t
      ∧ t.tracking.mergeBound
          = some ⟨nextTag s, if s.isHead then s.tracking.currentLot else 0, if s.isHead then 0 else 7, 0⟩
      ∧ SameUnits (judgedZone s (s.tracking.zone.map advanced)) t.tracking.zone
      ∧ t.tracking.tagSeq = (if s.tracking.tagSeq = 2047 then 0 else s.tracking.tagSeq + 1)
      ∧ t.counters.orphans = (if s.isHead then s.counters.orphans else min (s.counters.orphans + 1) 65535)
      ∧ (s.isHead = false → s.link.silencing = false → s.link.txq.length ≤ 2 → s.downstream = 0 ∨ s.mode = .walking →
          (∀ r ∈ s.tracking.zone, verdictDue s (advanced r) = false) →
          ∃ e ∈ t.link.txq, e.frame = eventOf s 6 t.upstream (nextTag s).toNat))

/-- The gap close gives back the last GAP_LENGTH counts, but leaves at least one; the length close takes SEGMENT_MAX.
Each fixes the mass, which the load input of a FREEZE station gains, and changes no other record (R76, R77, R79, R138).
So it is at the accepted forward count that brings the off run to GAP_LENGTH, or the head to SEGMENT_MAX: the records
move, the segment closes, and the count's verdicts follow. A count of which no removal and no arrival is due is stated.
A merge-bound segment grows by one at a count that ends it by neither cause, and closes by the same causes with its
length in place of the head: the last of 24 records absorbs it, or it stands as a record of its own (R81, R82). That the
rows GAP_CLOSE and LENGTH_CLOSE are these pieces alone is the model's reading (log entry 7), and so is that no segment
starts at the count of a length close that ends a merge-bound segment (log entry 19). -/
def Obligations.SegmentCloses : Prop :=
  (∀ (s : State) (zone : List UnitRecord) (r : UnitRecord), s.hasProfile = true → s.mode ≠ .quiet →
    s.tracking.mergeBound = none → s.tracking.zone = zone ++ [r] → r.forming = true →
    (∀ x ∈ zone, x.forming = false) →
    (s.gapLength ≤ s.tracking.offRun →
      Next .gapClose s
        (settle
          { s with
            tracking.zone := zone ++ [closedAt s (max 1 (r.head - s.gapLength)) r]
            flow.loadInput := loadGained s (closedAt s (max 1 (r.head - s.gapLength)) r).mass }))
    ∧ (s.tracking.offRun < s.gapLength → s.segmentMax ≤ r.head → 0 < s.segmentMax →
      Next .lengthClose s
        (settle
          { s with
            tracking.zone := zone ++ [closedAt s s.segmentMax r]
            flow.loadInput := loadGained s (closedAt s s.segmentMax r).mass }))
    ∧ (∀ (on : Bool) (length : Nat), s.tracking.reverseDebt = 0 → s.arrivals = [] →
      (∀ ch, ch < 6 → removingWindow s ch = false) →
      (on = false ∧ s.gapLength ≤ min (s.tracking.offRun + 1) 65535 ∧ length = max 1 (r.head + 1 - s.gapLength))
        ∨ ((on = true ∨ s.tracking.offRun + 1 < s.gapLength) ∧ 0 < s.gapLength ∧ 0 < s.segmentMax
            ∧ s.segmentMax ≤ r.head + 1 ∧ length = s.segmentMax) →
      (∀ u ∈ closedZone s zone r length, u.tail < s.zoneLength ∧ packingDue s u = false) →
      ∃ t, Next (.forwardCount on) s t ∧ SameUnits (closedZone s zone r length) t.tracking.zone
        ∧ t.flow.loadInput = loadGained s (closedAt s length r).mass))
  ∧ (∀ (s : State) (m : MergeBound) (on : Bool), s.hasProfile = true → s.mode ≠ .quiet → s.mode ≠ .draining →
    s.tracking.reverseDebt = 0 → s.tracking.mergeBound = some m → s.arrivals = [] → m.length + 1 < s.segmentMax →
    (if on then 0 else min (s.tracking.offRun + 1) 65535) < s.gapLength →
    ∃ t, Next (.forwardCount on) s t ∧ t.tracking.mergeBound = some { m with length := m.length + 1 }
      ∧ t.counters.orphans = s.counters.orphans)
  ∧ (∀ (c : Instr) (s : State) (m : MergeBound) (length : Nat) (z : List UnitRecord), s.hasProfile = true →
    s.mode ≠ .quiet → s.tracking.mergeBound = some m →
    (c = .gapClose ∧ s.gapLength ≤ s.tracking.offRun ∧ length = max 1 (m.length - s.gapLength))
      ∨ (c = .lengthClose ∧ s.tracking.offRun < s.gapLength ∧ s.segmentMax ≤ m.length ∧ 0 < s.segmentMax
          ∧ length = s.segmentMax) →
    MergeClosed s s.tracking.zone m length z →
    ∃ t, Next c s t ∧ t.tracking.mergeBound = none ∧ SameUnits z t.tracking.zone
      ∧ t.flow.loadInput = loadGained s (massAt s length)
      ∧ t.counters.merged
          = (if s.tracking.zone.length = 24 then min (s.counters.merged + 1) 65535 else s.counters.merged))
  ∧ (∀ (s : State) (m : MergeBound) (on : Bool) (length : Nat) (z : List UnitRecord), s.hasProfile = true →
    s.mode ≠ .quiet → s.tracking.reverseDebt = 0 → s.tracking.mergeBound = some m → s.arrivals = [] →
    (∀ ch, ch < 6 → removingWindow s ch = false) → (∀ r ∈ s.tracking.zone, r.forming = false) →
    (on = false ∧ s.gapLength ≤ min (s.tracking.offRun + 1) 65535 ∧ length = max 1 (m.length + 1 - s.gapLength))
      ∨ ((on = true ∨ s.tracking.offRun + 1 < s.gapLength) ∧ 0 < s.gapLength ∧ 0 < s.segmentMax
          ∧ s.segmentMax ≤ m.length + 1 ∧ length = s.segmentMax) →
    MergeClosed s (s.tracking.zone.map advanced) { m with length := m.length + 1 } length z →
    (∀ u ∈ z, u.tail < s.zoneLength ∧ packingDue s u = false) →
    ∃ t, Next (.forwardCount on) s t ∧ t.tracking.mergeBound = none ∧ SameUnits (judgedZone s z) t.tracking.zone
      ∧ t.flow.loadInput = loadGained s (massAt s length)
      ∧ t.counters.merged
          = (if s.tracking.zone.length = 24 then min (s.counters.merged + 1) 65535 else s.counters.merged))

/-- With 24 records in the queue and the last one closed, a record that would be the twenty-fifth is absorbed by the
last record, MERGED is counted, and EVENT TRACK_MERGE names the discarded tag and the absorbing record's (R82). The
EVENT is stated where the link controller has room for it. -/
def Obligations.FullQueueMerges : Prop :=
  ∀ (s : State) (zone : List UnitRecord) (last r : UnitRecord), s.tracking.zone = zone ++ [last] →
    s.tracking.zone.length = 24 → last.forming = false →
      SameUnits
        (zone ++ [{ last with
          length := min 4095 (last.length + r.length)
          mass := min (last.mass + r.mass) 65535
          disposition := if last.kind = .bag then 9 else max 8 last.disposition }])
        (enterRecord r s).tracking.zone
      ∧ (enterRecord r s).counters.merged = min (s.counters.merged + 1) 65535
      ∧ (s.mode ≠ .quiet → s.link.silencing = false → s.link.txq.length < 8 →
          ∃ e ∈ (enterRecord r s).link.txq, e.frame = eventOf s 7 r.tag.toNat last.tag.toNat)

/-- A gap run that has reached GAP_RUN ends, and a shorter one goes on. An accepted forward count adds one to the run,
and the count that brings it to GAP_RUN ends it (R137). That the row GAP_RUN_END is this piece alone is the model's
reading (log entry 7). -/
def Obligations.GapRunEnds : Prop :=
  ∀ (s : State) (n : Nat), s.hasProfile = true → s.mode ≠ .quiet → s.flow.gapRun = some n →
    (s.gapRunLength ≤ n → Next .gapRunEnd s (settle { s with flow.gapRun := none }))
    ∧ (n < s.gapRunLength → Next .gapRunEnd s s)
    ∧ (∀ on, s.tracking.reverseDebt = 0 →
        ∃ t, Next (.forwardCount on) s t
          ∧ t.flow.gapRun = (if s.gapRunLength ≤ n + 1 then none else some (n + 1)))

/-! ### Handover -/

/-- An armed arrival at the transfer distance is missed after a long off run, and is otherwise placed at head 0, with
its length scaled, and with a dwell account of its own at CHILL and FREEZE (R101, R102). So it is at the accepted forward
count that brings its advance there (R100), stated for an empty zone. A placed mass joins the load input of a FREEZE
station (R138). That the row ARRIVAL_AT_T is this piece alone is the model's reading (log entry 7). -/
def Obligations.ArrivalTested : Prop :=
  (∀ (s : State) (a : Arrival), s.hasProfile = true → s.mode ≠ .quiet → s.arrivals = [a] → a.armed = true →
    s.transferDistance ≤ a.advance → 1 ≤ a.advance →
    ∃ t, Next .arrivalAtT s t ∧ t.arrivals = []
      ∧ (2 * s.arrivalTolerance ≤ s.tracking.offRun →
          QueueResponded
            { s with arrivals := [], counters.arrivalMiss := min (s.counters.arrivalMiss + 1) 65535 } t)
      ∧ (s.tracking.offRun < 2 * s.arrivalTolerance → s.tracking.zone = [] → s.tracking.mergeBound = none →
          SameUnits [placed s a.image] t.tracking.zone ∧ t.counters.arrivalMiss = s.counters.arrivalMiss
          ∧ t.flow.loadInput = loadGained s a.image.mass))
  ∧ (∀ (s : State) (a : Arrival) (on : Bool) (offRun : Nat), s.hasProfile = true → s.mode ≠ .quiet →
    s.tracking.reverseDebt = 0 → s.tracking.zone = [] → s.tracking.mergeBound = none → s.arrivals = [a] →
    a.armed = true → offRun = (if on then 0 else min (s.tracking.offRun + 1) 65535) → a.advance < 65535 →
    s.transferDistance ≤ a.advance + 1 →
    (∀ w, s.mode = .walking → s.peer.walk = some w → on = false ∨ w.offSeen = false ∨ w.edgeSeen = true) →
    ∃ t, Next (.forwardCount on) s t ∧ t.arrivals = []
      ∧ (2 * s.arrivalTolerance ≤ offRun → on = false →
          t.tracking.zone = [] ∧ t.counters.arrivalMiss = min (s.counters.arrivalMiss + 1) 65535)
      ∧ (offRun < 2 * s.arrivalTolerance →
          SameUnits [placed s a.image] t.tracking.zone ∧ t.counters.arrivalMiss = s.counters.arrivalMiss
          ∧ t.flow.loadInput = loadGained s a.image.mass))

/-- The four rows of R97: an OFFER of a known unit, or to a holding or full station, makes no entry. A known unit's is
answered by nothing or by a TAKE, a holding or full station's by a HOLD. Any other makes a RESERVED entry and is
answered by a TAKE. What follows a frame of the downstream may change what responding blocks change. -/
def Obligations.OfferAnswered : Prop :=
  ∀ (f : Frame) (rest : List Frame) (s : State), Oldest .offer f rest s → s.hasProfile = true → s.mode ≠ .walking →
    s.upstream ≠ 0 → f.origin = s.upstream →
    ∃ t, Next .offer s t
      ∧ (s.zoneHolds (imageOf f.payload).tag = true →
          BlocksResponded (taken f rest s) t ∧ (f.origin ≠ s.downstream → t = settle (taken f rest s)))
      ∧ (s.zoneHolds (imageOf f.payload).tag = false → s.arrivalsHold (imageOf f.payload).tag = true →
          BlocksResponded (taken f rest s) t
          ∧ (f.origin ≠ s.downstream →
              GivesFrame ⟨.take, s.station.number, f.origin, be16 (imageOf f.payload).tag.toNat⟩ (taken f rest s) t))
      ∧ (s.zoneHolds (imageOf f.payload).tag = false → s.arrivalsHold (imageOf f.payload).tag = false →
          s.holding = true ∨ 4 ≤ s.arrivals.length →
          BlocksResponded (taken f rest s) t
          ∧ (f.origin ≠ s.downstream →
              GivesFrame ⟨.hold, s.station.number, s.upstream, [1#8, s.flow.reasons.byte]⟩ (taken f rest s) t))
      ∧ (s.zoneHolds (imageOf f.payload).tag = false → s.arrivalsHold (imageOf f.payload).tag = false →
          s.holding = false → s.arrivals.length < 4 →
          BlocksResponded { taken f rest s with arrivals := s.arrivals ++ [⟨false, imageOf f.payload, s.now, 0⟩] } t
          ∧ (s.link.silencing = false → s.link.txq.length ≤ 3 →
              ∃ e ∈ t.link.txq,
                e.frame = ⟨.take, s.station.number, f.origin, be16 (imageOf f.payload).tag.toNat⟩))

/-- A TAKE from the downstream marks an OFFERED record TAKEN, and leaves a record in another handover state, and a queue
without the tag, as they were (R92). -/
def Obligations.TakeHandled : Prop :=
  ∀ (f : Frame) (rest : List Frame) (s : State), Oldest .take f rest s → s.hasProfile = true → s.mode ≠ .walking →
    s.downstream ≠ 0 → f.origin = s.downstream →
    ∃ t, Next .take s t ∧ BlocksResponded (taken f rest s) t
      ∧ (∀ r, s.findRecord (BitVec.ofNat 16 (payload16 f.payload 0)) = some r → r.handover.isOffered = true →
          ∃ r', t.findRecord (BitVec.ofNat 16 (payload16 f.payload 0)) = some r' ∧ r'.handover = .taken)
      ∧ ((∀ r, s.findRecord (BitVec.ofNat 16 (payload16 f.payload 0)) = some r → r.handover.isOffered = false) →
          t.tracking.zone = s.tracking.zone)

/-- The rows of R99: a PASS of a known unit is ignored, a RESERVED entry becomes ARMED with the PASS's image, a PASS
without an entry makes an ARMED one, and a full list counts UNTAKEN_PASS. -/
def Obligations.PassHandled : Prop :=
  ∀ (f : Frame) (rest : List Frame) (s : State), Oldest .pass f rest s → s.hasProfile = true → s.mode ≠ .walking →
    s.upstream ≠ 0 → f.origin = s.upstream →
    ∃ t, Next .pass s t
      ∧ (s.zoneHolds (imageOf f.payload).tag = true
            ∨ (∃ a ∈ s.arrivals, a.image.tag = (imageOf f.payload).tag ∧ a.armed = true) →
          BlocksResponded (taken f rest s) t)
      ∧ (∀ (before after : List Arrival) (a : Arrival), s.zoneHolds (imageOf f.payload).tag = false →
          s.arrivals = before ++ a :: after → a.image.tag = (imageOf f.payload).tag → a.armed = false →
          (∀ x ∈ before ++ after, x.image.tag ≠ (imageOf f.payload).tag) →
          BlocksResponded
            { taken f rest s with
              arrivals := before ++ { a with armed := true, image := imageOf f.payload, advance := 0 } :: after } t)
      ∧ (s.zoneHolds (imageOf f.payload).tag = false → s.arrivalsHold (imageOf f.payload).tag = false →
          s.arrivals.length < 4 →
          BlocksResponded { taken f rest s with arrivals := s.arrivals ++ [⟨true, imageOf f.payload, s.now, 0⟩] } t)
      ∧ (s.zoneHolds (imageOf f.payload).tag = false → s.arrivalsHold (imageOf f.payload).tag = false →
          4 ≤ s.arrivals.length →
          BlocksResponded
            { taken f rest s with counters.untakenPass := min (s.counters.untakenPass + 1) 65535 } t)

/-- An unanswered offer is made again with one more attempt, up to three. After the third, while WALKING, and without a
downstream (the model's choice, log entry 16), it rests (R91). A command before the deadline changes nothing, which is
the model's choice too (log entry 5). -/
def Obligations.OfferRepliesExpire : Prop :=
  ∀ (s : State) (tag : Tag) (r : UnitRecord) (deadline : Nat), s.hasProfile = true → s.mode ≠ .quiet →
    s.findRecord tag = some r → r.handover = .offered (.waiting deadline) →
      (deadline ≤ s.now → s.mode ≠ .walking → s.downstream ≠ 0 → r.attempts < 3 → Accepts .offer s →
        Next (.offerReplyExpiry tag) s
          (settle
            { s with
              link.txq := queued ⟨.offer, s.station.number, s.downstream, imageBytes (recordImage r)⟩ s.link.txq
              tracking.zone := s.tracking.zone.map (fun x =>
                if x.tag = tag then { x with handover := .offered .sending, attempts := r.attempts + 1 } else x) }))
      ∧ (deadline ≤ s.now → (s.mode = .walking ∨ s.downstream = 0 ∨ 3 ≤ r.attempts) →
        Next (.offerReplyExpiry tag) s
          (settle
            { s with
              tracking.zone := s.tracking.zone.map (fun x =>
                if x.tag = tag then { x with handover := .offered .resting, attempts := r.attempts } else x) }))
      ∧ (s.now < deadline → Next (.offerReplyExpiry tag) s s)

/-- A reservation older than RESERVE_LIMIT leaves the list and is counted. An ARMED entry and a younger one stay (R98).
That an expiry named too early changes nothing is the model's choice (log entry 5). -/
def Obligations.ReservationExpires : Prop :=
  ∀ (s : State) (before after : List Arrival) (a : Arrival), s.hasProfile = true → s.mode ≠ .quiet →
    s.arrivals = before ++ a :: after → (∀ x ∈ before, x.image.tag ≠ a.image.tag) →
      (a.armed = false → a.created + s.reserveLimit ≤ s.now →
        ∃ t, Next (.reservationExpiry a.image.tag) s t
          ∧ QueueResponded
              { s with
                arrivals := before ++ after
                counters.reserveExpired := min (s.counters.reserveExpired + 1) 65535 } t)
      ∧ (a.armed = true ∨ s.now < a.created + s.reserveLimit → Next (.reservationExpiry a.image.tag) s s)

/-! ### Dose and flow -/

/-- A sample expiry starts the timer again, samples each used probe, and at a FREEZE station updates the load filter
and empties the load input. Each probe that its reading makes stale is counted and reported (R110). load_high follows the
updated filter and the used probes (R140). At a head the throttle count rises, and at THROTTLE_INTERVAL the duty steps
by chain_load (R136). Every record takes the accrual that `AccrualRows` states, under the probes as they then are,
and keeps its place, tag, length, mass and verdicts (R108, R109, R111, R139). That the period runs from the due time,
and that nothing happens before it, is the model's choice (log entries 5 and 6). -/
def Obligations.SampleExpires : Prop :=
  ∀ (s : State) (timer : Timer) (t0 t1 t2 t3 : Int), s.hasProfile = true → s.mode ≠ .quiet →
    s.dose.sampleTimer = some timer →
      (timer.due ≤ s.now →
        ∃ t, Next (.sampleExpiry t0 t1 t2 t3) s t
          ∧ t.dose.sampleTimer = some { timer with due := timer.due + timer.period }
          ∧ (∀ (n : Nat) (reading : Int),
              (n = 0 ∧ reading = t0) ∨ (n = 1 ∧ reading = t1) ∨ (n = 2 ∧ reading = t2) ∨ (n = 3 ∧ reading = t3) →
              (probeUsed s n = false → t.probe n = s.probe n)
              ∧ (probeUsed s n = true → -600 ≤ reading → reading ≤ 1300 → t.probe n = ⟨some reading, 0⟩)
              ∧ (probeUsed s n = true → reading < -600 ∨ 1300 < reading →
                  t.probe n = ⟨(s.probe n).value, min 255 ((s.probe n).invalidRun + 1)⟩))
          ∧ (s.counters.probeStale ≤ 65535 →
              t.counters.probeStale
                = min 65535 (s.counters.probeStale
                    + ([(0, t0), (1, t1), (2, t2), (3, t3)].filter (fun p => turnsStale s p.1 p.2)).length))
          ∧ (s.link.silencing = false → s.link.txq.length ≤ 3 → ∀ (n : Nat) (reading : Int),
              (n = 0 ∧ reading = t0) ∨ (n = 1 ∧ reading = t1) ∨ (n = 2 ∧ reading = t2) ∨ (n = 3 ∧ reading = t3) →
              turnsStale s n reading = true → ∃ e ∈ t.link.txq, e.frame = eventOf s 9 n 0)
          ∧ (s.hasRole .freeze = false → t.flow.loadHigh = s.flow.loadHigh ∧ t.peer.chainLoad = s.peer.chainLoad)
          ∧ (s.hasRole .freeze = true →
              (t.flow.loadHigh = true ↔ s.item 39 ≤ t.flow.loadFilter
                ∨ (s.item 40 ≤ t.flow.loadFilter ∧ ∃ n v, n < 4 ∧ probeUsed s n = true
                    ∧ (t.probe n).value = some v ∧ itemInt s.items 41 < v)))
          ∧ (s.isHead = false → t.flow.throttleCount = s.flow.throttleCount ∧ t.flow.duty = s.flow.duty)
          ∧ (s.isHead = true → s.flow.throttleCount + 1 < s.throttleInterval →
              t.flow.throttleCount = s.flow.throttleCount + 1 ∧ t.flow.duty = s.flow.duty)
          ∧ (s.isHead = true → s.throttleInterval ≤ s.flow.throttleCount + 1 →
              t.flow.throttleCount = 0
              ∧ t.flow.duty
                  = (if t.peer.chainLoad then max s.throttleFloor (s.flow.duty - s.throttleStep)
                    else min s.infeedDuty (s.flow.duty + s.throttleStep)))
          ∧ (s.hasRole .freeze = false → t.flow.loadFilter = s.flow.loadFilter ∧ t.flow.loadInput = s.flow.loadInput)
          ∧ (s.hasRole .freeze = true → t.flow.loadInput = 0
              ∧ (s.item 38 = 0 → t.flow.loadFilter = s.flow.loadInput)
              ∧ (s.item 38 ≠ 0 → s.flow.loadFilter ≤ 65535 → s.flow.loadInput ≤ 65535 →
                  (t.flow.loadFilter : Int)
                    = max 0 (min 65535 ((s.flow.loadFilter : Int)
                        + ((s.flow.loadInput : Int) - s.flow.loadFilter + 2 ^ (s.item 38 - 1)) / 2 ^ s.item 38))))
          ∧ t.tracking.zone.map (fun r => (r.tag, r.kind, r.lot, r.head, r.length, r.mass, r.blanchMade, r.dwellMade))
              = s.tracking.zone.map
                  (fun r => (r.tag, r.kind, r.lot, r.head, r.length, r.mass, r.blanchMade, r.dwellMade))
          ∧ SameUnits (s.tracking.zone.map (accrueRecord { s with dose := t.dose })) t.tracking.zone
          ∧ t.mode = s.mode ∧ t.station = s.station ∧ t.arrivals = s.arrivals ∧ t.packing = s.packing
          ∧ t.link.rxq = s.link.rxq ∧ t.peer.peers = s.peer.peers ∧ t.now = s.now ∧ t.pending = s.pending)
      ∧ (s.now < timer.due → Next (.sampleExpiry t0 t1 t2 t3) s s)

/-- The accrual of a segment under a used probe, by the rows of R112, and the lethal increment's bounds and its value at
T_REF (R115, R116, R117). The verdicts: which records a count judges (R118), what a judgement makes of a record (R119,
R120), and that the dose unit's turn judges each due record once and counts each failing verdict (R121). -/
def Obligations.AccrualRows : Prop :=
  (∀ (s : State) (r : UnitRecord) (n : Nat), r.kind = .segment → probeUnder s r = some n →
      (accountClosed s r = true → accrueRecord s r = r)
      ∧ (accountClosed s r = false → probeIsStale s.staleLimit (s.probe n) = true →
          accrueRecord s r = { r with disposition := max 3 r.disposition })
      ∧ (∀ t, accountClosed s r = false → probeIsStale s.staleLimit (s.probe n) = false → (s.probe n).value = some t →
          (s.hasRole .blanch = true →
            accrueRecord s r
              = { r with
                  dose := some (min (r.dose.getD 0
                    + lethalIncrement (lethalRate (exponentOf (itemInt s.items 30) (s.item 31) t)) s.samplePeriod)
                    16777215) })
          ∧ (s.hasRole .blanch = false → t ≤ itemInt s.items 36 →
              accrueRecord s r = { r with dwell := some (min (r.dwell.getD 0 + s.samplePeriod) 16777215) })
          ∧ (s.hasRole .blanch = false → itemInt s.items 36 < t → accrueRecord s r = r)))
  ∧ (∀ (tRef t : Int) (z p : Nat), lethalRate (exponentOf tRef z t) ≤ 409600
      ∧ (p ≤ 1000 → lethalIncrement (lethalRate (exponentOf tRef z t)) p ≤ 100000)
      ∧ lethalIncrement (lethalRate (exponentOf tRef z tRef)) p = p)
  ∧ (∀ (s : State) (r : UnitRecord),
      (verdictDue s r = true ↔
        r.kind = .segment ∧ r.forming = false
          ∧ ((s.hasRole .blanch = true ∧ r.blanchMade = false)
              ∨ ((s.hasRole .chill = true ∨ s.hasRole .freeze = true) ∧ r.dwellMade = false))
          ∧ ((s.verdictPoint : Int) ≤ (r.head : Int) - (r.length / 2 : Nat)
              ∨ (s.isTail = false ∧ s.zoneLength - s.offerLead ≤ r.head)))
      ∧ (s.hasRole .blanch = true →
          judgedRecord s r
            = { r with
                disposition :=
                  if r.dose.getD 0 < s.item 32 ∨ r.dose = none then max 5 r.disposition
                  else if s.item 33 < r.dose.getD 0 then max 4 r.disposition
                  else r.disposition
                blanchMade := true })
      ∧ (s.hasRole .chill = true ∨ s.hasRole .freeze = true →
          judgedRecord s r
            = { r with
                disposition :=
                  if r.dwell.getD 0 < s.item 37 ∨ r.dwell = none then max 6 r.disposition else r.disposition
                dwellMade := true }))
  ∧ (∀ s : State,
      SameUnits (s.tracking.zone.map (fun r => if verdictDue s r then judgedRecord s r else r))
          (judgeZone s).tracking.zone
      ∧ (s.counters.verdictFail ≤ 65535 →
          (judgeZone s).counters.verdictFail
            = min 65535 (s.counters.verdictFail
                + (s.tracking.zone.filter (fun r => verdictDue s r && (verdictOutcome s r).isSome)).length)))

/-- The decade table is round(4,096 × 10^(f / 256)), half up: M(f) − 1/2 ≤ 4,096 × 10^(f / 256) < M(f) + 1/2, both sides
raised to the power 256. It runs from 4,096 to 40,593, increases, and has the listed entries (R114). -/
def Obligations.DecadeTableExact : Prop :=
  decadeTable.length = 256
    ∧ (∀ f, f < 256 →
        (2 * decadeTable.getD f 0 - 1) ^ 256 ≤ 8192 ^ 256 * 10 ^ f
          ∧ 8192 ^ 256 * 10 ^ f < (2 * decadeTable.getD f 0 + 1) ^ 256)
    ∧ (∀ f, f < 255 → decadeTable.getD f 0 < decadeTable.getD (f + 1) 0)
    ∧ [0, 32, 64, 90, 96, 102, 123, 128, 131, 160, 192, 224, 255].map (fun f => decadeTable.getD f 0)
        = [4096, 5462, 7284, 9203, 9713, 10252, 12383, 12953, 13307, 17273, 23034, 30716, 40593]

/-- A throttle step at a head: down toward THROTTLE_FLOOR while chain_load is set, up toward INFEED_DUTY while it is
clear. With the count short of THROTTLE_INTERVAL no step is due. A SAMPLE_EXPIRY that brings the count there steps the
duty so, by chain_load as the expiry leaves it (R136). That the row THROTTLE_STEP is this piece alone is the model's
reading (log entry 7). -/
def Obligations.ThrottleSteps : Prop :=
  ∀ s : State, s.isHead = true → s.mode ≠ .quiet →
    (s.throttleInterval ≤ s.flow.throttleCount →
      ∃ t, Next .throttleStep s t
        ∧ (s.peer.chainLoad = true →
            BlocksResponded
              { s with
                flow.throttleCount := 0
                flow.duty := max s.throttleFloor (s.flow.duty - s.throttleStep) } t)
        ∧ (s.peer.chainLoad = false →
            BlocksResponded
              { s with
                flow.throttleCount := 0
                flow.duty := min s.infeedDuty (s.flow.duty + s.throttleStep) } t))
    ∧ (s.flow.throttleCount < s.throttleInterval → Next .throttleStep s s)
    ∧ (∀ (timer : Timer) (t0 t1 t2 t3 : Int), s.dose.sampleTimer = some timer → timer.due ≤ s.now →
      s.throttleInterval ≤ s.flow.throttleCount + 1 →
      ∃ t, Next (.sampleExpiry t0 t1 t2 t3) s t ∧ t.flow.throttleCount = 0
        ∧ (t.peer.chainLoad = true → t.flow.duty = max s.throttleFloor (s.flow.duty - s.throttleStep))
        ∧ (t.peer.chainLoad = false → t.flow.duty = min s.infeedDuty (s.flow.duty + s.throttleStep)))

/-- LEVEL is set at HOLD_LEVEL, clear at RELEASE_LEVEL, and keeps its value between (R127). A command that changes the
reason set leaves in the transmit queue a HOLD to the upstream with the holding flag and the reasons as they then are
(R128), and, where it drops no frame, a STATUS with them (R52). Both are stated where the queue has room, and not of
JOINING, whose reasons `ReasonsFollow` fixes. -/
def Obligations.LevelHysteresis : Prop :=
  (∀ s : State, s.releaseLevel < s.holdLevel →
    (s.holdLevel ≤ s.tracking.zone.length + s.arrivals.length → (evaluateLevel s).flow.reasons.level = true)
    ∧ (s.tracking.zone.length + s.arrivals.length ≤ s.releaseLevel → (evaluateLevel s).flow.reasons.level = false)
    ∧ (s.releaseLevel < s.tracking.zone.length + s.arrivals.length →
        s.tracking.zone.length + s.arrivals.length < s.holdLevel →
        (evaluateLevel s).flow.reasons.level = s.flow.reasons.level))
  ∧ (∀ (c : Instr) (s t : State), (∀ n r, c ≠ .fullReset n r) → Next c s t → t.mode ≠ .quiet → t.mode ≠ .joining →
    s.link.silencing = false → s.link.txq.length ≤ 4 → t.flow.reasons ≠ s.flow.reasons →
    (t.upstream ≠ 0 →
      ∃ e ∈ t.link.txq,
        e.frame = ⟨.hold, t.station.number, t.upstream, [byteOf t.holding.toNat, t.flow.reasons.byte]⟩)
    ∧ (s.counters.txDrop < 65535 → t.counters.txDrop = s.counters.txDrop →
      ∃ e ∈ t.link.txq, e.frame.kind = .status ∧ e.frame.payload.getD 2 0#8 = t.flow.reasons.byte))

/-- A limiter's answer to a request at `t`. It grants exactly where the window and the stop condition hold: the grants
that the window still covers stay in the history, at most 4 of them with the new one. Otherwise it defers to the latest
of the times that the failing conditions name, and the grant at that expiry leaves at most 4 again (R131, R132). A
deferral that reaches its expiry is granted: the history gains the expiry, the drive of a station that may run turns on,
and a requested door opens for DOOR_TIME (R133, R183). A request that finds one deferred joins it. Any other takes the
limiter's answer, and a deferral counts START_DEFERRED and queues EVENT START_DEFERRED with the instance, the failing
condition and the deferral length in tenths of a second (R132). That a grant taken late counts from its expiry is the
model's reading (log entry 28), and that a command before it changes nothing is its choice (log entry 5). -/
def Obligations.LimiterBoundsStarts : Prop :=
  (∀ (window stop t : Nat) (l : Limiter) (kept : List Nat), l.history.length ≤ 4 →
    kept = l.history.filter (fun e => decide (t - e ≤ window)) →
    ((window = 0 ∨ kept.length < 4) → (∀ e, l.lastStop = some e → stop ≤ t - e) →
      ∃ l', limiterAnswer window stop t l = .granted l')
    ∧ (∀ l', limiterAnswer window stop t l = .granted l' →
      l' = { l with history := kept ++ (if window = 0 then [] else [t]) }
        ∧ l'.history.length ≤ 4 ∧ (∀ e, l.lastStop = some e → stop ≤ t - e))
    ∧ (∀ l' failing length, limiterAnswer window stop t l = .deferred l' failing length →
      ∃ expiry, l' = { l with history := kept, deferred := some expiry } ∧ length = expiry - t
        ∧ (limiterExpire window expiry l').history.length ≤ 4
        ∧ (failing = 1 ∨ failing = 3 ↔ window ≠ 0 ∧ kept.length = 4)
        ∧ (failing = 2 ∨ failing = 3 ↔ ∃ e, l.lastStop = some e ∧ t - e < stop)
        ∧ (failing = 1 ∨ failing = 2 ∨ failing = 3)
        ∧ (failing = 1 → expiry = kept.headD 0 + window + 1)
        ∧ (failing = 2 → expiry = l.lastStop.getD 0 + stop)
        ∧ (failing = 3 → expiry = max (kept.headD 0 + window + 1) (l.lastStop.getD 0 + stop))))
  ∧ (∀ (s : State) (d : Nat), s.hasProfile = true → s.mode ≠ .quiet →
    (s.flow.driveLimiter.deferred = some d → d ≤ s.now →
      Next (.deferralExpiry .drive) s
        (settle
          { s with
            flow.driveLimiter :=
              { s.flow.driveLimiter with
                history :=
                  s.flow.driveLimiter.history.filter (fun e => decide (d - e ≤ s.item 9))
                    ++ (if s.item 9 = 0 then [] else [d])
                deferred := none }
            flow.drive :=
              if s.unstoppable = false ∧ (s.mode = .running ∨ s.mode = .draining) ∧ s.stopCause = false then true
              else s.flow.drive }))
    ∧ (s.flow.doorLimiter.deferred = some d → d ≤ s.now →
      ∃ t, Next (.deferralExpiry .door) s t
        ∧ t = settle { s with flow := t.flow, packing := t.packing, channels := t.channels }
        ∧ t.flow
            = { s.flow with
                doorLimiter :=
                  { s.flow.doorLimiter with
                    history :=
                      s.flow.doorLimiter.history.filter (fun e => decide (d - e ≤ s.item 76))
                        ++ (if s.item 76 = 0 then [] else [d])
                    deferred := none } }
        ∧ t.packing
            = { s.packing with
                door := if s.packing.door = .requested then .opened (d + s.item 75) else s.packing.door }
        ∧ t.channels.tb0 = s.channels.tb0 ∧ t.channels.tb1 = s.channels.tb1 ∧ t.channels.belt = s.channels.belt
        ∧ (∀ ch (h : ch < 6), (s.channelRecord ch).mode ≠ .eventPulse →
            t.channels.chans[ch] = { s.channels.chans[ch] with out := t.channels.chans[ch].out }))
    ∧ (s.flow.driveLimiter.deferred = some d → s.now < d → Next (.deferralExpiry .drive) s s)
    ∧ (s.flow.doorLimiter.deferred = some d → s.now < d → Next (.deferralExpiry .door) s s))
  ∧ (∀ (i : LimiterId) (s : State) (number window stop : Nat) (l : Limiter),
    (i = .drive ∧ number = 0 ∧ window = s.item 9 ∧ stop = s.item 10 ∧ l = s.flow.driveLimiter)
      ∨ (i = .door ∧ number = 1 ∧ window = s.item 76 ∧ stop = s.item 77 ∧ l = s.flow.doorLimiter) →
    (l.deferred ≠ none → requestStart i s = (s, false))
    ∧ (∀ l', l.deferred = none → limiterAnswer window stop s.now l = .granted l' →
      requestStart i s = (setLimiter i l' s, true))
    ∧ (∀ l' failing length, l.deferred = none → limiterAnswer window stop s.now l = .deferred l' failing length →
      requestStart i s
        = (queueFrame (eventOf s 11 (256 * number + failing) (min ((length + 99) / 100) 65535))
            { setLimiter i l' s with counters.startDeferred := min (s.counters.startDeferred + 1) 65535 }, false)))

/-! ### Defrost, packing and channels -/

/-- An interval expiry raises a debt below 8 by one and evaluates the want flag with its hysteresis; at 8 it keeps the
debt and opens the overdue stay (R146, R147, R148). That a command before the period has passed changes nothing, and
that an expiry taken late starts the timer again at 0, are the model's choices (log entries 5 and 49). -/
def Obligations.DefrostIntervalExpires : Prop :=
  ∀ s : State, s.hasRole .freeze = true → (s.mode = .running ∨ s.mode = .draining) →
    (s.defrostPeriod ≤ s.defrost.intervalElapsed →
      ∃ t, Next .defrostIntervalExpiry s t
        ∧ (s.defrost.debt < 8 →
            BlocksResponded
              { s with
                defrost.intervalElapsed := 0
                defrost.debt := s.defrost.debt + 1
                defrost.want :=
                  if s.debtHigh ≤ s.defrost.debt + 1 then true
                  else if s.defrost.debt + 1 < s.debtHyst then false
                  else s.defrost.want } t)
        ∧ (8 ≤ s.defrost.debt →
            BlocksResponded { s with defrost.intervalElapsed := 0, defrost.overdueStay := true } t)
        ∧ (8 ≤ s.defrost.debt → s.defrost.overdueStay = true → t.link.txq = onLine s s.link.txq)
        ∧ (8 ≤ s.defrost.debt → s.defrost.overdueStay = false → Accepts .event s → ∀ c, s.defrost.cycle = some c →
            t.link.txq
              = onLine s (queued (eventOf s 12 (if c.kind = .normal then 1 else 2) 0) s.link.txq)))
    ∧ (s.defrost.intervalElapsed < s.defrostPeriod → Next .defrostIntervalExpiry s s)

/-- A completed cycle repays one unit of debt, is counted, and is followed at once by the cycle that the start test
gives, with the want flag evaluated between (R148, R149, R152). That a completion taken late starts the next cycle at
the present station time is the model's reading (log entries 6 and 28), and that a command before the end time changes
nothing is its choice (log entry 5). -/
def Obligations.DefrostCompletes : Prop :=
  ∀ (s : State) (c : DefrostCycle), s.hasRole .freeze = true → s.mode ≠ .quiet → s.defrost.cycle = some c →
    (c.endTime ≤ s.now →
      ∃ t, Next .defrostCompletion s t
        ∧ BlocksResponded
            { s with
              defrost.debt := s.defrost.debt - 1
              defrost.want :=
                if s.debtHigh ≤ s.defrost.debt - 1 then true
                else if s.defrost.debt - 1 < s.debtHyst then false
                else s.defrost.want
              defrost.overdueStay := s.defrost.overdueStay && decide (8 ≤ s.defrost.debt - 1)
              counters.defrostDone := min (s.counters.defrostDone + 1) 65535 } t
        ∧ t.defrost.cycle
            = (if s.mode = .ready ∨ s.mode = .running ∨ s.mode = .draining then
                if s.debtPanic ≤ s.defrost.debt - 1 then some ⟨.panic, s.now + s.defrostTime⟩
                else if s.debtLow ≤ s.defrost.debt - 1 ∧ s.tracking.zone = [] ∧ s.arrivals = [] then
                  some ⟨.normal, s.now + s.defrostTime⟩
                else none
              else none))
    ∧ (s.now < c.endTime → Next .defrostCompletion s s)

/-- A segment's material joins a bag in the five steps of R176, for a bag that takes no other lot's material: it stays
open below BAG_TARGET, and closes GOOD, HEAVY or, for a segment that is not GOOD, REJECT. An open bag of another lot
first closes SHORT, and the segment's material joins a bag that takes the next bag number; where that one closes too, it
follows the first in the queue (R176, R177). Each close queues EVENT BAG_CLOSED with the bag's number and tag, which is
stated where the queue has room for it (R177). The accepted forward count that brings the tail of a segment alone in the
zone to BAG_POINT consumes it so: it leaves the queue, its material joins as in the five steps, and each bag that closes
enters the queue (R175 to R177). -/
def Obligations.SegmentsJoinBags : Prop :=
  (∀ (s : State) (u : UnitRecord) (b : Bag), s.packing.openBag = some b → b.lot = u.lot →
    (u.disposition = 0 → min (b.mass + u.mass) 65535 < s.bagTarget →
      bagSegment u s = { s with packing.openBag := some { b with mass := min (b.mass + u.mass) 65535 } })
    ∧ (u.disposition ≠ 0 ∨ s.bagTarget ≤ min (b.mass + u.mass) 65535 →
      (bagSegment u s).packing.openBag = none
        ∧ (bagSegment u s).packing.nextBag = s.packing.nextBag
        ∧ (bagSegment u s).counters.bagsClosed = min (s.counters.bagsClosed + 1) 65535
        ∧ (s.tracking.zone = [] → s.arrivals = [] → s.tracking.tagSeq < 2048 →
            SameUnits
              [closedBag s s.tracking.tagSeq b.lot (min (b.mass + u.mass) 65535)
                (bagDisposition s u.disposition (min (b.mass + u.mass) 65535))]
              (bagSegment u s).tracking.zone
            ∧ (s.mode ≠ .quiet → s.link.silencing = false → s.link.txq.length ≤ 3 →
                ∃ e ∈ (bagSegment u s).link.txq, e.frame = eventOf s 13 b.number (nextTag s).toNat))))
  ∧ (∀ (s : State) (u : UnitRecord) (b : Bag), s.packing.openBag = some b → b.lot ≠ u.lot → s.tracking.zone = [] →
    s.arrivals = [] → s.tracking.tagSeq < 2048 →
    (bagSegment u s).packing.nextBag = (s.packing.nextBag + 1) % 65536
    ∧ (s.mode ≠ .quiet → s.link.silencing = false → s.link.txq.length ≤ 3 →
        ∃ e ∈ (bagSegment u s).link.txq, e.frame = eventOf s 13 b.number (nextTag s).toNat)
    ∧ (u.disposition = 0 → min u.mass 65535 < s.bagTarget →
      (bagSegment u s).packing.openBag = some ⟨s.packing.nextBag, u.lot, min u.mass 65535⟩
      ∧ (bagSegment u s).counters.bagsClosed = min (s.counters.bagsClosed + 1) 65535
      ∧ SameUnits [closedBag s s.tracking.tagSeq b.lot b.mass 2] (bagSegment u s).tracking.zone)
    ∧ (u.disposition ≠ 0 ∨ s.bagTarget ≤ min u.mass 65535 →
      (bagSegment u s).packing.openBag = none
      ∧ (bagSegment u s).counters.bagsClosed = min (s.counters.bagsClosed + 2) 65535
      ∧ SameUnits
          [closedBag s s.tracking.tagSeq b.lot b.mass 2,
            closedBag s ((s.tracking.tagSeq + 1) % 2048) u.lot (min u.mass 65535)
              (bagDisposition s u.disposition (min u.mass 65535))]
          (bagSegment u s).tracking.zone
      ∧ (s.mode ≠ .quiet → s.link.silencing = false → s.link.txq.length ≤ 3 →
          ∃ e ∈ (bagSegment u s).link.txq,
            e.frame
              = eventOf s 13 s.packing.nextBag
                  (BitVec.ofNat 16 (2048 * s.station.number + (s.tracking.tagSeq + 1) % 2048)).toNat)))
  ∧ (∀ (s : State) (u : UnitRecord), s.hasRole .bag = true → s.mode ≠ .quiet → s.tracking.reverseDebt = 0 →
    s.arrivals = [] → s.tracking.mergeBound = none → s.tracking.zone = [u] → u.kind = .segment → u.forming = false →
    u.tail + 1 = (s.bagPoint : Int) → s.bagPoint < s.zoneLength → (∀ ch, ch < 6 → removingWindow s ch = false) →
    ∃ t, Next (.forwardCount false) s t
      ∧ t.packing = (bagSegment u { s with tracking.zone := [] }).packing
      ∧ t.counters.bagsClosed = (bagSegment u { s with tracking.zone := [] }).counters.bagsClosed
      ∧ SameUnits (bagSegment u { s with tracking.zone := [] }).tracking.zone t.tracking.zone
      ∧ (∀ b : Bag, s.packing.openBag = some b → s.tracking.tagSeq < 2048 → s.link.silencing = false →
          s.link.txq.length ≤ 1 →
          b.lot ≠ u.lot ∨ u.disposition ≠ 0 ∨ s.bagTarget ≤ min (b.mass + u.mass) 65535 →
          ∃ e ∈ t.link.txq, e.frame = eventOf s 13 b.number (nextTag s).toNat))
  ∧ (∀ (s : State) (u : UnitRecord) (b : Bag), s.hasRole .bag = true → s.mode ≠ .quiet → s.tracking.reverseDebt = 0 →
    s.arrivals = [] → s.tracking.mergeBound = none → s.tracking.zone = [u] → u.kind = .segment → u.forming = false →
    u.tail + 1 = (s.bagPoint : Int) → (∀ ch, ch < 6 → removingWindow s ch = false) →
    (s.packing.openBag = some b ∧ b.lot = u.lot)
      ∨ (s.packing.openBag = none ∧ b = ⟨s.packing.nextBag, u.lot, 0⟩) →
    u.disposition = 0 → min (b.mass + u.mass) 65535 < s.bagTarget →
    ∃ t, Next (.forwardCount false) s t ∧ t.tracking.zone = []
      ∧ t.packing
          = { s.packing with
              openBag := some { b with mass := min (b.mass + u.mass) 65535 }
              nextBag :=
                if s.packing.openBag = none then (s.packing.nextBag + 1) % 65536 else s.packing.nextBag })

/-- A door cycle's completion stores the oldest carrier, counts it, reports it by EVENT CARRIER_STORED and records the
close; the cycle is IDLE where no carrier waits (R183). The accepted forward count that brings the tail of a bag alone
in the zone to CARRIER_POINT loads it, unless the door list holds 4 carriers (R179): a carrier of another lot is first
closed SHORT, and the carrier of the bag's lot then takes the bag, with the more severe disposition, and at CARRIER_SIZE
bags it closes into the door list (R180, R181). A record alone in the zone that leaves at the zone end is reported by
EVENT UNBAGGED (R179). Both EVENTs are stated where the queue has room for them. That the close is recorded at the time
at which the completion is taken is the model's reading (log entry 28), and that a command before it changes nothing is
its choice (log entry 5). -/
def Obligations.DoorCycleCompletes : Prop :=
  (∀ (s : State) (e : Nat) (c : DoorEntry) (rest : List DoorEntry), s.hasProfile = true → s.mode ≠ .quiet →
    s.packing.door = .opened e → s.packing.doorList = c :: rest →
    (e ≤ s.now →
      ∃ t, Next .doorCycleCompletion s t
        ∧ BlocksResponded
            { s with
              packing.doorList := rest
              counters.carriersStored := min (s.counters.carriersStored + 1) 65535 } t
        ∧ t.flow.doorLimiter.lastStop = some s.now
        ∧ (s.link.silencing = false → s.link.txq.length ≤ 3 →
            ∃ e ∈ t.link.txq, e.frame = eventOf s 14 c.number c.disposition)
        ∧ (rest = [] → t.packing.door = .idle))
    ∧ (s.now < e → Next .doorCycleCompletion s s))
  ∧ (∀ (s : State) (u : UnitRecord), s.hasRole .transfer = true → s.mode ≠ .quiet → s.tracking.reverseDebt = 0 →
    s.arrivals = [] → s.tracking.mergeBound = none → s.tracking.zone = [u] → u.kind = .bag → u.forming = false →
    u.tail + 1 = (s.carrierPoint : Int) → u.tail + 1 < (s.zoneLength : Int) →
    (∀ ch, ch < 6 → removingWindow s ch = false) →
    ∃ t, Next (.forwardCount false) s t
      ∧ (4 ≤ s.packing.doorList.length →
          SameUnits [{ u with head := u.head + 1 }] t.tracking.zone ∧ t.packing.openCarrier = s.packing.openCarrier
          ∧ t.packing.doorList = s.packing.doorList)
      ∧ (s.packing.doorList.length < 4 →
          t.tracking.zone = []
          ∧ (∀ c : Carrier, (s.packing.openCarrier = some c ∧ c.lot = u.lot)
                ∨ (s.packing.openCarrier = none ∧ c = ⟨s.packing.nextCarrier, u.lot, 0, 0⟩) →
              t.packing.nextCarrier
                  = (if s.packing.openCarrier = none then (s.packing.nextCarrier + 1) % 65536
                    else s.packing.nextCarrier)
              ∧ (c.count + 1 < s.carrierSize →
                  t.packing.openCarrier
                    = some { c with count := c.count + 1, disposition := max u.disposition c.disposition }
                  ∧ t.packing.doorList = s.packing.doorList)
              ∧ (s.carrierSize ≤ c.count + 1 →
                  t.packing.openCarrier = none
                  ∧ t.packing.doorList
                      = s.packing.doorList ++ [⟨c.number, max u.disposition c.disposition⟩]))
          ∧ (∀ c : Carrier, s.packing.openCarrier = some c → c.lot ≠ u.lot → 1 < s.carrierSize →
              t.packing.openCarrier = some ⟨s.packing.nextCarrier, u.lot, 1, u.disposition⟩
              ∧ t.packing.nextCarrier = (s.packing.nextCarrier + 1) % 65536
              ∧ t.packing.doorList = s.packing.doorList ++ [⟨c.number, max 2 c.disposition⟩])))
  ∧ (∀ (s : State) (u : UnitRecord), s.hasRole .transfer = true → s.mode ≠ .quiet → s.tracking.reverseDebt = 0 →
    s.arrivals = [] → s.tracking.mergeBound = none → s.tracking.zone = [u] → u.forming = false →
    (s.zoneLength : Int) ≤ u.tail + 1 → packingDue s (advanced u) = false →
    (∀ ch, ch < 6 → removingWindow s ch = false) →
    ∃ t, Next (.forwardCount false) s t ∧ t.tracking.zone = [] ∧ t.packing.openCarrier = s.packing.openCarrier
      ∧ t.packing.doorList = s.packing.doorList
      ∧ (s.link.silencing = false → s.link.txq.length ≤ 3 →
          ∃ e ∈ t.link.txq, e.frame = eventOf s 15 (if u.kind = .bag then 1 else 0) u.tag.toNat))

/-- A millisecond of a running base takes it to its next value, and a DUTY channel that reads it is then active in the
first floor(d × P / 64) values (R158, R163). A millisecond of a one-shot below 65,535 takes it to its next value, and
switches the channel at A and, once risen, at B (R168). A base value switches a RUNNING channel of a compare mode that
reads it: SET_AT and CLEAR_AT once at A (R160), TOGGLE at each A (R160), ONE_PULSE once from A to B or to the wrap, if A
and B differ (R161), and REPEAT_PULSE at each A and B, if they differ (R162). At any other value its level stands. An
accepted forward count takes the BELT base of live channels to its next value modulo ZONE_LENGTH, with the same effect on
the channels that read it, and leaves the other bases (R159). That the rows do not advance station time is the model's
reading (log entry 30), and so is the moment at which a ONE_PULSE channel whose B its base never takes becomes inert (log
entry 50). -/
def Obligations.ChannelClocks : Prop :=
  (∀ (s : State) (base : MsBase) (v : Nat), s.mode ≠ .quiet → msBaseValue s base = some v →
    ∃ t, Next (.timeBaseTick base) s t
      ∧ t = settle { s with channels := t.channels }
      ∧ msBaseValue t base = some (if v + 1 < msBasePeriod s base then v + 1 else 0)
      ∧ (∀ ch (h : ch < 6), (s.channelRecord ch).mode = .duty → (s.channelRecord ch).base = msBaseName base →
          s.channels.chans[ch].run = .running → (s.isHead = false ∨ s.infeedChannel ≠ ch) →
          t.channels.chans[ch].out
            = decide ((if v + 1 < msBasePeriod s base then v + 1 else 0)
                < (s.channelRecord ch).a * msBasePeriod s base / 64)))
  ∧ (∀ (s : State) (ch n : Nat) (h : ch < 6), s.mode ≠ .quiet → (s.channelRecord ch).mode = .eventPulse →
      s.channels.chans[ch].run = .running → s.channels.chans[ch].oneShot = some n → n < 65535 →
      ∃ t, Next (.oneShotTick ch) s t
        ∧ t = settle { s with channels := t.channels }
        ∧ t.channels.chans[ch].oneShot = some (n + 1)
        ∧ (n + 1 = (s.channelRecord ch).a → n + 1 ≠ (s.channelRecord ch).b → t.channels.chans[ch].out = true)
        ∧ (n + 1 ≠ (s.channelRecord ch).a → n + 1 = (s.channelRecord ch).b → s.channels.chans[ch].rose = true →
            t.channels.chans[ch].out = false))
  ∧ (∀ (s : State) (base : MsBase) (v n ch : Nat) (h : ch < 6) (r : ChannelRecord) (c : Channel), s.mode ≠ .quiet →
    msBaseValue s base = some v → n = (if v + 1 < msBasePeriod s base then v + 1 else 0) → r = s.channelRecord ch →
    c = s.channels.chans[ch] → r.base = msBaseName base → c.run = .running →
    ∃ t, Next (.timeBaseTick base) s t
      ∧ CompareTakes r n (decide (msBasePeriod s base ≤ v + 1)) c t.channels.chans[ch])
  ∧ (∀ (s : State) (on : Bool), s.hasProfile = true → s.mode ≠ .quiet → s.tracking.reverseDebt = 0 →
    ∃ t, Next (.forwardCount on) s t
      ∧ t.channels.tb0 = s.channels.tb0 ∧ t.channels.tb1 = s.channels.tb1
      ∧ (s.channels.belt = none → t.channels.belt = none)
      ∧ (∀ v, s.channels.belt = some v →
          t.channels.belt = some (if v + 1 < s.zoneLength then v + 1 else 0)
          ∧ ∀ ch (h : ch < 6), s.channels.chans[ch].run = .running →
              ((s.channelRecord ch).base = .belt →
                CompareTakes (s.channelRecord ch) (if v + 1 < s.zoneLength then v + 1 else 0)
                  (decide (s.zoneLength ≤ v + 1)) s.channels.chans[ch] t.channels.chans[ch])
              ∧ ((s.channelRecord ch).base ≠ .belt → (s.channelRecord ch).mode ≠ .eventPulse →
                t.channels.chans[ch] = { s.channels.chans[ch] with out := t.channels.chans[ch].out })))

/-- Every step keeps each output pin at the level that its channel's run state and mode give: the level that the compare
modes and the one-shot have made (R160 to R162, R168), the duty pattern, behind the infeed gate at a head's infeed
channel (R135, R163, R164), the records under a segment window (R165), and the level source that FOLLOW names (R169). A
channel that is not RUNNING shows an inactive output (R156, R170). Every step keeps the holding reasons, which FOLLOW's
source HOLDING shows, as the station state, the defrost cycle, the door list and the level hysteresis give them (R126,
R127). -/
def Obligations.OutputsFollowKept : Prop :=
  (∀ s t : State, OutputsFollow s → step s = .next t → OutputsFollow t)
    ∧ (∀ s t : State, ReasonsFollow s → step s = .next t → ReasonsFollow t)

/-- The channels follow the station state. Acceptance into READY and FAULTED and a line restart into them start the
bases and every channel, but the fault-governed ones in FAULTED, which are FORCED (R156, R157, R172, R173). FAULT_CLEAR
into READY starts the bases and the fault-governed channels, and the others take base value 0 and run on (R171). A line
restart into PROFILED, and FAULT_CLEAR into it, leave every channel STOPPED. RUN leaves every channel as it was. An
EVENT_PULSE channel may be triggered by what the new state starts, so its level is not stated. -/
def Obligations.ChannelsFollowState : Prop :=
  (∀ (f : Frame) (rest : List Frame) (s : State), Oldest .profileEnd f rest s → Admitted f s → s.mode = .joining →
    profileFailure s.station.pendingProfile (payloadByte f.payload 0) = none →
    ∃ t, Next .profileEnd s t
      ∧ (t.mode = .ready ∨ t.mode = .faulted → BasesAtStart t
          ∧ ∀ ch (h : ch < 6), (t.channelRecord ch).mode ≠ .eventPulse →
              (t.mode = .faulted → (t.channelRecord ch).faultGoverned = true → t.channels.chans[ch].run = .forced)
              ∧ (t.mode = .ready ∨ (t.channelRecord ch).faultGoverned = false →
                  Started (t.channelRecord ch) t.channels.chans[ch])))
  ∧ (∀ (f : Frame) (rest : List Frame) (s : State), Oldest .restart f rest s → Admitted f s → s.hasProfile = true →
    ∃ t, Next .restart s t
      ∧ (t.mode = .profiled → Dormant t)
      ∧ (t.mode = .ready ∨ t.mode = .faulted → BasesAtStart t
          ∧ ∀ ch (h : ch < 6), (s.channelRecord ch).mode ≠ .eventPulse →
              (t.mode = .faulted → (s.channelRecord ch).faultGoverned = true → t.channels.chans[ch].run = .forced)
              ∧ (t.mode = .ready ∨ (s.channelRecord ch).faultGoverned = false →
                  Started (s.channelRecord ch) t.channels.chans[ch])))
  ∧ (∀ (f : Frame) (rest : List Frame) (s : State), Oldest .faultClear f rest s → Admitted f s → s.faultIn = false →
    ∃ t, Next .faultClear s t
      ∧ (t.mode = .profiled → Dormant t)
      ∧ (t.mode = .ready → BasesAtStart t
          ∧ ∀ ch (h : ch < 6), (s.channelRecord ch).mode ≠ .eventPulse →
              ((s.channelRecord ch).faultGoverned = true → Started (s.channelRecord ch) t.channels.chans[ch])
              ∧ ((s.channelRecord ch).faultGoverned = false → s.channels.chans[ch].run = .running →
                  t.channels.chans[ch]
                    = { channelTakes (s.channelRecord ch) 0 false s.channels.chans[ch] with
                        out := t.channels.chans[ch].out })))
  ∧ (∀ (f : Frame) (rest : List Frame) (s : State), Oldest .run f rest s → Admitted f s →
    ∃ t, Next .run s t
      ∧ t.channels.tb0 = s.channels.tb0 ∧ t.channels.tb1 = s.channels.tb1 ∧ t.channels.belt = s.channels.belt
      ∧ (∀ ch (h : ch < 6), (s.channelRecord ch).mode ≠ .eventPulse →
          t.channels.chans[ch] = { s.channels.chans[ch] with out := t.channels.chans[ch].out }))
end

