-- ==== Sys2Proof/Laws/Response.lean ====
section
/-! SUPPORT. What each shared operation can change, said once: queueing a frame, evaluating reasons, drive and chain
flags, the cycle tests, and the responses to a change of the zone queue. -/

namespace Sys2Proof.Laws

open Sys2Proof Sys2Proof.Machine Sys2Proof.Safety

/-! ### SameUnits -/

theorem sameUnits_refl (z : List UnitRecord) : SameUnits z z := rfl

theorem sameUnits_trans {a b c : List UnitRecord} (h : SameUnits a b) (h' : SameUnits b c) : SameUnits a c :=
  Eq.trans h' h

theorem sameUnits_length {a b : List UnitRecord} (h : SameUnits a b) : b.length = a.length := by
  have := congrArg List.length h; simpa using this

/-- Rewriting handover fields alone keeps the units. -/
theorem sameUnits_map (z : List UnitRecord) (f : UnitRecord → UnitRecord)
    (hf : ∀ r, withoutHandover (f r) = withoutHandover r) : SameUnits z (z.map f) := by
  unfold SameUnits; rw [List.map_map]; exact List.map_congr_left (fun r _ => hf r)

/-! ### FramesQueued -/

theorem framesQueued_refl (s : State) : FramesQueued s s := ⟨rfl, sameUnits_refl _⟩

theorem framesQueued_trans {s t u : State} (h : FramesQueued s t) (h' : FramesQueued t u) : FramesQueued s u := by
  have e := congrArg (withFrames · u) h.1
  exact ⟨h'.1.trans e, sameUnits_trans h.2 h'.2⟩

theorem setHandover_framesQueued (t : Tag) (h : HandoverState) (n : Nat) (s : State) :
    FramesQueued s (setHandover t h n s) :=
  ⟨rfl, sameUnits_map _ _ (fun r => by split <;> rfl)⟩

theorem enqueue_framesQueued (f : Frame) (s : State) : FramesQueued s (enqueue f s).1 := by
  unfold enqueue
  split
  · exact framesQueued_refl s
  split
  · exact ⟨rfl, sameUnits_refl _⟩
  split
  · exact ⟨rfl, sameUnits_refl _⟩
  split
  · split <;> exact ⟨rfl, sameUnits_refl _⟩
  · exact ⟨rfl, sameUnits_refl _⟩

theorem enqueue_gives {f : Frame} {s s1 : State} {o : Option TxEntry} (h : enqueue f s = (s1, o)) :
    FramesQueued s s1 := by
  have := enqueue_framesQueued f s; rwa [h] at this

theorem settleLoss_framesQueued (fuel : Nat) : ∀ (e : TxEntry) (s : State), FramesQueued s (settleLoss fuel e s) := by
  induction fuel with
  | zero => exact fun e s => framesQueued_refl s
  | succ fuel ih =>
    intro e s
    unfold settleLoss
    split
    · exact framesQueued_refl s
    dsimp only
    split
    · exact framesQueued_refl s
    split
    · exact framesQueued_refl s
    split
    · split
      · next s2 he => exact framesQueued_trans (setHandover_framesQueued _ _ _ s) (enqueue_gives he)
      · next s2 e' he =>
        exact framesQueued_trans (setHandover_framesQueued _ _ _ s) (framesQueued_trans (enqueue_gives he) (ih e' s2))
    · exact setHandover_framesQueued _ _ _ s

/-- Queueing a frame changes the transmit queue, TX_DROP and handover states, and nothing else. -/
theorem queueFrame_framesQueued (f : Frame) (s : State) : FramesQueued s (queueFrame f s) := by
  unfold queueFrame
  split
  · next s1 he => exact enqueue_gives he
  · next s1 e he =>
    exact framesQueued_trans (enqueue_gives he) (settleLoss_framesQueued 4 e s1)

theorem queueEvent_framesQueued (n : EventName) (d t : Nat) (s : State) : FramesQueued s (queueEvent n d t s) :=
  queueFrame_framesQueued _ s

theorem queueStatus_framesQueued (s : State) : FramesQueued s (queueStatus s) := queueFrame_framesQueued _ s

theorem queueHold_framesQueued (s : State) : FramesQueued s (queueHold s) := by
  unfold queueHold; split
  · exact framesQueued_refl s
  · exact queueFrame_framesQueued _ s

/-! ### LineKept -/

theorem lineKept_refl {s t : State} (h : t.link.line = s.link.line) : LineKept s t := .inl h

theorem lineKept_trans {s t u : State} (h : LineKept s t) (h' : LineKept t u) : LineKept s u := by
  rcases h with h | ⟨h1, h2⟩ <;> rcases h' with h3 | ⟨h3, h4⟩
  · exact .inl (h3.trans h)
  · exact .inr ⟨h.symm.trans h3, h4⟩
  · exact .inr ⟨h1, h3.trans h2⟩
  · exact .inr ⟨h1, h4⟩

/-! ### BlocksResponded -/

theorem framesQueued_blocks {s t : State} (h : FramesQueued s t) : BlocksResponded s t := by
  have e := congrArg (withResponses s) h.1
  exact ⟨h.1.trans e.symm, h.2, lineKept_refl (congrArg (·.link.line) h.1)⟩

theorem blocksResponded_refl (s : State) : BlocksResponded s s := framesQueued_blocks (framesQueued_refl s)

theorem blocksResponded_trans {s t u : State} (h : BlocksResponded s t) (h' : BlocksResponded t u) :
    BlocksResponded s u := by
  have e := congrArg (withResponses · u) h.1
  exact ⟨h'.1.trans e, sameUnits_trans h.2.1 h'.2.1, lineKept_trans h.2.2 h'.2.2⟩

/-- A change of the parts that responses may write, with the zone queue as it is, is a response. -/
theorem setReasons_blocks (level : Bool) (s : State) : BlocksResponded s (setReasons level s) := by
  unfold setReasons
  dsimp only
  split
  · exact blocksResponded_refl s
  · exact blocksResponded_trans (t := { s with flow.reasons := s.reasonsInForce level }) ⟨rfl, sameUnits_refl _, lineKept_refl rfl⟩
      (framesQueued_blocks (framesQueued_trans (queueStatus_framesQueued _) (queueHold_framesQueued _)))

theorem refreshReasons_blocks (s : State) : BlocksResponded s (refreshReasons s) := setReasons_blocks _ s

theorem evaluateLevel_blocks (s : State) : BlocksResponded s (evaluateLevel s) := setReasons_blocks _ s

theorem setLimiter_blocks (i : LimiterId) (l : Limiter) (s : State) : BlocksResponded s (setLimiter i l s) := by
  cases i <;> exact ⟨rfl, sameUnits_refl _, lineKept_refl rfl⟩

theorem withdrawStart_blocks (i : LimiterId) (s : State) : BlocksResponded s (withdrawStart i s) := setLimiter_blocks _ _ s

theorem requestStart_blocks (i : LimiterId) (s : State) : BlocksResponded s (requestStart i s).1 := by
  unfold requestStart
  split
  · exact blocksResponded_refl s
  split
  · exact setLimiter_blocks _ _ s
  · next l failing length _ =>
    refine blocksResponded_trans (setLimiter_blocks i l s)
      (blocksResponded_trans (t := count .startDeferred (setLimiter i l s)) ?_
        (framesQueued_blocks (queueEvent_framesQueued _ _ _ _)))
    exact ⟨rfl, sameUnits_refl _, lineKept_refl rfl⟩

theorem requestStart_gives {i : LimiterId} {s s1 : State} {b : Bool} (h : requestStart i s = (s1, b)) :
    BlocksResponded s s1 := by
  have := requestStart_blocks i s; rwa [h] at this

theorem driveOn_blocks (s : State) : BlocksResponded s (driveOn s) :=
  ⟨rfl, sameUnits_refl _, lineKept_refl rfl⟩

theorem driveOff_blocks (s : State) : BlocksResponded s (driveOff s) := by
  unfold driveOff
  split
  · exact ⟨rfl, sameUnits_refl _, lineKept_refl rfl⟩
  · exact blocksResponded_refl s

theorem evaluateDrive_blocks (s : State) : BlocksResponded s (evaluateDrive s) := by
  unfold evaluateDrive
  split
  · exact blocksResponded_refl s
  split
  · split
    · exact driveOn_blocks s
    · exact driveOff_blocks s
  split
  · exact driveOn_blocks s
  split
  · split
    · exact blocksResponded_trans (withdrawStart_blocks _ s) (driveOff_blocks _)
    split
    · exact blocksResponded_refl s
    split
    · next s1 h => exact blocksResponded_trans (requestStart_gives h) (driveOn_blocks s1)
    · next s1 h => exact requestStart_gives h
  · exact blocksResponded_trans (withdrawStart_blocks _ s) (driveOff_blocks _)

theorem startGapRun_blocks (s : State) : BlocksResponded s (startGapRun s) := by
  unfold startGapRun
  split
  · exact ⟨rfl, sameUnits_refl _, lineKept_refl rfl⟩
  · exact blocksResponded_refl s

theorem evaluateChain_blocks (s : State) : BlocksResponded s (evaluateChain s) := by
  unfold evaluateChain
  split
  · exact blocksResponded_refl s
  dsimp only
  split
  · exact blocksResponded_refl s
  · refine blocksResponded_trans ?_ (framesQueued_blocks (queueStatus_framesQueued _))
    split
    · exact blocksResponded_trans ⟨rfl, sameUnits_refl _, lineKept_refl rfl⟩ (startGapRun_blocks _)
    · exact ⟨rfl, sameUnits_refl _, lineKept_refl rfl⟩

theorem foldl_framesQueued {α : Type} (g : State → α → State) (hg : ∀ s a, FramesQueued s (g s a)) (l : List α)
    (s : State) : FramesQueued s (l.foldl g s) := by
  induction l generalizing s with
  | nil => exact framesQueued_refl s
  | cons a l ih => exact framesQueued_trans (hg s a) (ih (g s a))

theorem revive_framesQueued (s : State) : FramesQueued s (revive s) := by
  unfold revive
  split
  · exact framesQueued_refl s
  · refine foldl_framesQueued _ (fun s t => ?_) _ s
    dsimp only
    split
    · exact framesQueued_refl s
    · exact framesQueued_trans (setHandover_framesQueued _ _ _ s) (queueFrame_framesQueued _ _)

theorem handDownstream_blocks (b : Option PeerEntry) (s : State) : BlocksResponded s (handDownstream b s) := by
  unfold handDownstream
  split
  · dsimp only
    have h1 : ∀ c : Prop, [Decidable c] → BlocksResponded s (if c then s else evaluateDrive s) := fun c _ => by
      split
      · exact blocksResponded_refl s
      · exact evaluateDrive_blocks s
    split
    · exact blocksResponded_trans (h1 _) (framesQueued_blocks (revive_framesQueued _))
    · exact h1 _
  · exact blocksResponded_refl s
  · exact evaluateDrive_blocks s
  · exact evaluateDrive_blocks s

theorem mapChannels_blocks (f : Nat → Channel → Channel) (s : State) : BlocksResponded s (s.mapChannels f) :=
  ⟨rfl, sameUnits_refl _, lineKept_refl rfl⟩

theorem settleOutputs_blocks (s : State) : BlocksResponded s (settleOutputs s) := mapChannels_blocks _ s

/-- What the link controller does on an IDLE line: nothing, or the start of the head entry. -/
theorem startIfIdle_cases (l : Link) :
    startIfIdle l = l
      ∨ ∃ e rest, l.line = .idle ∧ (sendingEntry l.txq).isSome = false ∧ l.txq = e :: rest
          ∧ startIfIdle l = { l with txq := { e with sending := true } :: rest, line := .busy } := by
  unfold startIfIdle
  split
  · next h =>
    unfold startHead
    split
    · exact .inl rfl
    · next e rest hq => exact .inr ⟨e, rest, h.1, h.2, hq, rfl⟩
  · exact .inl rfl

/-- What the end of a command does to the line: nothing, or the start of the head entry on an IDLE line. -/
theorem settleLine_cases (s : State) :
    settleLine s = s
      ∨ ∃ e rest, s.mode ≠ .quiet ∧ s.link.line = .idle ∧ (sendingEntry s.link.txq).isSome = false
          ∧ s.link.txq = e :: rest
          ∧ settleLine s = { s with link.txq := { e with sending := true } :: rest, link.line := .busy } := by
  unfold settleLine
  by_cases hm : s.mode = .quiet
  · rw [if_pos hm]; exact .inl rfl
  · rw [if_neg hm]
    rcases startIfIdle_cases s.link with h | ⟨e, rest, h1, h2, h3, h4⟩
    · exact .inl (by rw [h])
    · exact .inr ⟨e, rest, hm, h1, h2, h3, by rw [h4]⟩

theorem settleLine_blocks (s : State) : BlocksResponded s (settleLine s) := by
  rcases settleLine_cases s with h | ⟨e, rest, _, h1, _, _, h2⟩
  · rw [h]; exact blocksResponded_refl s
  · rw [h2]; exact ⟨rfl, sameUnits_refl _, .inr ⟨h1, rfl⟩⟩

theorem settle_blocks (s : State) : BlocksResponded s (settle s) :=
  blocksResponded_trans (settleLine_blocks s) (settleOutputs_blocks _)

theorem giveEvent_blocks (e : EventSource) (s : State) : BlocksResponded s (giveEvent e s) := mapChannels_blocks _ s

theorem startDueCycle_blocks (s : State) : BlocksResponded s (startDueCycle s) := by
  unfold startDueCycle
  split
  · split
    · refine blocksResponded_trans ?_ (giveEvent_blocks _ _)
      exact ⟨rfl, sameUnits_refl _, lineKept_refl rfl⟩
    · exact blocksResponded_refl s
  · exact blocksResponded_refl s

theorem defrostTest_blocks (s : State) : BlocksResponded s (defrostTest s) := by
  unfold defrostTest
  dsimp only
  split
  · exact startDueCycle_blocks s
  · exact blocksResponded_trans (startDueCycle_blocks s)
      (blocksResponded_trans (refreshReasons_blocks _) (framesQueued_blocks (queueStatus_framesQueued _)))

theorem openDoor_blocks (t : Nat) (s : State) : BlocksResponded s (openDoor t s) :=
  blocksResponded_trans ⟨rfl, sameUnits_refl _, lineKept_refl rfl⟩ (giveEvent_blocks _ _)

theorem doorTest_blocks (s : State) : BlocksResponded s (doorTest s) := by
  unfold doorTest
  split
  · split
    · next s1 h => exact blocksResponded_trans (requestStart_gives h) (openDoor_blocks _ s1)
    · next s1 h =>
      refine blocksResponded_trans (requestStart_gives h) ?_
      exact ⟨rfl, sameUnits_refl _, lineKept_refl rfl⟩
  · exact blocksResponded_refl s

theorem withdrawDoor_blocks (s : State) : BlocksResponded s (withdrawDoor s) := by
  unfold withdrawDoor
  split
  · refine blocksResponded_trans ?_ (withdrawStart_blocks _ _)
    exact ⟨rfl, sameUnits_refl _, lineKept_refl rfl⟩
  · exact blocksResponded_refl s

theorem reportCounts_framesQueued (c : Nat × Nat) (s : State) : FramesQueued s (reportCounts c s) := by
  unfold reportCounts; split
  · exact framesQueued_refl s
  · exact queueStatus_framesQueued s

theorem testEmptied_blocks (s : State) : BlocksResponded s (testEmptied s) := by
  unfold testEmptied; split
  · exact defrostTest_blocks s
  · exact blocksResponded_refl s

theorem queueChanged_blocks (c : Nat × Nat) (s : State) : BlocksResponded s (queueChanged c s) :=
  blocksResponded_trans (evaluateLevel_blocks s) (blocksResponded_trans (evaluateDrive_blocks _)
    (blocksResponded_trans (framesQueued_blocks (reportCounts_framesQueued c _)) (testEmptied_blocks _)))

theorem freshPosture_blocks (s : State) : BlocksResponded s (freshPosture s) := by
  unfold freshPosture
  split
  · refine blocksResponded_trans ?_ (mapChannels_blocks _ _)
    exact ⟨rfl, sameUnits_refl _, lineKept_refl rfl⟩
  · refine blocksResponded_trans ?_ (mapChannels_blocks _ _)
    exact ⟨rfl, sameUnits_refl _, lineKept_refl rfl⟩

theorem changePosture_blocks (old : StationState) (s : State) : BlocksResponded s (changePosture old s) := by
  unfold changePosture
  split
  · split
    · exact mapChannels_blocks _ s
    split
    · refine blocksResponded_trans ?_ (mapChannels_blocks _ _)
      exact ⟨rfl, sameUnits_refl _, lineKept_refl rfl⟩
    · exact blocksResponded_refl s
  split
  · exact freshPosture_blocks s
  · exact blocksResponded_refl s

theorem foldl_blocks {α : Type} (g : State → α → State) (hg : ∀ s a, BlocksResponded s (g s a)) (l : List α)
    (s : State) : BlocksResponded s (l.foldl g s) := by
  induction l generalizing s with
  | nil => exact blocksResponded_refl s
  | cons a l ih => exact blocksResponded_trans (hg s a) (ih (g s a))

theorem offerRecord_framesQueued (s : State) (t : Tag) : FramesQueued s (offerRecord s t) := by
  unfold offerRecord
  split
  · exact framesQueued_refl s
  · exact framesQueued_trans (setHandover_framesQueued _ _ _ s) (queueFrame_framesQueued _ _)

/-! ### QueueWritten -/

theorem blocksResponded_queue {s t : State} (h : BlocksResponded s t) : QueueWritten s t := by
  have e := congrArg (withQueue s) h.1
  have m := congrArg State.mode h.1
  exact ⟨h.1.trans e.symm, .inl m, h.2.2⟩

theorem queueWritten_refl (s : State) : QueueWritten s s := blocksResponded_queue (blocksResponded_refl s)

theorem queueWritten_trans {s t u : State} (h : QueueWritten s t) (h' : QueueWritten t u) : QueueWritten s u := by
  have e := congrArg (withQueue · u) h.1
  refine ⟨h'.1.trans e, ?_, lineKept_trans h.2.2 h'.2.2⟩
  rcases h.2.1 with h1 | ⟨h1, h2⟩ <;> rcases h'.2.1 with h3 | ⟨h3, h4⟩
  · exact .inl (h3.trans h1)
  · exact .inr ⟨h1.symm.trans h3, h4⟩
  · exact .inr ⟨h1, h3.trans h2⟩
  · exact .inr ⟨h1, h4⟩

theorem passRecord_queue (s : State) (t : Tag) : QueueWritten s (passRecord s t) := by
  unfold passRecord
  split
  · exact queueWritten_refl s
  · dsimp only
    split
    · exact blocksResponded_queue (framesQueued_blocks
        (framesQueued_trans (setHandover_framesQueued _ _ _ s) (queueFrame_framesQueued _ _)))
    · refine queueWritten_trans (t := count .untakenPass (setHandover t .passed _ s)) ?_
        (blocksResponded_queue (framesQueued_blocks (queueFrame_framesQueued _ _)))
      exact ⟨rfl, .inl rfl, lineKept_refl rfl⟩

theorem foldl_queue {α : Type} (g : State → α → State) (hg : ∀ s a, QueueWritten s (g s a)) (l : List α)
    (s : State) : QueueWritten s (l.foldl g s) := by
  induction l generalizing s with
  | nil => exact queueWritten_refl s
  | cons a l ih => exact queueWritten_trans (hg s a) (ih (g s a))

theorem makeOffers_framesQueued (s : State) : FramesQueued s (makeOffers s) :=
  foldl_framesQueued _ offerRecord_framesQueued _ s

theorem makePasses_queue (s : State) : QueueWritten s (makePasses s) := foldl_queue _ passRecord_queue _ s

theorem examineZone_queue (s : State) : QueueWritten s (examineZone s) := by
  unfold examineZone
  split
  · exact queueWritten_trans (blocksResponded_queue (framesQueued_blocks (makeOffers_framesQueued s)))
      (queueWritten_trans (makePasses_queue _) (blocksResponded_queue (evaluateDrive_blocks _)))
  · exact blocksResponded_queue (evaluateDrive_blocks s)

theorem insertRecord_queue (r : UnitRecord) (s : State) : QueueWritten s (insertRecord r s) := ⟨rfl, .inl rfl, lineKept_refl rfl⟩

theorem gainLoad_queue (m : Nat) (s : State) : QueueWritten s (gainLoad m s) := by
  unfold gainLoad
  split
  · exact ⟨rfl, .inl rfl, lineKept_refl rfl⟩
  · exact queueWritten_refl s

theorem mergeInto_queue (last r : UnitRecord) (s : State) : QueueWritten s (mergeInto last r s) := by
  unfold mergeInto
  refine queueWritten_trans ?_ (blocksResponded_queue (framesQueued_blocks (queueEvent_framesQueued _ _ _ _)))
  exact ⟨rfl, .inl rfl, lineKept_refl rfl⟩

/-- A record's entry changes the zone queue, and what the examination of the queue changes. -/
theorem enterVia_queue (examine : State → State) (hx : ∀ s, QueueWritten s (examine s)) (r : UnitRecord) (s : State) :
    QueueWritten s (enterVia examine r s) := by
  have hi : ∀ s, QueueWritten s (examine (insertRecord r s)) :=
    fun s => queueWritten_trans (insertRecord_queue r s) (hx _)
  unfold enterVia
  split
  · exact hi s
  split
  · exact hi s
  split
  · split
    · exact queueWritten_trans (t := { s with tracking.zone := s.tracking.zone.dropLast }) ⟨rfl, .inl rfl, lineKept_refl rfl⟩ (hi _)
    · exact queueWritten_trans (gainLoad_queue _ s) (mergeInto_queue _ r _)
  · exact mergeInto_queue _ r s

theorem enterRecord_queue (r : UnitRecord) (s : State) : QueueWritten s (enterRecord r s) :=
  enterVia_queue _ examineZone_queue r s

theorem enterInCount_queue (r : UnitRecord) (s : State) : QueueWritten s (enterInCount r s) :=
  enterVia_queue _ queueWritten_refl r s

theorem closeForming_queue (enter : UnitRecord → State → State) (he : ∀ r s, QueueWritten s (enter r s))
    (changed : Nat × Nat → State → State) (hc : ∀ c s, QueueWritten s (changed c s)) (f : Nat → Nat) (s : State) :
    QueueWritten s (closeForming enter changed f s) := by
  unfold closeForming
  split
  · dsimp only
    split
    · exact ⟨rfl, .inl rfl, lineKept_refl rfl⟩
    · refine queueWritten_trans ?_ (hc _ _)
      refine queueWritten_trans ?_ (he _ _)
      refine queueWritten_trans ?_ (gainLoad_queue _ _)
      exact ⟨rfl, .inl rfl, lineKept_refl rfl⟩
  split
  · exact queueWritten_refl s
  split
  · dsimp only
    split
    · refine queueWritten_trans ?_ (hc _ _)
      exact ⟨rfl, .inl rfl, lineKept_refl rfl⟩
    · refine queueWritten_trans ?_ (gainLoad_queue _ _)
      exact ⟨rfl, .inl rfl, lineKept_refl rfl⟩
  · exact queueWritten_refl s

theorem queueChanged_queue (c : Nat × Nat) (s : State) : QueueWritten s (queueChanged c s) :=
  blocksResponded_queue (queueChanged_blocks c s)

/-- The responses that a state change brings, in any state but FAULTED and PROFILED, which bring aborts. -/
theorem respondToState_queue (old : StationState) (s : State) (hf : s.mode ≠ .faulted) (hp : s.mode ≠ .profiled) :
    QueueWritten s (respondToState old s) := by
  have h1 : QueueWritten s (if endsFormation old s.mode then closeForming enterRecord queueChanged id s else s) := by
    split
    · exact closeForming_queue _ enterRecord_queue _ queueChanged_queue id s
    · exact queueWritten_refl s
  have hm : (if endsFormation old s.mode then closeForming enterRecord queueChanged id s else s).mode = s.mode
      ∨ (if endsFormation old s.mode then closeForming enterRecord queueChanged id s else s).mode = .ready := by
    rcases h1.2.1 with h | h
    · exact .inl h
    · exact .inr h.2
  unfold respondToState
  dsimp only
  generalize (if endsFormation old s.mode then closeForming enterRecord queueChanged id s else s) = u at h1 hm
  have hu : u.mode ≠ .faulted ∧ u.mode ≠ .profiled := by
    rcases hm with h | h <;> rw [h]
    · exact ⟨hf, hp⟩
    · exact ⟨nofun, nofun⟩
  have hd : stateAborts (discardWalk old u) = u := by
    unfold discardWalk stateAborts
    simp [hu.1, hu.2]
  rw [hd]
  exact queueWritten_trans h1 (blocksResponded_queue (blocksResponded_trans (refreshReasons_blocks _)
    (blocksResponded_trans (evaluateDrive_blocks _) (blocksResponded_trans (defrostTest_blocks _)
      (blocksResponded_trans (doorTest_blocks _) (framesQueued_blocks (queueStatus_framesQueued _)))))))

/-- The drain test: nothing, or entry to READY. -/
theorem drainTest_queue (s : State) : QueueWritten s (drainTest s) := by
  unfold drainTest
  split
  · next h =>
    have hm : s.mode = .draining := by simp at h; exact h.1
    unfold enterState
    have h1 : QueueWritten s { s with mode := .ready } :=
      ⟨rfl, .inr ⟨hm, rfl⟩, lineKept_refl rfl⟩
    have h2 := blocksResponded_queue (changePosture_blocks s.mode { s with mode := .ready })
    refine queueWritten_trans (queueWritten_trans h1 h2) (respondToState_queue _ _ ?_ ?_)
    · exact fun e => nomatch (congrArg State.mode (changePosture_blocks s.mode { s with mode := .ready }).1).symm.trans e
    · exact fun e => nomatch (congrArg State.mode (changePosture_blocks s.mode { s with mode := .ready }).1).symm.trans e
  · exact queueWritten_refl s

/-- A change of the zone queue or the arrivals list, handed on. -/
theorem zoneChanged_queue (c : Nat × Nat) (s : State) : QueueWritten s (zoneChanged c s) :=
  queueWritten_trans (queueChanged_queue c s) (drainTest_queue _)

theorem removeRecord_queue (t : Tag) (s : State) : QueueWritten s (removeRecord t s) := by
  refine queueWritten_trans ?_ (zoneChanged_queue _ _)
  exact ⟨rfl, .inl rfl, lineKept_refl rfl⟩

end Sys2Proof.Laws
end

