-- ==== Sys2Proof/Laws/State.lean ====
section
/-! SUPPORT. One lemma per field per update: what the shared updates of the state leave as it was. -/

namespace Sys2Proof.Laws

open Sys2Proof Sys2Proof.Machine

/-! ### settleOutputs -/

@[simp] theorem settleOutputs_mode (s : State) : (settleOutputs s).mode = s.mode := rfl
@[simp] theorem settleOutputs_station (s : State) : (settleOutputs s).station = s.station := rfl
@[simp] theorem settleOutputs_link (s : State) : (settleOutputs s).link = s.link := rfl
@[simp] theorem settleOutputs_peer (s : State) : (settleOutputs s).peer = s.peer := rfl
@[simp] theorem settleOutputs_tracking (s : State) : (settleOutputs s).tracking = s.tracking := rfl
@[simp] theorem settleOutputs_arrivals (s : State) : (settleOutputs s).arrivals = s.arrivals := rfl
@[simp] theorem settleOutputs_dose (s : State) : (settleOutputs s).dose = s.dose := rfl
@[simp] theorem settleOutputs_flow (s : State) : (settleOutputs s).flow = s.flow := rfl
@[simp] theorem settleOutputs_defrost (s : State) : (settleOutputs s).defrost = s.defrost := rfl
@[simp] theorem settleOutputs_packing (s : State) : (settleOutputs s).packing = s.packing := rfl
@[simp] theorem settleOutputs_counters (s : State) : (settleOutputs s).counters = s.counters := rfl
@[simp] theorem settleOutputs_faultIn (s : State) : (settleOutputs s).faultIn = s.faultIn := rfl
@[simp] theorem settleOutputs_encoder (s : State) : (settleOutputs s).encoder = s.encoder := rfl
@[simp] theorem settleOutputs_now (s : State) : (settleOutputs s).now = s.now := rfl
@[simp] theorem settleOutputs_orderDraws (s : State) : (settleOutputs s).orderDraws = s.orderDraws := rfl
@[simp] theorem settleOutputs_pending (s : State) : (settleOutputs s).pending = s.pending := rfl
@[simp] theorem settleOutputs_channels_tb0 (s : State) : (settleOutputs s).channels.tb0 = s.channels.tb0 := rfl
@[simp] theorem settleOutputs_channels_tb1 (s : State) : (settleOutputs s).channels.tb1 = s.channels.tb1 := rfl
@[simp] theorem settleOutputs_channels_belt (s : State) : (settleOutputs s).channels.belt = s.channels.belt := rfl
@[simp] theorem settleOutputs_items (s : State) : (settleOutputs s).items = s.items := rfl
@[simp] theorem settleOutputs_item (n : Nat) (s : State) : (settleOutputs s).item n = s.item n := rfl
@[simp] theorem settleOutputs_hasProfile (s : State) : (settleOutputs s).hasProfile = s.hasProfile := rfl
@[simp] theorem settleOutputs_hasRole (r : Role) (s : State) : (settleOutputs s).hasRole r = s.hasRole r := rfl
@[simp] theorem settleOutputs_isHead (s : State) : (settleOutputs s).isHead = s.isHead := rfl
@[simp] theorem settleOutputs_isTail (s : State) : (settleOutputs s).isTail = s.isTail := rfl
@[simp] theorem settleOutputs_unstoppable (s : State) : (settleOutputs s).unstoppable = s.unstoppable := rfl
@[simp] theorem settleOutputs_upstream (s : State) : (settleOutputs s).upstream = s.upstream := rfl
@[simp] theorem settleOutputs_downstream (s : State) : (settleOutputs s).downstream = s.downstream := rfl
@[simp] theorem settleOutputs_downstreamEntry (s : State) : (settleOutputs s).downstreamEntry = s.downstreamEntry :=
    rfl
@[simp] theorem settleOutputs_peerEntry (n : Nat) (s : State) : (settleOutputs s).peerEntry n = s.peerEntry n := rfl
@[simp] theorem settleOutputs_holding (s : State) : (settleOutputs s).holding = s.holding := rfl
@[simp] theorem settleOutputs_counts (s : State) : (settleOutputs s).counts = s.counts := rfl
@[simp] theorem settleOutputs_zoneHolds (t : Tag) (s : State) : (settleOutputs s).zoneHolds t = s.zoneHolds t := rfl
@[simp] theorem settleOutputs_arrivalsHold (t : Tag) (s : State) : (settleOutputs s).arrivalsHold t
    = s.arrivalsHold t := rfl
@[simp] theorem settleOutputs_findRecord (t : Tag) (s : State) : (settleOutputs s).findRecord t = s.findRecord t :=
    rfl
@[simp] theorem settleOutputs_channelRecord (n : Nat) (s : State) : (settleOutputs s).channelRecord n
    = s.channelRecord n := rfl

/-! ### settleLine -/

@[simp] theorem settleLine_mode (s : State) : (settleLine s).mode = s.mode := rfl
@[simp] theorem settleLine_station (s : State) : (settleLine s).station = s.station := rfl
@[simp] theorem settleLine_peer (s : State) : (settleLine s).peer = s.peer := rfl
@[simp] theorem settleLine_tracking (s : State) : (settleLine s).tracking = s.tracking := rfl
@[simp] theorem settleLine_arrivals (s : State) : (settleLine s).arrivals = s.arrivals := rfl
@[simp] theorem settleLine_dose (s : State) : (settleLine s).dose = s.dose := rfl
@[simp] theorem settleLine_flow (s : State) : (settleLine s).flow = s.flow := rfl
@[simp] theorem settleLine_defrost (s : State) : (settleLine s).defrost = s.defrost := rfl
@[simp] theorem settleLine_packing (s : State) : (settleLine s).packing = s.packing := rfl
@[simp] theorem settleLine_counters (s : State) : (settleLine s).counters = s.counters := rfl
@[simp] theorem settleLine_faultIn (s : State) : (settleLine s).faultIn = s.faultIn := rfl
@[simp] theorem settleLine_encoder (s : State) : (settleLine s).encoder = s.encoder := rfl
@[simp] theorem settleLine_now (s : State) : (settleLine s).now = s.now := rfl
@[simp] theorem settleLine_orderDraws (s : State) : (settleLine s).orderDraws = s.orderDraws := rfl
@[simp] theorem settleLine_pending (s : State) : (settleLine s).pending = s.pending := rfl
@[simp] theorem settleLine_channels_tb0 (s : State) : (settleLine s).channels.tb0 = s.channels.tb0 := rfl
@[simp] theorem settleLine_channels_tb1 (s : State) : (settleLine s).channels.tb1 = s.channels.tb1 := rfl
@[simp] theorem settleLine_channels_belt (s : State) : (settleLine s).channels.belt = s.channels.belt := rfl
@[simp] theorem settleLine_items (s : State) : (settleLine s).items = s.items := rfl
@[simp] theorem settleLine_item (n : Nat) (s : State) : (settleLine s).item n = s.item n := rfl
@[simp] theorem settleLine_hasProfile (s : State) : (settleLine s).hasProfile = s.hasProfile := rfl
@[simp] theorem settleLine_hasRole (r : Role) (s : State) : (settleLine s).hasRole r = s.hasRole r := rfl
@[simp] theorem settleLine_isHead (s : State) : (settleLine s).isHead = s.isHead := rfl
@[simp] theorem settleLine_isTail (s : State) : (settleLine s).isTail = s.isTail := rfl
@[simp] theorem settleLine_unstoppable (s : State) : (settleLine s).unstoppable = s.unstoppable := rfl
@[simp] theorem settleLine_upstream (s : State) : (settleLine s).upstream = s.upstream := rfl
@[simp] theorem settleLine_downstream (s : State) : (settleLine s).downstream = s.downstream := rfl
@[simp] theorem settleLine_downstreamEntry (s : State) : (settleLine s).downstreamEntry = s.downstreamEntry := rfl
@[simp] theorem settleLine_peerEntry (n : Nat) (s : State) : (settleLine s).peerEntry n = s.peerEntry n := rfl
@[simp] theorem settleLine_holding (s : State) : (settleLine s).holding = s.holding := rfl
@[simp] theorem settleLine_counts (s : State) : (settleLine s).counts = s.counts := rfl
@[simp] theorem settleLine_zoneHolds (t : Tag) (s : State) : (settleLine s).zoneHolds t = s.zoneHolds t := rfl
@[simp] theorem settleLine_arrivalsHold (t : Tag) (s : State) : (settleLine s).arrivalsHold t = s.arrivalsHold t := rfl
@[simp] theorem settleLine_findRecord (t : Tag) (s : State) : (settleLine s).findRecord t = s.findRecord t := rfl
@[simp] theorem settleLine_channelRecord (n : Nat) (s : State) : (settleLine s).channelRecord n
    = s.channelRecord n := rfl
@[simp] theorem settleLine_channels (s : State) : (settleLine s).channels = s.channels := rfl
theorem settleLine_link (s : State) :
    (settleLine s).link = if s.mode = .quiet then s.link else startIfIdle s.link := rfl

/-! ### settle -/

@[simp] theorem settle_mode (s : State) : (settle s).mode = s.mode := rfl
@[simp] theorem settle_station (s : State) : (settle s).station = s.station := rfl
@[simp] theorem settle_peer (s : State) : (settle s).peer = s.peer := rfl
@[simp] theorem settle_tracking (s : State) : (settle s).tracking = s.tracking := rfl
@[simp] theorem settle_arrivals (s : State) : (settle s).arrivals = s.arrivals := rfl
@[simp] theorem settle_dose (s : State) : (settle s).dose = s.dose := rfl
@[simp] theorem settle_flow (s : State) : (settle s).flow = s.flow := rfl
@[simp] theorem settle_defrost (s : State) : (settle s).defrost = s.defrost := rfl
@[simp] theorem settle_packing (s : State) : (settle s).packing = s.packing := rfl
@[simp] theorem settle_counters (s : State) : (settle s).counters = s.counters := rfl
@[simp] theorem settle_faultIn (s : State) : (settle s).faultIn = s.faultIn := rfl
@[simp] theorem settle_encoder (s : State) : (settle s).encoder = s.encoder := rfl
@[simp] theorem settle_now (s : State) : (settle s).now = s.now := rfl
@[simp] theorem settle_orderDraws (s : State) : (settle s).orderDraws = s.orderDraws := rfl
@[simp] theorem settle_pending (s : State) : (settle s).pending = s.pending := rfl
@[simp] theorem settle_channels_tb0 (s : State) : (settle s).channels.tb0 = s.channels.tb0 := rfl
@[simp] theorem settle_channels_tb1 (s : State) : (settle s).channels.tb1 = s.channels.tb1 := rfl
@[simp] theorem settle_channels_belt (s : State) : (settle s).channels.belt = s.channels.belt := rfl
@[simp] theorem settle_items (s : State) : (settle s).items = s.items := rfl
@[simp] theorem settle_item (n : Nat) (s : State) : (settle s).item n = s.item n := rfl
@[simp] theorem settle_hasProfile (s : State) : (settle s).hasProfile = s.hasProfile := rfl
@[simp] theorem settle_hasRole (r : Role) (s : State) : (settle s).hasRole r = s.hasRole r := rfl
@[simp] theorem settle_isHead (s : State) : (settle s).isHead = s.isHead := rfl
@[simp] theorem settle_isTail (s : State) : (settle s).isTail = s.isTail := rfl
@[simp] theorem settle_unstoppable (s : State) : (settle s).unstoppable = s.unstoppable := rfl
@[simp] theorem settle_upstream (s : State) : (settle s).upstream = s.upstream := rfl
@[simp] theorem settle_downstream (s : State) : (settle s).downstream = s.downstream := rfl
@[simp] theorem settle_downstreamEntry (s : State) : (settle s).downstreamEntry = s.downstreamEntry := rfl
@[simp] theorem settle_peerEntry (n : Nat) (s : State) : (settle s).peerEntry n = s.peerEntry n := rfl
@[simp] theorem settle_holding (s : State) : (settle s).holding = s.holding := rfl
@[simp] theorem settle_counts (s : State) : (settle s).counts = s.counts := rfl
@[simp] theorem settle_zoneHolds (t : Tag) (s : State) : (settle s).zoneHolds t = s.zoneHolds t := rfl
@[simp] theorem settle_arrivalsHold (t : Tag) (s : State) : (settle s).arrivalsHold t = s.arrivalsHold t := rfl
@[simp] theorem settle_findRecord (t : Tag) (s : State) : (settle s).findRecord t = s.findRecord t := rfl
@[simp] theorem settle_channelRecord (n : Nat) (s : State) : (settle s).channelRecord n = s.channelRecord n := rfl
theorem settle_link (s : State) : (settle s).link = if s.mode = .quiet then s.link else startIfIdle s.link := rfl

/-! ### startIfIdle -/

@[simp] theorem startIfIdle_rxq (l : Link) : (startIfIdle l).rxq = l.rxq := by
  unfold startIfIdle startHead; split <;> (try split) <;> rfl
@[simp] theorem startIfIdle_silencing (l : Link) : (startIfIdle l).silencing = l.silencing := by
  unfold startIfIdle startHead; split <;> (try split) <;> rfl
@[simp] theorem startIfIdle_ackDrive (l : Link) : (startIfIdle l).ackDrive = l.ackDrive := by
  unfold startIfIdle startHead; split <;> (try split) <;> rfl
/-- On a BUSY line nothing starts. -/
theorem startIfIdle_busy {l : Link} (h : l.line = .busy) : startIfIdle l = l := by simp [startIfIdle, h]
/-- With an empty queue nothing starts. -/
theorem startIfIdle_nil {l : Link} (h : l.txq = []) : startIfIdle l = l := by simp [startIfIdle, startHead, h]
@[simp] theorem settle_rxq (s : State) : (settle s).link.rxq = s.link.rxq := by
  rw [settle_link]; split <;> simp
@[simp] theorem settle_silencing (s : State) : (settle s).link.silencing = s.link.silencing := by
  rw [settle_link]; split <;> simp
@[simp] theorem settle_ackDrive (s : State) : (settle s).link.ackDrive = s.link.ackDrive := by
  rw [settle_link]; split <;> simp

/-! ### mapChannels -/

@[simp] theorem mapChannels_mode (f : Nat → Channel → Channel) (s : State) : (s.mapChannels f).mode = s.mode := rfl
@[simp] theorem mapChannels_station (f : Nat → Channel → Channel) (s : State) : (s.mapChannels f).station
    = s.station :=
    rfl
@[simp] theorem mapChannels_link (f : Nat → Channel → Channel) (s : State) : (s.mapChannels f).link = s.link := rfl
@[simp] theorem mapChannels_peer (f : Nat → Channel → Channel) (s : State) : (s.mapChannels f).peer = s.peer := rfl
@[simp] theorem mapChannels_tracking (f : Nat → Channel → Channel) (s : State) : (s.mapChannels f).tracking
    = s.tracking := rfl
@[simp] theorem mapChannels_arrivals (f : Nat → Channel → Channel) (s : State) : (s.mapChannels f).arrivals
    = s.arrivals := rfl
@[simp] theorem mapChannels_dose (f : Nat → Channel → Channel) (s : State) : (s.mapChannels f).dose = s.dose := rfl
@[simp] theorem mapChannels_flow (f : Nat → Channel → Channel) (s : State) : (s.mapChannels f).flow = s.flow := rfl
@[simp] theorem mapChannels_defrost (f : Nat → Channel → Channel) (s : State) : (s.mapChannels f).defrost
    = s.defrost :=
    rfl
@[simp] theorem mapChannels_packing (f : Nat → Channel → Channel) (s : State) : (s.mapChannels f).packing
    = s.packing :=
    rfl
@[simp] theorem mapChannels_counters (f : Nat → Channel → Channel) (s : State) : (s.mapChannels f).counters
    = s.counters := rfl
@[simp] theorem mapChannels_faultIn (f : Nat → Channel → Channel) (s : State) : (s.mapChannels f).faultIn
    = s.faultIn :=
    rfl
@[simp] theorem mapChannels_encoder (f : Nat → Channel → Channel) (s : State) : (s.mapChannels f).encoder
    = s.encoder :=
    rfl
@[simp] theorem mapChannels_now (f : Nat → Channel → Channel) (s : State) : (s.mapChannels f).now = s.now := rfl
@[simp] theorem mapChannels_orderDraws (f : Nat → Channel → Channel) (s : State) :
    (s.mapChannels f).orderDraws = s.orderDraws := rfl
@[simp] theorem mapChannels_pending (f : Nat → Channel → Channel) (s : State) : (s.mapChannels f).pending
    = s.pending :=
    rfl
@[simp] theorem mapChannels_channels_tb0 (f : Nat → Channel → Channel) (s : State) :
    (s.mapChannels f).channels.tb0 = s.channels.tb0 := rfl
@[simp] theorem mapChannels_channels_tb1 (f : Nat → Channel → Channel) (s : State) :
    (s.mapChannels f).channels.tb1 = s.channels.tb1 := rfl
@[simp] theorem mapChannels_channels_belt (f : Nat → Channel → Channel) (s : State) :
    (s.mapChannels f).channels.belt = s.channels.belt := rfl
@[simp] theorem mapChannels_items (f : Nat → Channel → Channel) (s : State) : (s.mapChannels f).items = s.items := rfl
@[simp] theorem mapChannels_item (f : Nat → Channel → Channel) (n : Nat) (s : State) :
    (s.mapChannels f).item n = s.item n := rfl
@[simp] theorem mapChannels_hasProfile (f : Nat → Channel → Channel) (s : State) :
    (s.mapChannels f).hasProfile = s.hasProfile := rfl
@[simp] theorem mapChannels_hasRole (f : Nat → Channel → Channel) (r : Role) (s : State) :
    (s.mapChannels f).hasRole r = s.hasRole r := rfl
@[simp] theorem mapChannels_isHead (f : Nat → Channel → Channel) (s : State) : (s.mapChannels f).isHead = s.isHead :=
    rfl
@[simp] theorem mapChannels_isTail (f : Nat → Channel → Channel) (s : State) : (s.mapChannels f).isTail = s.isTail :=
    rfl
@[simp] theorem mapChannels_unstoppable (f : Nat → Channel → Channel) (s : State) :
    (s.mapChannels f).unstoppable = s.unstoppable := rfl
@[simp] theorem mapChannels_upstream (f : Nat → Channel → Channel) (s : State) : (s.mapChannels f).upstream
    = s.upstream := rfl
@[simp] theorem mapChannels_downstream (f : Nat → Channel → Channel) (s : State) :
    (s.mapChannels f).downstream = s.downstream := rfl
@[simp] theorem mapChannels_downstreamEntry (f : Nat → Channel → Channel) (s : State) :
    (s.mapChannels f).downstreamEntry = s.downstreamEntry := rfl
@[simp] theorem mapChannels_peerEntry (f : Nat → Channel → Channel) (n : Nat) (s : State) :
    (s.mapChannels f).peerEntry n = s.peerEntry n := rfl
@[simp] theorem mapChannels_holding (f : Nat → Channel → Channel) (s : State) : (s.mapChannels f).holding
    = s.holding :=
    rfl
@[simp] theorem mapChannels_counts (f : Nat → Channel → Channel) (s : State) : (s.mapChannels f).counts = s.counts :=
    rfl
@[simp] theorem mapChannels_zoneHolds (f : Nat → Channel → Channel) (t : Tag) (s : State) :
    (s.mapChannels f).zoneHolds t = s.zoneHolds t := rfl
@[simp] theorem mapChannels_arrivalsHold (f : Nat → Channel → Channel) (t : Tag) (s : State) :
    (s.mapChannels f).arrivalsHold t = s.arrivalsHold t := rfl
@[simp] theorem mapChannels_findRecord (f : Nat → Channel → Channel) (t : Tag) (s : State) :
    (s.mapChannels f).findRecord t = s.findRecord t := rfl
@[simp] theorem mapChannels_channelRecord (f : Nat → Channel → Channel) (n : Nat) (s : State) :
    (s.mapChannels f).channelRecord n = s.channelRecord n := rfl

/-! ### count -/

@[simp] theorem count_mode (c : CounterName) (s : State) : (count c s).mode = s.mode := rfl
@[simp] theorem count_station (c : CounterName) (s : State) : (count c s).station = s.station := rfl
@[simp] theorem count_link (c : CounterName) (s : State) : (count c s).link = s.link := rfl
@[simp] theorem count_peer (c : CounterName) (s : State) : (count c s).peer = s.peer := rfl
@[simp] theorem count_tracking (c : CounterName) (s : State) : (count c s).tracking = s.tracking := rfl
@[simp] theorem count_arrivals (c : CounterName) (s : State) : (count c s).arrivals = s.arrivals := rfl
@[simp] theorem count_dose (c : CounterName) (s : State) : (count c s).dose = s.dose := rfl
@[simp] theorem count_flow (c : CounterName) (s : State) : (count c s).flow = s.flow := rfl
@[simp] theorem count_defrost (c : CounterName) (s : State) : (count c s).defrost = s.defrost := rfl
@[simp] theorem count_channels (c : CounterName) (s : State) : (count c s).channels = s.channels := rfl
@[simp] theorem count_packing (c : CounterName) (s : State) : (count c s).packing = s.packing := rfl
@[simp] theorem count_faultIn (c : CounterName) (s : State) : (count c s).faultIn = s.faultIn := rfl
@[simp] theorem count_encoder (c : CounterName) (s : State) : (count c s).encoder = s.encoder := rfl
@[simp] theorem count_now (c : CounterName) (s : State) : (count c s).now = s.now := rfl
@[simp] theorem count_orderDraws (c : CounterName) (s : State) : (count c s).orderDraws = s.orderDraws := rfl
@[simp] theorem count_pending (c : CounterName) (s : State) : (count c s).pending = s.pending := rfl
@[simp] theorem count_items (c : CounterName) (s : State) : (count c s).items = s.items := rfl
@[simp] theorem count_item (c : CounterName) (n : Nat) (s : State) : (count c s).item n = s.item n := rfl
@[simp] theorem count_hasProfile (c : CounterName) (s : State) : (count c s).hasProfile = s.hasProfile := rfl
@[simp] theorem count_hasRole (c : CounterName) (r : Role) (s : State) : (count c s).hasRole r = s.hasRole r := rfl
@[simp] theorem count_isHead (c : CounterName) (s : State) : (count c s).isHead = s.isHead := rfl
@[simp] theorem count_isTail (c : CounterName) (s : State) : (count c s).isTail = s.isTail := rfl
@[simp] theorem count_unstoppable (c : CounterName) (s : State) : (count c s).unstoppable = s.unstoppable := rfl
@[simp] theorem count_upstream (c : CounterName) (s : State) : (count c s).upstream = s.upstream := rfl
@[simp] theorem count_downstream (c : CounterName) (s : State) : (count c s).downstream = s.downstream := rfl
@[simp] theorem count_downstreamEntry (c : CounterName) (s : State) : (count c s).downstreamEntry
    = s.downstreamEntry :=
    rfl
@[simp] theorem count_peerEntry (c : CounterName) (n : Nat) (s : State) : (count c s).peerEntry n = s.peerEntry n :=
    rfl
@[simp] theorem count_holding (c : CounterName) (s : State) : (count c s).holding = s.holding := rfl
@[simp] theorem count_counts (c : CounterName) (s : State) : (count c s).counts = s.counts := rfl
@[simp] theorem count_zoneHolds (c : CounterName) (t : Tag) (s : State) : (count c s).zoneHolds t = s.zoneHolds t :=
    rfl
@[simp] theorem count_arrivalsHold (c : CounterName) (t : Tag) (s : State) : (count c s).arrivalsHold t
    = s.arrivalsHold t := rfl
@[simp] theorem count_findRecord (c : CounterName) (t : Tag) (s : State) : (count c s).findRecord t
    = s.findRecord t :=
    rfl
@[simp] theorem count_channelRecord (c : CounterName) (n : Nat) (s : State) : (count c s).channelRecord n
    = s.channelRecord n := rfl

/-! ### driveOn -/

@[simp] theorem driveOn_mode (s : State) : (driveOn s).mode = s.mode := rfl
@[simp] theorem driveOn_station (s : State) : (driveOn s).station = s.station := rfl
@[simp] theorem driveOn_link (s : State) : (driveOn s).link = s.link := rfl
@[simp] theorem driveOn_peer (s : State) : (driveOn s).peer = s.peer := rfl
@[simp] theorem driveOn_tracking (s : State) : (driveOn s).tracking = s.tracking := rfl
@[simp] theorem driveOn_arrivals (s : State) : (driveOn s).arrivals = s.arrivals := rfl
@[simp] theorem driveOn_dose (s : State) : (driveOn s).dose = s.dose := rfl
@[simp] theorem driveOn_defrost (s : State) : (driveOn s).defrost = s.defrost := rfl
@[simp] theorem driveOn_channels (s : State) : (driveOn s).channels = s.channels := rfl
@[simp] theorem driveOn_packing (s : State) : (driveOn s).packing = s.packing := rfl
@[simp] theorem driveOn_counters (s : State) : (driveOn s).counters = s.counters := rfl
@[simp] theorem driveOn_faultIn (s : State) : (driveOn s).faultIn = s.faultIn := rfl
@[simp] theorem driveOn_encoder (s : State) : (driveOn s).encoder = s.encoder := rfl
@[simp] theorem driveOn_now (s : State) : (driveOn s).now = s.now := rfl
@[simp] theorem driveOn_orderDraws (s : State) : (driveOn s).orderDraws = s.orderDraws := rfl
@[simp] theorem driveOn_pending (s : State) : (driveOn s).pending = s.pending := rfl
@[simp] theorem driveOn_flow_reasons (s : State) : (driveOn s).flow.reasons = s.flow.reasons := rfl
@[simp] theorem driveOn_flow_driveLimiter (s : State) : (driveOn s).flow.driveLimiter = s.flow.driveLimiter := rfl
@[simp] theorem driveOn_flow_doorLimiter (s : State) : (driveOn s).flow.doorLimiter = s.flow.doorLimiter := rfl
@[simp] theorem driveOn_flow_duty (s : State) : (driveOn s).flow.duty = s.flow.duty := rfl
@[simp] theorem driveOn_flow_throttleCount (s : State) : (driveOn s).flow.throttleCount = s.flow.throttleCount := rfl
@[simp] theorem driveOn_flow_gapRun (s : State) : (driveOn s).flow.gapRun = s.flow.gapRun := rfl
@[simp] theorem driveOn_flow_loadInput (s : State) : (driveOn s).flow.loadInput = s.flow.loadInput := rfl
@[simp] theorem driveOn_flow_loadFilter (s : State) : (driveOn s).flow.loadFilter = s.flow.loadFilter := rfl
@[simp] theorem driveOn_flow_loadHigh (s : State) : (driveOn s).flow.loadHigh = s.flow.loadHigh := rfl
@[simp] theorem driveOn_items (s : State) : (driveOn s).items = s.items := rfl
@[simp] theorem driveOn_item (n : Nat) (s : State) : (driveOn s).item n = s.item n := rfl
@[simp] theorem driveOn_hasProfile (s : State) : (driveOn s).hasProfile = s.hasProfile := rfl
@[simp] theorem driveOn_hasRole (r : Role) (s : State) : (driveOn s).hasRole r = s.hasRole r := rfl
@[simp] theorem driveOn_isHead (s : State) : (driveOn s).isHead = s.isHead := rfl
@[simp] theorem driveOn_isTail (s : State) : (driveOn s).isTail = s.isTail := rfl
@[simp] theorem driveOn_unstoppable (s : State) : (driveOn s).unstoppable = s.unstoppable := rfl
@[simp] theorem driveOn_upstream (s : State) : (driveOn s).upstream = s.upstream := rfl
@[simp] theorem driveOn_downstream (s : State) : (driveOn s).downstream = s.downstream := rfl
@[simp] theorem driveOn_downstreamEntry (s : State) : (driveOn s).downstreamEntry = s.downstreamEntry := rfl
@[simp] theorem driveOn_peerEntry (n : Nat) (s : State) : (driveOn s).peerEntry n = s.peerEntry n := rfl
@[simp] theorem driveOn_counts (s : State) : (driveOn s).counts = s.counts := rfl
@[simp] theorem driveOn_zoneHolds (t : Tag) (s : State) : (driveOn s).zoneHolds t = s.zoneHolds t := rfl
@[simp] theorem driveOn_arrivalsHold (t : Tag) (s : State) : (driveOn s).arrivalsHold t = s.arrivalsHold t := rfl
@[simp] theorem driveOn_findRecord (t : Tag) (s : State) : (driveOn s).findRecord t = s.findRecord t := rfl
@[simp] theorem driveOn_channelRecord (n : Nat) (s : State) : (driveOn s).channelRecord n = s.channelRecord n := rfl

/-! ### setHandover -/

@[simp] theorem setHandover_mode (t : Tag) (h : HandoverState) (n : Nat) (s : State) :
    (setHandover t h n s).mode = s.mode := rfl
@[simp] theorem setHandover_station (t : Tag) (h : HandoverState) (n : Nat) (s : State) :
    (setHandover t h n s).station = s.station := rfl
@[simp] theorem setHandover_link (t : Tag) (h : HandoverState) (n : Nat) (s : State) :
    (setHandover t h n s).link = s.link := rfl
@[simp] theorem setHandover_peer (t : Tag) (h : HandoverState) (n : Nat) (s : State) :
    (setHandover t h n s).peer = s.peer := rfl
@[simp] theorem setHandover_arrivals (t : Tag) (h : HandoverState) (n : Nat) (s : State) :
    (setHandover t h n s).arrivals = s.arrivals := rfl
@[simp] theorem setHandover_dose (t : Tag) (h : HandoverState) (n : Nat) (s : State) :
    (setHandover t h n s).dose = s.dose := rfl
@[simp] theorem setHandover_flow (t : Tag) (h : HandoverState) (n : Nat) (s : State) :
    (setHandover t h n s).flow = s.flow := rfl
@[simp] theorem setHandover_defrost (t : Tag) (h : HandoverState) (n : Nat) (s : State) :
    (setHandover t h n s).defrost = s.defrost := rfl
@[simp] theorem setHandover_channels (t : Tag) (h : HandoverState) (n : Nat) (s : State) :
    (setHandover t h n s).channels = s.channels := rfl
@[simp] theorem setHandover_packing (t : Tag) (h : HandoverState) (n : Nat) (s : State) :
    (setHandover t h n s).packing = s.packing := rfl
@[simp] theorem setHandover_counters (t : Tag) (h : HandoverState) (n : Nat) (s : State) :
    (setHandover t h n s).counters = s.counters := rfl
@[simp] theorem setHandover_faultIn (t : Tag) (h : HandoverState) (n : Nat) (s : State) :
    (setHandover t h n s).faultIn = s.faultIn := rfl
@[simp] theorem setHandover_encoder (t : Tag) (h : HandoverState) (n : Nat) (s : State) :
    (setHandover t h n s).encoder = s.encoder := rfl
@[simp] theorem setHandover_now (t : Tag) (h : HandoverState) (n : Nat) (s : State) :
    (setHandover t h n s).now = s.now := rfl
@[simp] theorem setHandover_orderDraws (t : Tag) (h : HandoverState) (n : Nat) (s : State) :
    (setHandover t h n s).orderDraws = s.orderDraws := rfl
@[simp] theorem setHandover_pending (t : Tag) (h : HandoverState) (n : Nat) (s : State) :
    (setHandover t h n s).pending = s.pending := rfl
@[simp] theorem setHandover_tracking_mergeBound (t : Tag) (h : HandoverState) (n : Nat) (s : State) :
    (setHandover t h n s).tracking.mergeBound = s.tracking.mergeBound := rfl
@[simp] theorem setHandover_tracking_offRun (t : Tag) (h : HandoverState) (n : Nat) (s : State) :
    (setHandover t h n s).tracking.offRun = s.tracking.offRun := rfl
@[simp] theorem setHandover_tracking_reverseDebt (t : Tag) (h : HandoverState) (n : Nat) (s : State) :
    (setHandover t h n s).tracking.reverseDebt = s.tracking.reverseDebt := rfl
@[simp] theorem setHandover_tracking_tagSeq (t : Tag) (h : HandoverState) (n : Nat) (s : State) :
    (setHandover t h n s).tracking.tagSeq = s.tracking.tagSeq := rfl
@[simp] theorem setHandover_tracking_currentLot (t : Tag) (h : HandoverState) (n : Nat) (s : State) :
    (setHandover t h n s).tracking.currentLot = s.tracking.currentLot := rfl
@[simp] theorem setHandover_items (t : Tag) (h : HandoverState) (n : Nat) (s : State) :
    (setHandover t h n s).items = s.items := rfl
@[simp] theorem setHandover_item (t : Tag) (h : HandoverState) (n : Nat) (xn : Nat) (s : State) :
    (setHandover t h n s).item xn = s.item xn := rfl
@[simp] theorem setHandover_hasProfile (t : Tag) (h : HandoverState) (n : Nat) (s : State) :
    (setHandover t h n s).hasProfile = s.hasProfile := rfl
@[simp] theorem setHandover_hasRole (t : Tag) (h : HandoverState) (n : Nat) (r : Role) (s : State) :
    (setHandover t h n s).hasRole r = s.hasRole r := rfl
@[simp] theorem setHandover_isHead (t : Tag) (h : HandoverState) (n : Nat) (s : State) :
    (setHandover t h n s).isHead = s.isHead := rfl
@[simp] theorem setHandover_isTail (t : Tag) (h : HandoverState) (n : Nat) (s : State) :
    (setHandover t h n s).isTail = s.isTail := rfl
@[simp] theorem setHandover_unstoppable (t : Tag) (h : HandoverState) (n : Nat) (s : State) :
    (setHandover t h n s).unstoppable = s.unstoppable := rfl
@[simp] theorem setHandover_upstream (t : Tag) (h : HandoverState) (n : Nat) (s : State) :
    (setHandover t h n s).upstream = s.upstream := rfl
@[simp] theorem setHandover_downstream (t : Tag) (h : HandoverState) (n : Nat) (s : State) :
    (setHandover t h n s).downstream = s.downstream := rfl
@[simp] theorem setHandover_downstreamEntry (t : Tag) (h : HandoverState) (n : Nat) (s : State) :
    (setHandover t h n s).downstreamEntry = s.downstreamEntry := rfl
@[simp] theorem setHandover_peerEntry (t : Tag) (h : HandoverState) (n : Nat) (xn : Nat) (s : State) :
    (setHandover t h n s).peerEntry xn = s.peerEntry xn := rfl
@[simp] theorem setHandover_holding (t : Tag) (h : HandoverState) (n : Nat) (s : State) :
    (setHandover t h n s).holding = s.holding := rfl
@[simp] theorem setHandover_arrivalsHold (t : Tag) (h : HandoverState) (n : Nat) (xt : Tag) (s : State) :
    (setHandover t h n s).arrivalsHold xt = s.arrivalsHold xt := rfl
@[simp] theorem setHandover_channelRecord (t : Tag) (h : HandoverState) (n : Nat) (xn : Nat) (s : State) :
    (setHandover t h n s).channelRecord xn = s.channelRecord xn := rfl

/-! ### dropRecord -/

@[simp] theorem dropRecord_mode (t : Tag) (s : State) : (dropRecord t s).mode = s.mode := rfl
@[simp] theorem dropRecord_station (t : Tag) (s : State) : (dropRecord t s).station = s.station := rfl
@[simp] theorem dropRecord_link (t : Tag) (s : State) : (dropRecord t s).link = s.link := rfl
@[simp] theorem dropRecord_peer (t : Tag) (s : State) : (dropRecord t s).peer = s.peer := rfl
@[simp] theorem dropRecord_arrivals (t : Tag) (s : State) : (dropRecord t s).arrivals = s.arrivals := rfl
@[simp] theorem dropRecord_dose (t : Tag) (s : State) : (dropRecord t s).dose = s.dose := rfl
@[simp] theorem dropRecord_flow (t : Tag) (s : State) : (dropRecord t s).flow = s.flow := rfl
@[simp] theorem dropRecord_defrost (t : Tag) (s : State) : (dropRecord t s).defrost = s.defrost := rfl
@[simp] theorem dropRecord_channels (t : Tag) (s : State) : (dropRecord t s).channels = s.channels := rfl
@[simp] theorem dropRecord_packing (t : Tag) (s : State) : (dropRecord t s).packing = s.packing := rfl
@[simp] theorem dropRecord_counters (t : Tag) (s : State) : (dropRecord t s).counters = s.counters := rfl
@[simp] theorem dropRecord_faultIn (t : Tag) (s : State) : (dropRecord t s).faultIn = s.faultIn := rfl
@[simp] theorem dropRecord_encoder (t : Tag) (s : State) : (dropRecord t s).encoder = s.encoder := rfl
@[simp] theorem dropRecord_now (t : Tag) (s : State) : (dropRecord t s).now = s.now := rfl
@[simp] theorem dropRecord_orderDraws (t : Tag) (s : State) : (dropRecord t s).orderDraws = s.orderDraws := rfl
@[simp] theorem dropRecord_pending (t : Tag) (s : State) : (dropRecord t s).pending = s.pending := rfl
@[simp] theorem dropRecord_tracking_mergeBound (t : Tag) (s : State) : (dropRecord t s).tracking.mergeBound
    = s.tracking.mergeBound := rfl
@[simp] theorem dropRecord_tracking_offRun (t : Tag) (s : State) : (dropRecord t s).tracking.offRun
    = s.tracking.offRun := rfl
@[simp] theorem dropRecord_tracking_reverseDebt (t : Tag) (s : State) : (dropRecord t s).tracking.reverseDebt
    = s.tracking.reverseDebt := rfl
@[simp] theorem dropRecord_tracking_tagSeq (t : Tag) (s : State) : (dropRecord t s).tracking.tagSeq
    = s.tracking.tagSeq := rfl
@[simp] theorem dropRecord_tracking_currentLot (t : Tag) (s : State) : (dropRecord t s).tracking.currentLot
    = s.tracking.currentLot := rfl
@[simp] theorem dropRecord_items (t : Tag) (s : State) : (dropRecord t s).items = s.items := rfl
@[simp] theorem dropRecord_item (t : Tag) (n : Nat) (s : State) : (dropRecord t s).item n = s.item n := rfl
@[simp] theorem dropRecord_hasProfile (t : Tag) (s : State) : (dropRecord t s).hasProfile = s.hasProfile := rfl
@[simp] theorem dropRecord_hasRole (t : Tag) (r : Role) (s : State) : (dropRecord t s).hasRole r = s.hasRole r := rfl
@[simp] theorem dropRecord_isHead (t : Tag) (s : State) : (dropRecord t s).isHead = s.isHead := rfl
@[simp] theorem dropRecord_isTail (t : Tag) (s : State) : (dropRecord t s).isTail = s.isTail := rfl
@[simp] theorem dropRecord_unstoppable (t : Tag) (s : State) : (dropRecord t s).unstoppable = s.unstoppable := rfl
@[simp] theorem dropRecord_upstream (t : Tag) (s : State) : (dropRecord t s).upstream = s.upstream := rfl
@[simp] theorem dropRecord_downstream (t : Tag) (s : State) : (dropRecord t s).downstream = s.downstream := rfl
@[simp] theorem dropRecord_downstreamEntry (t : Tag) (s : State) : (dropRecord t s).downstreamEntry
    = s.downstreamEntry := rfl
@[simp] theorem dropRecord_peerEntry (t : Tag) (n : Nat) (s : State) : (dropRecord t s).peerEntry n = s.peerEntry n :=
    rfl
@[simp] theorem dropRecord_holding (t : Tag) (s : State) : (dropRecord t s).holding = s.holding := rfl
@[simp] theorem dropRecord_arrivalsHold (t : Tag) (xt : Tag) (s : State) : (dropRecord t s).arrivalsHold xt
    = s.arrivalsHold xt := rfl
@[simp] theorem dropRecord_channelRecord (t : Tag) (n : Nat) (s : State) : (dropRecord t s).channelRecord n
    = s.channelRecord n := rfl

/-! ### dropArrival -/

@[simp] theorem dropArrival_mode (t : Tag) (s : State) : (dropArrival t s).mode = s.mode := rfl
@[simp] theorem dropArrival_station (t : Tag) (s : State) : (dropArrival t s).station = s.station := rfl
@[simp] theorem dropArrival_link (t : Tag) (s : State) : (dropArrival t s).link = s.link := rfl
@[simp] theorem dropArrival_peer (t : Tag) (s : State) : (dropArrival t s).peer = s.peer := rfl
@[simp] theorem dropArrival_tracking (t : Tag) (s : State) : (dropArrival t s).tracking = s.tracking := rfl
@[simp] theorem dropArrival_dose (t : Tag) (s : State) : (dropArrival t s).dose = s.dose := rfl
@[simp] theorem dropArrival_flow (t : Tag) (s : State) : (dropArrival t s).flow = s.flow := rfl
@[simp] theorem dropArrival_defrost (t : Tag) (s : State) : (dropArrival t s).defrost = s.defrost := rfl
@[simp] theorem dropArrival_channels (t : Tag) (s : State) : (dropArrival t s).channels = s.channels := rfl
@[simp] theorem dropArrival_packing (t : Tag) (s : State) : (dropArrival t s).packing = s.packing := rfl
@[simp] theorem dropArrival_counters (t : Tag) (s : State) : (dropArrival t s).counters = s.counters := rfl
@[simp] theorem dropArrival_faultIn (t : Tag) (s : State) : (dropArrival t s).faultIn = s.faultIn := rfl
@[simp] theorem dropArrival_encoder (t : Tag) (s : State) : (dropArrival t s).encoder = s.encoder := rfl
@[simp] theorem dropArrival_now (t : Tag) (s : State) : (dropArrival t s).now = s.now := rfl
@[simp] theorem dropArrival_orderDraws (t : Tag) (s : State) : (dropArrival t s).orderDraws = s.orderDraws := rfl
@[simp] theorem dropArrival_pending (t : Tag) (s : State) : (dropArrival t s).pending = s.pending := rfl
@[simp] theorem dropArrival_items (t : Tag) (s : State) : (dropArrival t s).items = s.items := rfl
@[simp] theorem dropArrival_item (t : Tag) (n : Nat) (s : State) : (dropArrival t s).item n = s.item n := rfl
@[simp] theorem dropArrival_hasProfile (t : Tag) (s : State) : (dropArrival t s).hasProfile = s.hasProfile := rfl
@[simp] theorem dropArrival_hasRole (t : Tag) (r : Role) (s : State) : (dropArrival t s).hasRole r = s.hasRole r :=
    rfl
@[simp] theorem dropArrival_isHead (t : Tag) (s : State) : (dropArrival t s).isHead = s.isHead := rfl
@[simp] theorem dropArrival_isTail (t : Tag) (s : State) : (dropArrival t s).isTail = s.isTail := rfl
@[simp] theorem dropArrival_unstoppable (t : Tag) (s : State) : (dropArrival t s).unstoppable = s.unstoppable := rfl
@[simp] theorem dropArrival_upstream (t : Tag) (s : State) : (dropArrival t s).upstream = s.upstream := rfl
@[simp] theorem dropArrival_downstream (t : Tag) (s : State) : (dropArrival t s).downstream = s.downstream := rfl
@[simp] theorem dropArrival_downstreamEntry (t : Tag) (s : State) : (dropArrival t s).downstreamEntry
    = s.downstreamEntry := rfl
@[simp] theorem dropArrival_peerEntry (t : Tag) (n : Nat) (s : State) : (dropArrival t s).peerEntry n
    = s.peerEntry n :=
    rfl
@[simp] theorem dropArrival_holding (t : Tag) (s : State) : (dropArrival t s).holding = s.holding := rfl
@[simp] theorem dropArrival_zoneHolds (t : Tag) (xt : Tag) (s : State) : (dropArrival t s).zoneHolds xt
    = s.zoneHolds xt := rfl
@[simp] theorem dropArrival_findRecord (t : Tag) (xt : Tag) (s : State) : (dropArrival t s).findRecord xt
    = s.findRecord xt := rfl
@[simp] theorem dropArrival_channelRecord (t : Tag) (n : Nat) (s : State) : (dropArrival t s).channelRecord n
    = s.channelRecord n := rfl

/-! ### addArrival -/

@[simp] theorem addArrival_mode (b : Bool) (m : UnitImage) (s : State) : (addArrival b m s).mode = s.mode := rfl
@[simp] theorem addArrival_station (b : Bool) (m : UnitImage) (s : State) : (addArrival b m s).station = s.station :=
    rfl
@[simp] theorem addArrival_link (b : Bool) (m : UnitImage) (s : State) : (addArrival b m s).link = s.link := rfl
@[simp] theorem addArrival_peer (b : Bool) (m : UnitImage) (s : State) : (addArrival b m s).peer = s.peer := rfl
@[simp] theorem addArrival_tracking (b : Bool) (m : UnitImage) (s : State) : (addArrival b m s).tracking
    = s.tracking :=
    rfl
@[simp] theorem addArrival_dose (b : Bool) (m : UnitImage) (s : State) : (addArrival b m s).dose = s.dose := rfl
@[simp] theorem addArrival_flow (b : Bool) (m : UnitImage) (s : State) : (addArrival b m s).flow = s.flow := rfl
@[simp] theorem addArrival_defrost (b : Bool) (m : UnitImage) (s : State) : (addArrival b m s).defrost = s.defrost :=
    rfl
@[simp] theorem addArrival_channels (b : Bool) (m : UnitImage) (s : State) : (addArrival b m s).channels
    = s.channels :=
    rfl
@[simp] theorem addArrival_packing (b : Bool) (m : UnitImage) (s : State) : (addArrival b m s).packing = s.packing :=
    rfl
@[simp] theorem addArrival_counters (b : Bool) (m : UnitImage) (s : State) : (addArrival b m s).counters
    = s.counters :=
    rfl
@[simp] theorem addArrival_faultIn (b : Bool) (m : UnitImage) (s : State) : (addArrival b m s).faultIn = s.faultIn :=
    rfl
@[simp] theorem addArrival_encoder (b : Bool) (m : UnitImage) (s : State) : (addArrival b m s).encoder = s.encoder :=
    rfl
@[simp] theorem addArrival_now (b : Bool) (m : UnitImage) (s : State) : (addArrival b m s).now = s.now := rfl
@[simp] theorem addArrival_orderDraws (b : Bool) (m : UnitImage) (s : State) : (addArrival b m s).orderDraws
    = s.orderDraws := rfl
@[simp] theorem addArrival_pending (b : Bool) (m : UnitImage) (s : State) : (addArrival b m s).pending = s.pending :=
    rfl
@[simp] theorem addArrival_items (b : Bool) (m : UnitImage) (s : State) : (addArrival b m s).items = s.items := rfl
@[simp] theorem addArrival_item (b : Bool) (m : UnitImage) (n : Nat) (s : State) : (addArrival b m s).item n
    = s.item n := rfl
@[simp] theorem addArrival_hasProfile (b : Bool) (m : UnitImage) (s : State) : (addArrival b m s).hasProfile
    = s.hasProfile := rfl
@[simp] theorem addArrival_hasRole (b : Bool) (m : UnitImage) (r : Role) (s : State) :
    (addArrival b m s).hasRole r = s.hasRole r := rfl
@[simp] theorem addArrival_isHead (b : Bool) (m : UnitImage) (s : State) : (addArrival b m s).isHead = s.isHead := rfl
@[simp] theorem addArrival_isTail (b : Bool) (m : UnitImage) (s : State) : (addArrival b m s).isTail = s.isTail := rfl
@[simp] theorem addArrival_unstoppable (b : Bool) (m : UnitImage) (s : State) :
    (addArrival b m s).unstoppable = s.unstoppable := rfl
@[simp] theorem addArrival_upstream (b : Bool) (m : UnitImage) (s : State) : (addArrival b m s).upstream
    = s.upstream :=
    rfl
@[simp] theorem addArrival_downstream (b : Bool) (m : UnitImage) (s : State) : (addArrival b m s).downstream
    = s.downstream := rfl
@[simp] theorem addArrival_downstreamEntry (b : Bool) (m : UnitImage) (s : State) :
    (addArrival b m s).downstreamEntry = s.downstreamEntry := rfl
@[simp] theorem addArrival_peerEntry (b : Bool) (m : UnitImage) (n : Nat) (s : State) :
    (addArrival b m s).peerEntry n = s.peerEntry n := rfl
@[simp] theorem addArrival_holding (b : Bool) (m : UnitImage) (s : State) : (addArrival b m s).holding = s.holding :=
    rfl
@[simp] theorem addArrival_zoneHolds (b : Bool) (m : UnitImage) (t : Tag) (s : State) :
    (addArrival b m s).zoneHolds t = s.zoneHolds t := rfl
@[simp] theorem addArrival_findRecord (b : Bool) (m : UnitImage) (t : Tag) (s : State) :
    (addArrival b m s).findRecord t = s.findRecord t := rfl
@[simp] theorem addArrival_channelRecord (b : Bool) (m : UnitImage) (n : Nat) (s : State) :
    (addArrival b m s).channelRecord n = s.channelRecord n := rfl

/-! ### setTxq -/

@[simp] theorem setTxq_mode (q : List TxEntry) (s : State) : (setTxq q s).mode = s.mode := rfl
@[simp] theorem setTxq_station (q : List TxEntry) (s : State) : (setTxq q s).station = s.station := rfl
@[simp] theorem setTxq_peer (q : List TxEntry) (s : State) : (setTxq q s).peer = s.peer := rfl
@[simp] theorem setTxq_tracking (q : List TxEntry) (s : State) : (setTxq q s).tracking = s.tracking := rfl
@[simp] theorem setTxq_arrivals (q : List TxEntry) (s : State) : (setTxq q s).arrivals = s.arrivals := rfl
@[simp] theorem setTxq_dose (q : List TxEntry) (s : State) : (setTxq q s).dose = s.dose := rfl
@[simp] theorem setTxq_flow (q : List TxEntry) (s : State) : (setTxq q s).flow = s.flow := rfl
@[simp] theorem setTxq_defrost (q : List TxEntry) (s : State) : (setTxq q s).defrost = s.defrost := rfl
@[simp] theorem setTxq_channels (q : List TxEntry) (s : State) : (setTxq q s).channels = s.channels := rfl
@[simp] theorem setTxq_packing (q : List TxEntry) (s : State) : (setTxq q s).packing = s.packing := rfl
@[simp] theorem setTxq_counters (q : List TxEntry) (s : State) : (setTxq q s).counters = s.counters := rfl
@[simp] theorem setTxq_faultIn (q : List TxEntry) (s : State) : (setTxq q s).faultIn = s.faultIn := rfl
@[simp] theorem setTxq_encoder (q : List TxEntry) (s : State) : (setTxq q s).encoder = s.encoder := rfl
@[simp] theorem setTxq_now (q : List TxEntry) (s : State) : (setTxq q s).now = s.now := rfl
@[simp] theorem setTxq_orderDraws (q : List TxEntry) (s : State) : (setTxq q s).orderDraws = s.orderDraws := rfl
@[simp] theorem setTxq_pending (q : List TxEntry) (s : State) : (setTxq q s).pending = s.pending := rfl
@[simp] theorem setTxq_link_rxq (q : List TxEntry) (s : State) : (setTxq q s).link.rxq = s.link.rxq := rfl
@[simp] theorem setTxq_link_line (q : List TxEntry) (s : State) : (setTxq q s).link.line = s.link.line := rfl
@[simp] theorem setTxq_link_silencing (q : List TxEntry) (s : State) : (setTxq q s).link.silencing
    = s.link.silencing :=
    rfl
@[simp] theorem setTxq_link_ackDrive (q : List TxEntry) (s : State) : (setTxq q s).link.ackDrive = s.link.ackDrive :=
    rfl
@[simp] theorem setTxq_items (q : List TxEntry) (s : State) : (setTxq q s).items = s.items := rfl
@[simp] theorem setTxq_item (q : List TxEntry) (n : Nat) (s : State) : (setTxq q s).item n = s.item n := rfl
@[simp] theorem setTxq_hasProfile (q : List TxEntry) (s : State) : (setTxq q s).hasProfile = s.hasProfile := rfl
@[simp] theorem setTxq_hasRole (q : List TxEntry) (r : Role) (s : State) : (setTxq q s).hasRole r = s.hasRole r := rfl
@[simp] theorem setTxq_isHead (q : List TxEntry) (s : State) : (setTxq q s).isHead = s.isHead := rfl
@[simp] theorem setTxq_isTail (q : List TxEntry) (s : State) : (setTxq q s).isTail = s.isTail := rfl
@[simp] theorem setTxq_unstoppable (q : List TxEntry) (s : State) : (setTxq q s).unstoppable = s.unstoppable := rfl
@[simp] theorem setTxq_upstream (q : List TxEntry) (s : State) : (setTxq q s).upstream = s.upstream := rfl
@[simp] theorem setTxq_downstream (q : List TxEntry) (s : State) : (setTxq q s).downstream = s.downstream := rfl
@[simp] theorem setTxq_downstreamEntry (q : List TxEntry) (s : State) : (setTxq q s).downstreamEntry
    = s.downstreamEntry := rfl
@[simp] theorem setTxq_peerEntry (q : List TxEntry) (n : Nat) (s : State) : (setTxq q s).peerEntry n
    = s.peerEntry n :=
    rfl
@[simp] theorem setTxq_holding (q : List TxEntry) (s : State) : (setTxq q s).holding = s.holding := rfl
@[simp] theorem setTxq_counts (q : List TxEntry) (s : State) : (setTxq q s).counts = s.counts := rfl
@[simp] theorem setTxq_zoneHolds (q : List TxEntry) (t : Tag) (s : State) : (setTxq q s).zoneHolds t
    = s.zoneHolds t :=
    rfl
@[simp] theorem setTxq_arrivalsHold (q : List TxEntry) (t : Tag) (s : State) : (setTxq q s).arrivalsHold t
    = s.arrivalsHold t := rfl
@[simp] theorem setTxq_findRecord (q : List TxEntry) (t : Tag) (s : State) : (setTxq q s).findRecord t
    = s.findRecord t := rfl
@[simp] theorem setTxq_channelRecord (q : List TxEntry) (n : Nat) (s : State) : (setTxq q s).channelRecord n
    = s.channelRecord n := rfl

/-! ### setPeerEntry -/

@[simp] theorem setPeerEntry_mode (n : Nat) (e : PeerEntry) (s : State) : (s.setPeerEntry n e).mode = s.mode :=
    by unfold State.setPeerEntry; split <;> rfl
@[simp] theorem setPeerEntry_station (n : Nat) (e : PeerEntry) (s : State) : (s.setPeerEntry n e).station
    = s.station :=
    by unfold State.setPeerEntry; split <;> rfl
@[simp] theorem setPeerEntry_link (n : Nat) (e : PeerEntry) (s : State) : (s.setPeerEntry n e).link = s.link :=
    by unfold State.setPeerEntry; split <;> rfl
@[simp] theorem setPeerEntry_tracking (n : Nat) (e : PeerEntry) (s : State) : (s.setPeerEntry n e).tracking
    = s.tracking := by unfold State.setPeerEntry; split <;> rfl
@[simp] theorem setPeerEntry_arrivals (n : Nat) (e : PeerEntry) (s : State) : (s.setPeerEntry n e).arrivals
    = s.arrivals := by unfold State.setPeerEntry; split <;> rfl
@[simp] theorem setPeerEntry_dose (n : Nat) (e : PeerEntry) (s : State) : (s.setPeerEntry n e).dose = s.dose :=
    by unfold State.setPeerEntry; split <;> rfl
@[simp] theorem setPeerEntry_flow (n : Nat) (e : PeerEntry) (s : State) : (s.setPeerEntry n e).flow = s.flow :=
    by unfold State.setPeerEntry; split <;> rfl
@[simp] theorem setPeerEntry_defrost (n : Nat) (e : PeerEntry) (s : State) : (s.setPeerEntry n e).defrost
    = s.defrost :=
    by unfold State.setPeerEntry; split <;> rfl
@[simp] theorem setPeerEntry_channels (n : Nat) (e : PeerEntry) (s : State) : (s.setPeerEntry n e).channels
    = s.channels := by unfold State.setPeerEntry; split <;> rfl
@[simp] theorem setPeerEntry_packing (n : Nat) (e : PeerEntry) (s : State) : (s.setPeerEntry n e).packing
    = s.packing :=
    by unfold State.setPeerEntry; split <;> rfl
@[simp] theorem setPeerEntry_counters (n : Nat) (e : PeerEntry) (s : State) : (s.setPeerEntry n e).counters
    = s.counters := by unfold State.setPeerEntry; split <;> rfl
@[simp] theorem setPeerEntry_faultIn (n : Nat) (e : PeerEntry) (s : State) : (s.setPeerEntry n e).faultIn
    = s.faultIn :=
    by unfold State.setPeerEntry; split <;> rfl
@[simp] theorem setPeerEntry_encoder (n : Nat) (e : PeerEntry) (s : State) : (s.setPeerEntry n e).encoder
    = s.encoder :=
    by unfold State.setPeerEntry; split <;> rfl
@[simp] theorem setPeerEntry_now (n : Nat) (e : PeerEntry) (s : State) : (s.setPeerEntry n e).now = s.now :=
    by unfold State.setPeerEntry; split <;> rfl
@[simp] theorem setPeerEntry_orderDraws (n : Nat) (e : PeerEntry) (s : State) :
    (s.setPeerEntry n e).orderDraws = s.orderDraws := by unfold State.setPeerEntry; split <;> rfl
@[simp] theorem setPeerEntry_pending (n : Nat) (e : PeerEntry) (s : State) : (s.setPeerEntry n e).pending
    = s.pending :=
    by unfold State.setPeerEntry; split <;> rfl
@[simp] theorem setPeerEntry_peer_statusTimer (n : Nat) (e : PeerEntry) (s : State) :
    (s.setPeerEntry n e).peer.statusTimer = s.peer.statusTimer := by unfold State.setPeerEntry; split <;> rfl
@[simp] theorem setPeerEntry_peer_chainLoad (n : Nat) (e : PeerEntry) (s : State) :
    (s.setPeerEntry n e).peer.chainLoad = s.peer.chainLoad := by unfold State.setPeerEntry; split <;> rfl
@[simp] theorem setPeerEntry_peer_chainDefrost (n : Nat) (e : PeerEntry) (s : State) :
    (s.setPeerEntry n e).peer.chainDefrost = s.peer.chainDefrost := by unfold State.setPeerEntry; split <;> rfl
@[simp] theorem setPeerEntry_peer_neighbours (n : Nat) (e : PeerEntry) (s : State) :
    (s.setPeerEntry n e).peer.neighbours = s.peer.neighbours := by unfold State.setPeerEntry; split <;> rfl
@[simp] theorem setPeerEntry_peer_walk (n : Nat) (e : PeerEntry) (s : State) : (s.setPeerEntry n e).peer.walk
    = s.peer.walk := by unfold State.setPeerEntry; split <;> rfl
@[simp] theorem setPeerEntry_upstream (n : Nat) (e : PeerEntry) (s : State) : (s.setPeerEntry n e).upstream
    = s.upstream := by unfold State.setPeerEntry; split <;> rfl
@[simp] theorem setPeerEntry_downstream (n : Nat) (e : PeerEntry) (s : State) :
    (s.setPeerEntry n e).downstream = s.downstream := by unfold State.setPeerEntry; split <;> rfl
@[simp] theorem setPeerEntry_items (n : Nat) (e : PeerEntry) (s : State) : (s.setPeerEntry n e).items = s.items :=
    by unfold State.setPeerEntry; split <;> rfl
@[simp] theorem setPeerEntry_item (n : Nat) (e : PeerEntry) (xn : Nat) (s : State) :
    (s.setPeerEntry n e).item xn = s.item xn := by unfold State.setPeerEntry; split <;> rfl
@[simp] theorem setPeerEntry_hasProfile (n : Nat) (e : PeerEntry) (s : State) :
    (s.setPeerEntry n e).hasProfile = s.hasProfile := by unfold State.setPeerEntry; split <;> rfl
@[simp] theorem setPeerEntry_hasRole (n : Nat) (e : PeerEntry) (r : Role) (s : State) :
    (s.setPeerEntry n e).hasRole r = s.hasRole r := by unfold State.setPeerEntry; split <;> rfl
@[simp] theorem setPeerEntry_isHead (n : Nat) (e : PeerEntry) (s : State) : (s.setPeerEntry n e).isHead = s.isHead :=
    by unfold State.setPeerEntry; split <;> rfl
@[simp] theorem setPeerEntry_isTail (n : Nat) (e : PeerEntry) (s : State) : (s.setPeerEntry n e).isTail = s.isTail :=
    by unfold State.setPeerEntry; split <;> rfl
@[simp] theorem setPeerEntry_unstoppable (n : Nat) (e : PeerEntry) (s : State) :
    (s.setPeerEntry n e).unstoppable = s.unstoppable := by unfold State.setPeerEntry; split <;> rfl
@[simp] theorem setPeerEntry_holding (n : Nat) (e : PeerEntry) (s : State) : (s.setPeerEntry n e).holding
    = s.holding :=
    by unfold State.setPeerEntry; split <;> rfl
@[simp] theorem setPeerEntry_counts (n : Nat) (e : PeerEntry) (s : State) : (s.setPeerEntry n e).counts = s.counts :=
    by unfold State.setPeerEntry; split <;> rfl
@[simp] theorem setPeerEntry_zoneHolds (n : Nat) (e : PeerEntry) (t : Tag) (s : State) :
    (s.setPeerEntry n e).zoneHolds t = s.zoneHolds t := by unfold State.setPeerEntry; split <;> rfl
@[simp] theorem setPeerEntry_arrivalsHold (n : Nat) (e : PeerEntry) (t : Tag) (s : State) :
    (s.setPeerEntry n e).arrivalsHold t = s.arrivalsHold t := by unfold State.setPeerEntry; split <;> rfl
@[simp] theorem setPeerEntry_findRecord (n : Nat) (e : PeerEntry) (t : Tag) (s : State) :
    (s.setPeerEntry n e).findRecord t = s.findRecord t := by unfold State.setPeerEntry; split <;> rfl
@[simp] theorem setPeerEntry_channelRecord (n : Nat) (e : PeerEntry) (xn : Nat) (s : State) :
    (s.setPeerEntry n e).channelRecord xn = s.channelRecord xn := by unfold State.setPeerEntry; split <;> rfl

/-! ### setLimiter -/

@[simp] theorem setLimiter_mode (i : LimiterId) (l : Limiter) (s : State) : (setLimiter i l s).mode = s.mode :=
    by cases i <;> rfl
@[simp] theorem setLimiter_station (i : LimiterId) (l : Limiter) (s : State) : (setLimiter i l s).station
    = s.station :=
    by cases i <;> rfl
@[simp] theorem setLimiter_link (i : LimiterId) (l : Limiter) (s : State) : (setLimiter i l s).link = s.link :=
    by cases i <;> rfl
@[simp] theorem setLimiter_peer (i : LimiterId) (l : Limiter) (s : State) : (setLimiter i l s).peer = s.peer :=
    by cases i <;> rfl
@[simp] theorem setLimiter_tracking (i : LimiterId) (l : Limiter) (s : State) : (setLimiter i l s).tracking
    = s.tracking := by cases i <;> rfl
@[simp] theorem setLimiter_arrivals (i : LimiterId) (l : Limiter) (s : State) : (setLimiter i l s).arrivals
    = s.arrivals := by cases i <;> rfl
@[simp] theorem setLimiter_dose (i : LimiterId) (l : Limiter) (s : State) : (setLimiter i l s).dose = s.dose :=
    by cases i <;> rfl
@[simp] theorem setLimiter_defrost (i : LimiterId) (l : Limiter) (s : State) : (setLimiter i l s).defrost
    = s.defrost :=
    by cases i <;> rfl
@[simp] theorem setLimiter_channels (i : LimiterId) (l : Limiter) (s : State) : (setLimiter i l s).channels
    = s.channels := by cases i <;> rfl
@[simp] theorem setLimiter_packing (i : LimiterId) (l : Limiter) (s : State) : (setLimiter i l s).packing
    = s.packing :=
    by cases i <;> rfl
@[simp] theorem setLimiter_counters (i : LimiterId) (l : Limiter) (s : State) : (setLimiter i l s).counters
    = s.counters := by cases i <;> rfl
@[simp] theorem setLimiter_faultIn (i : LimiterId) (l : Limiter) (s : State) : (setLimiter i l s).faultIn
    = s.faultIn :=
    by cases i <;> rfl
@[simp] theorem setLimiter_encoder (i : LimiterId) (l : Limiter) (s : State) : (setLimiter i l s).encoder
    = s.encoder :=
    by cases i <;> rfl
@[simp] theorem setLimiter_now (i : LimiterId) (l : Limiter) (s : State) : (setLimiter i l s).now = s.now :=
    by cases i <;> rfl
@[simp] theorem setLimiter_orderDraws (i : LimiterId) (l : Limiter) (s : State) :
    (setLimiter i l s).orderDraws = s.orderDraws := by cases i <;> rfl
@[simp] theorem setLimiter_pending (i : LimiterId) (l : Limiter) (s : State) : (setLimiter i l s).pending
    = s.pending :=
    by cases i <;> rfl
@[simp] theorem setLimiter_flow_reasons (i : LimiterId) (l : Limiter) (s : State) :
    (setLimiter i l s).flow.reasons = s.flow.reasons := by cases i <;> rfl
@[simp] theorem setLimiter_flow_drive (i : LimiterId) (l : Limiter) (s : State) :
    (setLimiter i l s).flow.drive = s.flow.drive := by cases i <;> rfl
@[simp] theorem setLimiter_flow_duty (i : LimiterId) (l : Limiter) (s : State) : (setLimiter i l s).flow.duty
    = s.flow.duty := by cases i <;> rfl
@[simp] theorem setLimiter_flow_throttleCount (i : LimiterId) (l : Limiter) (s : State) :
    (setLimiter i l s).flow.throttleCount = s.flow.throttleCount := by cases i <;> rfl
@[simp] theorem setLimiter_flow_gapRun (i : LimiterId) (l : Limiter) (s : State) :
    (setLimiter i l s).flow.gapRun = s.flow.gapRun := by cases i <;> rfl
@[simp] theorem setLimiter_flow_loadInput (i : LimiterId) (l : Limiter) (s : State) :
    (setLimiter i l s).flow.loadInput = s.flow.loadInput := by cases i <;> rfl
@[simp] theorem setLimiter_flow_loadFilter (i : LimiterId) (l : Limiter) (s : State) :
    (setLimiter i l s).flow.loadFilter = s.flow.loadFilter := by cases i <;> rfl
@[simp] theorem setLimiter_flow_loadHigh (i : LimiterId) (l : Limiter) (s : State) :
    (setLimiter i l s).flow.loadHigh = s.flow.loadHigh := by cases i <;> rfl
@[simp] theorem setLimiter_items (i : LimiterId) (l : Limiter) (s : State) : (setLimiter i l s).items = s.items :=
    by cases i <;> rfl
@[simp] theorem setLimiter_item (i : LimiterId) (l : Limiter) (n : Nat) (s : State) :
    (setLimiter i l s).item n = s.item n := by cases i <;> rfl
@[simp] theorem setLimiter_hasProfile (i : LimiterId) (l : Limiter) (s : State) :
    (setLimiter i l s).hasProfile = s.hasProfile := by cases i <;> rfl
@[simp] theorem setLimiter_hasRole (i : LimiterId) (l : Limiter) (r : Role) (s : State) :
    (setLimiter i l s).hasRole r = s.hasRole r := by cases i <;> rfl
@[simp] theorem setLimiter_isHead (i : LimiterId) (l : Limiter) (s : State) : (setLimiter i l s).isHead = s.isHead :=
    by cases i <;> rfl
@[simp] theorem setLimiter_isTail (i : LimiterId) (l : Limiter) (s : State) : (setLimiter i l s).isTail = s.isTail :=
    by cases i <;> rfl
@[simp] theorem setLimiter_unstoppable (i : LimiterId) (l : Limiter) (s : State) :
    (setLimiter i l s).unstoppable = s.unstoppable := by cases i <;> rfl
@[simp] theorem setLimiter_upstream (i : LimiterId) (l : Limiter) (s : State) : (setLimiter i l s).upstream
    = s.upstream := by cases i <;> rfl
@[simp] theorem setLimiter_downstream (i : LimiterId) (l : Limiter) (s : State) :
    (setLimiter i l s).downstream = s.downstream := by cases i <;> rfl
@[simp] theorem setLimiter_downstreamEntry (i : LimiterId) (l : Limiter) (s : State) :
    (setLimiter i l s).downstreamEntry = s.downstreamEntry := by cases i <;> rfl
@[simp] theorem setLimiter_peerEntry (i : LimiterId) (l : Limiter) (n : Nat) (s : State) :
    (setLimiter i l s).peerEntry n = s.peerEntry n := by cases i <;> rfl
@[simp] theorem setLimiter_counts (i : LimiterId) (l : Limiter) (s : State) : (setLimiter i l s).counts = s.counts :=
    by cases i <;> rfl
@[simp] theorem setLimiter_zoneHolds (i : LimiterId) (l : Limiter) (t : Tag) (s : State) :
    (setLimiter i l s).zoneHolds t = s.zoneHolds t := by cases i <;> rfl
@[simp] theorem setLimiter_arrivalsHold (i : LimiterId) (l : Limiter) (t : Tag) (s : State) :
    (setLimiter i l s).arrivalsHold t = s.arrivalsHold t := by cases i <;> rfl
@[simp] theorem setLimiter_findRecord (i : LimiterId) (l : Limiter) (t : Tag) (s : State) :
    (setLimiter i l s).findRecord t = s.findRecord t := by cases i <;> rfl
@[simp] theorem setLimiter_channelRecord (i : LimiterId) (l : Limiter) (n : Nat) (s : State) :
    (setLimiter i l s).channelRecord n = s.channelRecord n := by cases i <;> rfl

/-! ### driveOff -/

@[simp] theorem driveOff_mode (s : State) : (driveOff s).mode = s.mode := by unfold driveOff; split <;> rfl
@[simp] theorem driveOff_station (s : State) : (driveOff s).station = s.station := by unfold driveOff; split <;> rfl
@[simp] theorem driveOff_link (s : State) : (driveOff s).link = s.link := by unfold driveOff; split <;> rfl
@[simp] theorem driveOff_peer (s : State) : (driveOff s).peer = s.peer := by unfold driveOff; split <;> rfl
@[simp] theorem driveOff_tracking (s : State) : (driveOff s).tracking = s.tracking :=
    by unfold driveOff; split <;> rfl
@[simp] theorem driveOff_arrivals (s : State) : (driveOff s).arrivals = s.arrivals :=
    by unfold driveOff; split <;> rfl
@[simp] theorem driveOff_dose (s : State) : (driveOff s).dose = s.dose := by unfold driveOff; split <;> rfl
@[simp] theorem driveOff_defrost (s : State) : (driveOff s).defrost = s.defrost := by unfold driveOff; split <;> rfl
@[simp] theorem driveOff_channels (s : State) : (driveOff s).channels = s.channels :=
    by unfold driveOff; split <;> rfl
@[simp] theorem driveOff_packing (s : State) : (driveOff s).packing = s.packing := by unfold driveOff; split <;> rfl
@[simp] theorem driveOff_counters (s : State) : (driveOff s).counters = s.counters :=
    by unfold driveOff; split <;> rfl
@[simp] theorem driveOff_faultIn (s : State) : (driveOff s).faultIn = s.faultIn := by unfold driveOff; split <;> rfl
@[simp] theorem driveOff_encoder (s : State) : (driveOff s).encoder = s.encoder := by unfold driveOff; split <;> rfl
@[simp] theorem driveOff_now (s : State) : (driveOff s).now = s.now := by unfold driveOff; split <;> rfl
@[simp] theorem driveOff_orderDraws (s : State) : (driveOff s).orderDraws = s.orderDraws :=
    by unfold driveOff; split <;> rfl
@[simp] theorem driveOff_pending (s : State) : (driveOff s).pending = s.pending := by unfold driveOff; split <;> rfl
@[simp] theorem driveOff_flow_reasons (s : State) : (driveOff s).flow.reasons = s.flow.reasons :=
    by unfold driveOff; split <;> rfl
@[simp] theorem driveOff_flow_doorLimiter (s : State) : (driveOff s).flow.doorLimiter = s.flow.doorLimiter :=
    by unfold driveOff; split <;> rfl
@[simp] theorem driveOff_flow_duty (s : State) : (driveOff s).flow.duty = s.flow.duty :=
    by unfold driveOff; split <;> rfl
@[simp] theorem driveOff_flow_throttleCount (s : State) : (driveOff s).flow.throttleCount = s.flow.throttleCount :=
    by unfold driveOff; split <;> rfl
@[simp] theorem driveOff_flow_gapRun (s : State) : (driveOff s).flow.gapRun = s.flow.gapRun :=
    by unfold driveOff; split <;> rfl
@[simp] theorem driveOff_flow_loadInput (s : State) : (driveOff s).flow.loadInput = s.flow.loadInput :=
    by unfold driveOff; split <;> rfl
@[simp] theorem driveOff_flow_loadFilter (s : State) : (driveOff s).flow.loadFilter = s.flow.loadFilter :=
    by unfold driveOff; split <;> rfl
@[simp] theorem driveOff_flow_loadHigh (s : State) : (driveOff s).flow.loadHigh = s.flow.loadHigh :=
    by unfold driveOff; split <;> rfl
@[simp] theorem driveOff_items (s : State) : (driveOff s).items = s.items := by unfold driveOff; split <;> rfl
@[simp] theorem driveOff_item (n : Nat) (s : State) : (driveOff s).item n = s.item n :=
    by unfold driveOff; split <;> rfl
@[simp] theorem driveOff_hasProfile (s : State) : (driveOff s).hasProfile = s.hasProfile :=
    by unfold driveOff; split <;> rfl
@[simp] theorem driveOff_hasRole (r : Role) (s : State) : (driveOff s).hasRole r = s.hasRole r :=
    by unfold driveOff; split <;> rfl
@[simp] theorem driveOff_isHead (s : State) : (driveOff s).isHead = s.isHead := by unfold driveOff; split <;> rfl
@[simp] theorem driveOff_isTail (s : State) : (driveOff s).isTail = s.isTail := by unfold driveOff; split <;> rfl
@[simp] theorem driveOff_unstoppable (s : State) : (driveOff s).unstoppable = s.unstoppable :=
    by unfold driveOff; split <;> rfl
@[simp] theorem driveOff_upstream (s : State) : (driveOff s).upstream = s.upstream :=
    by unfold driveOff; split <;> rfl
@[simp] theorem driveOff_downstream (s : State) : (driveOff s).downstream = s.downstream :=
    by unfold driveOff; split <;> rfl
@[simp] theorem driveOff_downstreamEntry (s : State) : (driveOff s).downstreamEntry = s.downstreamEntry :=
    by unfold driveOff; split <;> rfl
@[simp] theorem driveOff_peerEntry (n : Nat) (s : State) : (driveOff s).peerEntry n = s.peerEntry n :=
    by unfold driveOff; split <;> rfl
@[simp] theorem driveOff_counts (s : State) : (driveOff s).counts = s.counts := by unfold driveOff; split <;> rfl
@[simp] theorem driveOff_zoneHolds (t : Tag) (s : State) : (driveOff s).zoneHolds t = s.zoneHolds t :=
    by unfold driveOff; split <;> rfl
@[simp] theorem driveOff_arrivalsHold (t : Tag) (s : State) : (driveOff s).arrivalsHold t = s.arrivalsHold t :=
    by unfold driveOff; split <;> rfl
@[simp] theorem driveOff_findRecord (t : Tag) (s : State) : (driveOff s).findRecord t = s.findRecord t :=
    by unfold driveOff; split <;> rfl
@[simp] theorem driveOff_channelRecord (n : Nat) (s : State) : (driveOff s).channelRecord n = s.channelRecord n :=
    by unfold driveOff; split <;> rfl

/-! ### What an update writes -/

@[simp] theorem driveOn_flow_drive (s : State) : (driveOn s).flow.drive = true := rfl
@[simp] theorem driveOff_flow_drive (s : State) : (driveOff s).flow.drive = false := by
  unfold driveOff; split
  · rfl
  · next h => simpa using h
@[simp] theorem setTxq_link_txq (q : List TxEntry) (s : State) : (setTxq q s).link.txq = q := rfl
@[simp] theorem addArrival_arrivals (b : Bool) (m : UnitImage) (s : State) :
    (addArrival b m s).arrivals = s.arrivals ++ [⟨b, m, s.now, 0⟩] := rfl
@[simp] theorem dropArrival_arrivals (t : Tag) (s : State) :
    (dropArrival t s).arrivals = withoutArrival t s.arrivals := rfl
@[simp] theorem dropRecord_zone (t : Tag) (s : State) :
    (dropRecord t s).tracking.zone = withoutTag t s.tracking.zone := rfl
@[simp] theorem count_counters (c : CounterName) (s : State) : (count c s).counters = countersBump s.counters c := rfl
@[simp] theorem limiterOf_setLimiter (i : LimiterId) (l : Limiter) (s : State) : limiterOf (setLimiter i l s) i = l :=
    by
  cases i <;> rfl

/-- A counter that is bumped goes up by one, to 65,535 at most. -/
@[simp] theorem counterOf_bump (k : Counters) (c : CounterName) :
    counterOf (countersBump k c) c = min (counterOf k c + 1) 65535 := by cases c <;> rfl

/-- The other counters stand. -/
theorem counterOf_bump_ne (k : Counters) {c d : CounterName} (h : d ≠ c) :
    counterOf (countersBump k c) d = counterOf k d := by
  cases c <;> cases d <;> first | rfl | exact absurd rfl h

/-- Reading back the peer table entry that was written. -/
theorem peerEntry_setPeerEntry (s : State) (n : Nat) (e : PeerEntry) (h : 1 ≤ n ∧ n ≤ 31) :
    (s.setPeerEntry n e).peerEntry n = e := by
  simp [State.setPeerEntry, State.peerEntry, h]

/-- Writing one peer table entry leaves the others. -/
theorem peerEntry_setPeerEntry_ne (s : State) (n m : Nat) (e : PeerEntry) (h : m ≠ n) :
    (s.setPeerEntry n e).peerEntry m = s.peerEntry m := by
  unfold State.setPeerEntry State.peerEntry
  split
  · split
    · next h1 h2 => exact Vector.getElem_set_ne (by omega) (by omega) (by omega)
    · rfl
  · rfl

end Sys2Proof.Laws
end

