-- ==== Sys2Proof/Laws/Commands.lean ====
section
/-! SUPPORT. Frames being handled, the admission of commands, and entry to a state: the lemmas that the
statements about frame rows rest on. -/

namespace Sys2Proof.Laws

open Sys2Proof Sys2Proof.Machine Sys2Proof.Safety

/-! ### Responses -/

/-- Responses keep the station state. -/
theorem blocksResponded_mode {s t : State} (h : BlocksResponded s t) : t.mode = s.mode := by
  have e := congrArg State.mode h.1; exact e

/-- Responses keep station control. -/
theorem blocksResponded_station {s t : State} (h : BlocksResponded s t) : t.station = s.station := by
  have e := congrArg State.station h.1; exact e

/-- Responses keep the line position. -/
theorem blocksResponded_isHead {s t : State} (h : BlocksResponded s t) : t.isHead = s.isHead := by
  have e := congrArg State.isHead h.1; exact e

/-- Responses keep whether a profile is held. -/
theorem blocksResponded_hasProfile {s t : State} (h : BlocksResponded s t) : t.hasProfile = s.hasProfile := by
  have e := congrArg State.hasProfile h.1; exact e

/-- Responses keep the merge-bound segment. -/
theorem blocksResponded_mergeBound {s t : State} (h : BlocksResponded s t) :
    t.tracking.mergeBound = s.tracking.mergeBound := by
  have e := congrArg (fun s => s.tracking.mergeBound) h.1; exact e

/-- Responses keep the neighbour record. -/
theorem blocksResponded_neighbours {s t : State} (h : BlocksResponded s t) :
    t.peer.neighbours = s.peer.neighbours := by
  have e := congrArg (fun s => s.peer.neighbours) h.1; exact e

/-- Responses keep the completeness of the neighbour record. -/
theorem complete_blocksResponded {s t : State} (h : BlocksResponded s t) : Complete t ↔ Complete s := by
  have e := congrArg Complete h.1; exact Iff.of_eq e

/-- Queueing frames keeps the flow unit. -/
theorem framesQueued_flow {s t : State} (h : FramesQueued s t) : t.flow = s.flow := by
  have e := congrArg State.flow h.1; exact e

/-- Queueing frames keeps the station state. -/
theorem framesQueued_mode {s t : State} (h : FramesQueued s t) : t.mode = s.mode :=
  blocksResponded_mode (framesQueued_blocks h)

/-- Queueing frames keeps the merge-bound segment. -/
theorem framesQueued_mergeBound {s t : State} (h : FramesQueued s t) :
    t.tracking.mergeBound = s.tracking.mergeBound :=
  blocksResponded_mergeBound (framesQueued_blocks h)

/-- An update that keeps the zone queue, and commutes with what responses write, may come before or after them. -/
theorem blocksResponded_update {s t : State} (h : BlocksResponded s t) (g : State → State)
    (hg : g (withResponses s t) = withResponses (g s) (g t)) (hz : ∀ s, (g s).tracking.zone = s.tracking.zone)
    (hl : ∀ s, (g s).link.line = s.link.line) : BlocksResponded (g s) (g t) := by
  have e := congrArg g h.1
  refine ⟨e.trans hg, ?_, ?_⟩
  · rw [hz, hz]; exact h.2.1
  · unfold LineKept; rw [hl, hl]; exact h.2.2

/-- A response is the same from another station state. -/
theorem blocksResponded_setMode {s t : State} (h : BlocksResponded s t) (m : StationState) :
    BlocksResponded { s with mode := m } { t with mode := m } :=
  blocksResponded_update h (fun s => { s with mode := m }) rfl (fun _ => rfl) (fun _ => rfl)

/-- The same units are none exactly together. -/
theorem sameUnits_nil {z z'} (h : SameUnits z z') : z = [] ↔ z' = [] := by
  have := sameUnits_length h
  cases z <;> cases z' <;> simp at *

/-! ### Handling a frame -/

/-- The transmit queue at the end of a command. -/
theorem settle_txq {s : State} (h : s.mode ≠ .quiet) : (settle s).link.txq = onLine s s.link.txq := by
  rw [settle_link, if_neg h]
  unfold startIfIdle startHead onLine sendingEntry
  cases hq : s.link.txq with
  | nil => simp [hq]
  | cons e rest =>
    have hf : (List.find? (·.sending) (e :: rest)).isSome = false ↔ ∀ x ∈ e :: rest, x.sending = false := by
      rw [Option.isSome_eq_false_iff, Option.isNone_iff_eq_none, List.find?_eq_none]; simp
    rw [apply_ite Link.txq]
    simp only [hq, hf]

/-- A command that is done answers the settled state. -/
theorem next_of_done {c : Instr} {s u : State} {P : State → Prop} (h : exec c s = done u) (hp : P (settle u)) :
   ∃ t, Next c s t ∧ P t := ⟨_, h, hp⟩

/-- What handling the oldest frame leaves. -/
theorem handleFrame_oldest {k : Kind} {f : Frame} {rest : List Frame} {s : State} (h : Oldest k f rest s) :
    handleFrame k s = some (f, handDownstream s.downstreamEntry (taken f rest s)) := by
  obtain ⟨h1, h2, h3⟩ := h
  unfold handleFrame takeFrame
  rw [h1]
  simp only [h2, h3, ne_eq, not_false_eq_true, and_self, if_true]
  rfl

/-- A command frame is refused or has its effect, by its first failing test. -/
theorem takeCommand_oldest {k : Kind} {f : Frame} {rest : List Frame} {s : State} (h : Oldest k f rest s)
  (acc : State → Bool) (eff : Frame → State → State) :
   takeCommand k acc eff s = match refusalReason f (acc (handDownstream s.downstreamEntry (taken f rest s))) with
    | some reason => done (refuseCommand reason f (handDownstream s.downstreamEntry (taken f rest s)))
    | none => done (eff f (handDownstream s.downstreamEntry (taken f rest s))) := by
  have e := handleFrame_oldest h
  unfold takeCommand
  generalize handleFrame k s = o at e
  subst e; rfl

/-- Writing a peer table entry changes the table alone. -/
theorem setPeerEntry_eq (s : State) (n : Nat) (e : PeerEntry) : ∃ p, s.setPeerEntry n e
    = { s with peer.peers := p } := by
  unfold State.setPeerEntry; split
  · exact ⟨_, rfl⟩
  · exact ⟨s.peer.peers, rfl⟩

/-- Taking a frame changes the receive buffer and the peer table. -/
theorem taken_eq (f : Frame) (rest : List Frame) (s : State) : ∃ p, taken f rest s
    = { s with link.rxq := rest, peer.peers := p } := by
  obtain ⟨p, h⟩ := setPeerEntry_eq { s with link.rxq := rest } f.origin (refreshedEntry s f.origin)
  exact ⟨p, h⟩

/-- A frame of another node leaves the downstream's entry. -/
theorem taken_downstreamEntry {f : Frame} {rest : List Frame} {s : State} (h : f.origin ≠ s.downstream) :
    (taken f rest s).downstreamEntry = s.downstreamEntry := by
  unfold taken State.setPeerEntry
  split
  · next h1 =>
    unfold State.downstreamEntry State.peerEntry State.downstream at *
    dsimp only
    split
    · rfl
    · split
      · next h2 =>
        congr 1
        apply Vector.getElem_set_ne
        omega
      · rfl
  · rfl

/-- No change of the downstream entry, no response. -/
theorem handDownstream_same (s : State) : handDownstream s.downstreamEntry s = s := by
  unfold handDownstream
  split
  · next b a hb ha =>
    rw [ha] at hb; cases hb
    simp
  · rfl
  · next hb ha => rw [hb] at ha; cases ha
  · next hb ha => rw [hb] at ha; cases ha

/-- A frame of a node that is not the downstream is handed to nobody. -/
theorem handDownstream_taken {f : Frame} {rest : List Frame} {s : State} (h : f.origin ≠ s.downstream) :
   handDownstream s.downstreamEntry (taken f rest s) = taken f rest s := by
  rw [← taken_downstreamEntry (rest := rest) h]; exact handDownstream_same _

/-- A frame that the link controller takes joins the queue by its priority. -/
theorem queueFrame_accepts {f : Frame} {s : State} (h : Accepts f.kind s) :
    queueFrame f s = { s with link.txq := queued f s.link.txq } := by
  obtain ⟨h1, h2, h3, h4⟩ := h
  unfold queueFrame enqueue
  simp [h1, h2, h3, h4, queued]

/-- Taking a frame hands on at most responses. -/
theorem handDownstream_taken_blocks (f : Frame) (rest : List Frame) (s : State) : BlocksResponded
    (taken f rest s) (handDownstream s.downstreamEntry (taken f rest s)) := handDownstream_blocks _ _

/-- Taking a frame leaves the transmit queue as it was. -/
theorem accepts_taken {k} {f : Frame} {rest : List Frame} {s : State} (h : Accepts k s) : Accepts k
    (taken f rest s) := by
  obtain ⟨p, hp⟩ := taken_eq f rest s; rw [hp]; exact h

/-- Taking a frame keeps the neighbour record. -/
theorem complete_taken (f rest s) : Complete (taken f rest s) ↔ Complete s := by
  obtain ⟨p, hp⟩ := taken_eq f rest s; rw [hp]; rfl

/-- The neighbour record is complete. -/
theorem neighboursComplete_iff (s : State) : s.neighboursComplete = true ↔ Complete s := by
  unfold State.neighboursComplete Complete; simp

/-! ### Admission (R8) -/

/-- A refused command: EVENT COMMAND_REFUSED, and nothing more. -/
theorem refuseCommand_taken {f : Frame} {rest : List Frame} {s : State} {r : Nat} :
   BlocksResponded (taken f rest s) (settle (refuseCommand r f (handDownstream s.downstreamEntry
       (taken f rest s))))
      ∧ (f.origin ≠ s.downstream → Accepts .event s →
          (settle (refuseCommand r f (handDownstream s.downstreamEntry (taken f rest s)))).link.txq
              = onLine s (queued (eventOf s 1 (256 * r + kindCode f.kind) f.origin) s.link.txq)) := by
  refine ⟨blocksResponded_trans (handDownstream_taken_blocks _ _ _) (blocksResponded_trans
      (framesQueued_blocks (queueEvent_framesQueued _ _ _ _)) (settle_blocks _)), ?_⟩
  intro h1 h2
  rw [handDownstream_taken h1]
  unfold refuseCommand queueEvent
  rw [queueFrame_accepts (accepts_taken h2)]
  obtain ⟨p, hp⟩ := taken_eq f rest s
  rw [settle_txq (by simpa [hp] using h2.1)]
  simp only [hp]; rfl

/-- The origin test of R8. -/
theorem originAdmitted_iff (f : Frame) : originAdmitted f = true ↔ OriginAdmitted f := by
  simp [originAdmitted, OriginAdmitted, and_assoc]

/-- The target test of R8. -/
theorem ownTargetOnly_iff (f : Frame) : (ownTargetOnly f.kind = true ∧ f.target = 0) ↔ ¬ TargetAdmitted f := by
  unfold TargetAdmitted ownTargetOnly
  cases f.kind <;> simp

/-- The first failing test of R8 gives the reason code. -/
theorem refusalReason_iff (f : Frame) (b : Bool) (P : Prop) (hb : b = true ↔ P) (r : Nat) : refusalReason f b
    = some r ↔ 
   ((r = 2 ∧ ¬ OriginAdmitted f)
    ∨ (r = 3 ∧ OriginAdmitted f ∧ ¬ TargetAdmitted f)
    ∨ (r = 1 ∧ OriginAdmitted f ∧ TargetAdmitted f ∧ ¬ P)) := by
  unfold refusalReason
  have h1 := originAdmitted_iff f
  have h2 := ownTargetOnly_iff f
  by_cases ho : originAdmitted f = true <;> by_cases ht : (ownTargetOnly f.kind = true ∧ f.target
      = 0) <;> cases b <;> simp_all <;> first | omega | (constructor <;> omega) | (rw [if_neg (fun h => ht h.1 h.2)]; simp; omega)

/-- The state test of each command kind, as its meaning makes it. -/
def acceptedOf : Kind → State → Bool
  | .walkStart => fun s => decide (s.mode = .profiled) || decide (s.mode = .ready)
  | .walkEnd => fun s => decide (s.mode = .walking)
  | .run => fun s => decide (s.mode = .ready) || decide (s.mode = .draining)
  | .stop => fun s => decide (s.mode = .running)
  | .lot => fun s => s.isHead && lotState s.mode
  | .faultClear => fun s => decide (s.mode = .faulted)
  | .restart => fun s => restartState s.mode
  | _ => fun _ => true

/-- The state test of R8. -/
theorem acceptedOf_iff {k : Kind} {s s' : State} (hk : (commandOf k).isSome) (h1 : s'.mode = s.mode)
    (h2 : s'.isHead = s.isHead) :
    acceptedOf k s' = true ↔ StateAccepts k s := by
  unfold StateAccepts acceptedOf
  cases k <;> simp [commandOf] at hk <;> simp [h1, h2, lotState, restartState]
  all_goals cases s.mode <;> simp

/-- An admitted command is not refused. -/
theorem refusalReason_admitted {f : Frame} {rest : List Frame} {s : State} (hk : (commandOf f.kind).isSome)
    (h : Admitted f s) :
    refusalReason f (acceptedOf f.kind (handDownstream s.downstreamEntry (taken f rest s))) = none := by
  obtain ⟨a, b, c⟩ := h
  have hm := blocksResponded_mode (handDownstream_taken_blocks f rest s)
  have hh := blocksResponded_isHead (handDownstream_taken_blocks f rest s)
  obtain ⟨p, hp⟩ := taken_eq f rest s
  have hm : (handDownstream s.downstreamEntry (taken f rest s)).mode = s.mode := by rw [hm, hp]
  have hh : (handDownstream s.downstreamEntry (taken f rest s)).isHead = s.isHead := by rw [hh, hp]; rfl
  cases hr : refusalReason f (acceptedOf f.kind (handDownstream s.downstreamEntry (taken f rest s))) with
  | none => rfl
  | some r =>
    have := (refusalReason_iff f _ _ (acceptedOf_iff hk hm hh) r).1 hr
    simp [a, b, c] at this

/-- A command that fails a test is refused with its reason code. -/
theorem refusalReason_refused {f : Frame} {rest : List Frame} {s : State} {r : Nat} (hk :
    (commandOf f.kind).isSome) (h : Refused f s r) :
    refusalReason f (acceptedOf f.kind (handDownstream s.downstreamEntry (taken f rest s))) = some r := by
  have hm := blocksResponded_mode (handDownstream_taken_blocks f rest s)
  have hh := blocksResponded_isHead (handDownstream_taken_blocks f rest s)
  obtain ⟨p, hp⟩ := taken_eq f rest s
  have hm : (handDownstream s.downstreamEntry (taken f rest s)).mode = s.mode := by rw [hm, hp]
  have hh : (handDownstream s.downstreamEntry (taken f rest s)).isHead = s.isHead := by rw [hh, hp]; rfl
  exact (refusalReason_iff f _ _ (acceptedOf_iff hk hm hh) r).2 h

/-- Every command kind is handled by the one admission. -/
theorem exec_command {c : Instr} {k : Kind} (h : commandOf k = some c) : ∃ eff, ∀ s, exec c s = takeCommand k
    (acceptedOf k) eff s := by
  cases k <;> simp [commandOf] at h <;> subst h <;> exact ⟨_, fun s => rfl⟩

/-- An admitted command has its effect. -/
theorem takeCommand_admitted {k : Kind} {eff} {f : Frame} {rest : List Frame} {s : State}  (hk :
    (commandOf k).isSome) (ho : Oldest k f rest s) (ha : Admitted f s) :
   takeCommand k (acceptedOf k) eff s = done (eff f (handDownstream s.downstreamEntry (taken f rest s))) := by
  have := ho.2.1
  subst this
  rw [takeCommand_oldest ho, refusalReason_admitted hk ha]

/-! ### Entering a state -/

/-- Responses to a state that ends no formation and aborts nothing. -/
theorem respondToState_blocks (old : StationState) (s : State) (h0 : endsFormation old s.mode = false)
    (hf : s.mode ≠ .faulted) (hp : s.mode ≠ .profiled) :
    BlocksResponded s (respondToState old s) := by
  unfold respondToState
  dsimp only
  rw [if_neg (by simp [h0])]
  have hd : stateAborts (discardWalk old s) = s := by
    unfold discardWalk stateAborts
    simp [hf, hp]
  rw [hd]
  exact (blocksResponded_trans (refreshReasons_blocks _)
    (blocksResponded_trans (evaluateDrive_blocks _) (blocksResponded_trans (defrostTest_blocks _)
      (blocksResponded_trans (doorTest_blocks _) (framesQueued_blocks (queueStatus_framesQueued _))))))

/-- Entering such a state. -/
theorem enterState_blocks (new : StationState) (s : State) (h0 : endsFormation s.mode new = false)
    (hf : new ≠ .faulted) (hp : new ≠ .profiled) :
    BlocksResponded { s with mode := new } (enterState new s) := by
  unfold enterState
  have h1 := changePosture_blocks s.mode { s with mode := new }
  have hm := blocksResponded_mode h1
  exact blocksResponded_trans h1 (respondToState_blocks _ _ (by rw [hm]; exact h0) (by rw [hm]; exact hf) (by rw [hm]; exact hp))

/-- The terms of the stop causes. -/
theorem stopCause_iff (s : State) : s.stopCause = true ↔ StopCause s := by
  have hd : s.downstreamStops = true
      ↔ s.downstream ≠ 0
        ∧ ((s.peerEntry s.downstream).holding = true ∨ (s.peerEntry s.downstream).stale = true) := by
    unfold State.downstreamStops State.downstreamEntry
    by_cases h : s.downstream = 0 <;> simp [h]
  unfold State.stopCause StopCause
  rw [Bool.or_eq_true, Bool.or_eq_true, hd, or_assoc]
  simp [State.noTake, State.doorListFull, State.offerPoint]

/-- The terms of the drain test. -/
theorem drained_iff (s : State) : drained s = true ↔ Drained s := by
  unfold drained Drained
  simp [List.isEmpty_iff, and_assoc, or_assoc]

/-- Responses keep the terms of the drain test. -/
theorem drained_blocksResponded {s t : State} (h : BlocksResponded s t) : Drained t ↔ Drained s := by
  have e := congrArg (fun s => (s.arrivals, s.upstream, s.peerEntry s.upstream)) h.1
  have e : (t.arrivals, t.upstream, t.peerEntry t.upstream) = (s.arrivals, s.upstream, s.peerEntry s.upstream) := e
  simp only [Prod.mk.injEq] at e
  obtain ⟨e1, e2, e3⟩ := e
  have := sameUnits_nil h.2.1
  unfold Drained
  rw [e3, e1, e2, ← this]

/-- A drained station enters READY. -/
theorem drainTest_drained {s : State} (h1 : s.mode = .draining) (h2 : Drained s) : (drainTest s).mode = .ready := by
  unfold drainTest
  rw [if_pos (by simp [h1, (drained_iff s).2 h2])]
  unfold enterState
  have h1' := changePosture_blocks s.mode { s with mode := .ready }
  have hm := blocksResponded_mode h1'
  have := respondToState_queue s.mode
      (changePosture s.mode { s with mode := .ready }) (by rw [hm]; nofun) (by rw [hm]; nofun)
  rcases this.2.1 with h | h
  · rw [h, hm]
  · exact h.2

/-- A station that is not drained stays. -/
theorem drainTest_undrained {s : State} (h2 : ¬ Drained s) : drainTest s = s := by
  unfold drainTest
  rw [if_neg]
  have := mt (drained_iff s).1 h2
  simp [this]

/-! ### Profiles -/

/-- Reading back the value stored. -/
theorem profileFind_put (p : Profile) (n v) : profileFind (profilePut p n v) n = some v := by
  induction p with
  | nil => simp [profilePut, profileFind]
  | cons a p ih =>
    obtain ⟨m, w⟩ := a
    unfold profilePut
    split
    · simp [profileFind]
    split
    · simp [profileFind]
    · next h1 h2 => simp [profileFind, Ne.symm h2, ih]

/-- Storing one item leaves the others. -/
theorem profileFind_put_ne (p : Profile) (n v k) (h : k ≠ n) : profileFind (profilePut p n v) k
    = profileFind p k := by
  induction p with
  | nil => simp [profilePut, profileFind, h.symm]
  | cons a p ih =>
    obtain ⟨m, w⟩ := a
    unfold profilePut
    split
    · simp [profileFind, h.symm]
    split
    · next h1 h2 => subst h2; simp [profileFind, h.symm]
    · next h1 h2 => simp [profileFind, ih]

end Sys2Proof.Laws
end

