-- ==== Sys2Proof/Laws/Drive.lean ====
section
/-! SUPPORT. The reasons and the drive: what evaluating them can change, and what they are after it. -/

namespace Sys2Proof.Laws

open Sys2Proof Sys2Proof.Machine Sys2Proof.Safety

/-! ### What evaluating reasons and drive can change -/

/-- `s`, with all that evaluating reasons and drive may write as `t` has it. -/
def withFlow (s t : State) : State :=
  { withFrames s t with
    counters.startDeferred := t.counters.startDeferred
    flow.reasons := t.flow.reasons
    flow.drive := t.flow.drive
    flow.driveLimiter := t.flow.driveLimiter }

/-- `t` is `s` after frames were queued and the reasons and the drive were evaluated. Nothing else. -/
def FlowResponded (s t : State) : Prop := t = withFlow s t ∧ SameUnits s.tracking.zone t.tracking.zone

theorem flowResponded_refl (s : State) : FlowResponded s s := ⟨rfl, rfl⟩

theorem flowResponded_trans {s t u : State} (h : FlowResponded s t) (h' : FlowResponded t u) : FlowResponded s u := by
  have e := congrArg (withFlow · u) h.1
  exact ⟨h'.1.trans e, sameUnits_trans h.2 h'.2⟩

theorem framesQueued_flowResponded {s t : State} (h : FramesQueued s t) : FlowResponded s t := by
  have e := congrArg (withFlow s) h.1
  exact ⟨h.1.trans e.symm, h.2⟩

/-- Evaluating the reasons. -/
theorem setReasons_flow (l s) : FlowResponded s (setReasons l s) := by
  unfold setReasons; dsimp only; split
  · exact flowResponded_refl _
  · exact flowResponded_trans (t := { s with flow.reasons := s.reasonsInForce l }) ⟨rfl, rfl⟩
      (framesQueued_flowResponded (framesQueued_trans
      (queueStatus_framesQueued _) (queueHold_framesQueued _)))

/-- A request of the drive. -/
theorem requestStart_drive_flow (s) : FlowResponded s (requestStart .drive s).1 := by
  unfold requestStart; split
  · exact flowResponded_refl _
  split
  · exact ⟨rfl, rfl⟩
  · next l failing length _ =>
    refine flowResponded_trans (t := count .startDeferred (setLimiter .drive l s)) ⟨rfl, rfl⟩
        (framesQueued_flowResponded (queueEvent_framesQueued _ _ _ _))

theorem driveOn_flowResponded (s) : FlowResponded s (driveOn s) := ⟨rfl, rfl⟩

theorem driveOff_flowResponded (s) : FlowResponded s (driveOff s) :=
    by unfold driveOff; split; exact ⟨rfl, rfl⟩; exact flowResponded_refl _

theorem withdrawStart_flow (s) : FlowResponded s (withdrawStart .drive s) := ⟨rfl, rfl⟩

/-- Evaluating the drive. -/
theorem evaluateDrive_flow (s) : FlowResponded s (evaluateDrive s) := by
  unfold evaluateDrive
  split
  · exact flowResponded_refl s
  split
  · split
    · exact driveOn_flowResponded s
    · exact driveOff_flowResponded s
  split
  · exact driveOn_flowResponded s
  split
  · split
    · exact flowResponded_trans (withdrawStart_flow s) (driveOff_flowResponded _)
    split
    · exact flowResponded_refl s
    have h0 := requestStart_drive_flow s
    split
    · next s1 h => rw [h] at h0; exact flowResponded_trans h0 (driveOn_flowResponded s1)
    · next s1 h => rw [h] at h0; exact h0
  · exact flowResponded_trans (withdrawStart_flow s) (driveOff_flowResponded _)

theorem flowResponded_mode {s t : State} (h : FlowResponded s t) : t.mode = s.mode := by
  have e := congrArg State.mode h.1; exact e

theorem flowResponded_station {s t : State} (h : FlowResponded s t) : t.station = s.station := by
  have e := congrArg State.station h.1; exact e

/-- The reason set that an evaluation leaves. -/
theorem setReasons_reasons (l s) : (setReasons l s).flow.reasons = s.reasonsInForce l := by
  unfold setReasons; dsimp only; split
  · next h => exact h.symm
  · rw [framesQueued_flow (queueHold_framesQueued _), framesQueued_flow (queueStatus_framesQueued _)]

/-! ### The drive -/

/-- The drive of a walking station is on. -/
theorem evaluateDrive_walking {s : State} (hp : s.hasProfile = true) (h : s.mode = .walking) :
    (evaluateDrive s).flow.drive = true := by
  unfold evaluateDrive
  simp [hp, h, beltState, driveOn]

/-- The drive of a station whose belt may not move product is off. -/
theorem evaluateDrive_rest {s : State} (hp : s.hasProfile = true) (h : beltState s.mode = false) :
   (evaluateDrive s).flow.drive = false ∧ (s.unstoppable = false →
       (evaluateDrive s).flow.driveLimiter.deferred = none) 
   ∧ (evaluateDrive s).flow.reasons = s.flow.reasons ∧ (evaluateDrive s).flow.driveLimiter.history
       = s.flow.driveLimiter.history := by
  have h1 : s.mode ≠ .walking := by intro e; rw [e] at h; simp [beltState] at h
  have h2 : ¬ (s.mode = .running ∨ s.mode = .draining) := by rintro (e | e) <;> rw [e] at h <;> simp [beltState] at h
  unfold evaluateDrive
  simp only [hp, h, h1, h2, Bool.not_true, Bool.false_eq_true, if_false]
  split
  · next hu => refine ⟨driveOff_flow_drive _, by simp_all, by simp, ?_⟩; unfold driveOff; split <;> rfl
  · refine ⟨driveOff_flow_drive _, fun _ => ?_, ?_, ?_⟩ <;> unfold driveOff <;> split <;> rfl

/-- Evaluating the reasons keeps the drive. -/
theorem setReasons_drive (l : Bool) (s : State) : (setReasons l s).flow.drive = s.flow.drive := by
  unfold setReasons; dsimp only; split
  · rfl
  · rw [framesQueued_flow (queueHold_framesQueued _), framesQueued_flow (queueStatus_framesQueued _)]

/-- A cycle start keeps the flow unit. -/
theorem startDueCycle_flow (s : State) : (startDueCycle s).flow = s.flow := by
  unfold startDueCycle; split
  · split <;> rfl
  · rfl

/-- The start test keeps the drive. -/
theorem defrostTest_drive (s : State) : (defrostTest s).flow.drive = s.flow.drive := by
  unfold defrostTest; dsimp only; split
  · rw [startDueCycle_flow]
  · rw [framesQueued_flow (queueStatus_framesQueued _)]; unfold refreshReasons; rw [setReasons_drive,
      startDueCycle_flow]

/-- Writing a limiter keeps the drive. -/
theorem setLimiter_drive (i l) (s : State) : (setLimiter i l s).flow.drive = s.flow.drive := by cases i <;> rfl

/-- A request keeps the drive. -/
theorem requestStart_drive (i : LimiterId) (s : State) : (requestStart i s).1.flow.drive = s.flow.drive := by
  unfold requestStart; split
  · rfl
  · split
    · exact setLimiter_drive _ _ _
    · unfold queueEvent
      rw [framesQueued_flow (queueFrame_framesQueued _ _)]
      exact setLimiter_drive _ _ _

/-- The request test keeps the drive. -/
theorem doorTest_drive (s : State) : (doorTest s).flow.drive = s.flow.drive := by
  unfold doorTest; split
  · have := requestStart_drive .door s
    split
    · next h => rw [h] at this; exact this
    · next h => rw [h] at this; exact this
  · rfl

/-- Evaluating the chain flags keeps the drive. -/
theorem evaluateChain_drive (s : State) : (evaluateChain s).flow.drive = s.flow.drive := by
  unfold evaluateChain; split
  · rfl
  · dsimp only; split
    · rfl
    · rw [framesQueued_flow (queueStatus_framesQueued _)]
      split
      · unfold startGapRun; split <;> rfl
      · rfl

/-! ### Tests that do nothing -/

/-- No cycle starts outside READY, RUNNING and DRAINING. -/
theorem defrostTest_none {s : State} (h : defrostState s.mode = false) : defrostTest s = s := by
  have : startDueCycle s = s := by unfold startDueCycle; rw [if_neg]; simp [h]
  unfold defrostTest; rw [this]; simp

/-- No door is requested in PROFILED, FAULTED, JOINING and QUIET. -/
theorem doorTest_none {s : State} (h : doorState s.mode = false) : doorTest s = s := by
  unfold doorTest; rw [if_neg]; simp [h]

/-- The end of a response in FAULTED. -/
theorem respond_faulted {v : State} (hm : v.mode = .faulted) (hp : v.hasProfile = true) :
    ∃ t, queueStatus (doorTest (defrostTest (evaluateDrive (refreshReasons v)))) = t ∧ FlowResponded v t
        ∧ t.flow.drive = false ∧
     (v.unstoppable = false → t.flow.driveLimiter.deferred = none) ∧ t.flow.reasons
         = v.reasonsInForce v.flow.reasons.level := by
  have h1 : FlowResponded v (refreshReasons v) := setReasons_flow _ _
  have h2 : FlowResponded (refreshReasons v) (evaluateDrive (refreshReasons v)) := evaluateDrive_flow _
  have hm1 : (refreshReasons v).mode = .faulted := by rw [flowResponded_mode h1, hm]
  have hm2 : (evaluateDrive (refreshReasons v)).mode = .faulted := by rw [flowResponded_mode h2, hm1]
  have hp1 : (refreshReasons v).hasProfile = true :=
      by unfold State.hasProfile; rw [flowResponded_station h1]; exact hp
  have hu1 : (refreshReasons v).unstoppable = v.unstoppable :=
      by unfold State.unstoppable State.hasRole State.role State.items; rw [flowResponded_station h1]
  obtain ⟨a, b, c, _⟩ := evaluateDrive_rest hp1 (by rw [hm1]; rfl)
  refine ⟨_, rfl, ?_, ?_, ?_, ?_⟩
  · rw [defrostTest_none (by rw [hm2]; rfl), doorTest_none (by rw [hm2]; rfl)]
    exact flowResponded_trans h1 (flowResponded_trans h2 (framesQueued_flowResponded (queueStatus_framesQueued _)))
  all_goals rw [framesQueued_flow (queueStatus_framesQueued _), defrostTest_none (by rw [hm2]; rfl),
      doorTest_none (by rw [hm2]; rfl)]
  · exact a
  · rw [← hu1]; exact b
  · rw [c]; exact setReasons_reasons _ _

end Sys2Proof.Laws
end

