-- ==== Sys2Proof/Laws/Line.lean ====
section
/-! SUPPORT. The frame in transmission, and one channel of six. -/

namespace Sys2Proof.Laws

open Sys2Proof Sys2Proof.Machine Sys2Proof.Safety

/-! ### The frame in transmission -/

/-- The frame in transmission, found. -/
theorem sendingEntry_eq {b a : List TxEntry} {e : TxEntry} (h : e.sending = true) (ho : ∀ x ∈ b ++ a,
    x.sending = false) : sendingEntry (b ++ e :: a) = some e := by
  unfold sendingEntry
  rw [List.find?_append, List.find?_eq_none.2 (fun x hx => by simp [ho x (List.mem_append_left _ hx)])]
  simp [h]

/-- The frame in transmission, removed. -/
theorem dropSending_eq {b a : List TxEntry} {e : TxEntry} (h : e.sending = true) (ho : ∀ x ∈ b ++ a,
    x.sending = false) : dropSending (b ++ e :: a) = b ++ a := by
  unfold dropSending
  rw [List.eraseP_append_right _ (fun x hx => by simp [ho x (List.mem_append_left _ hx)])]
  simp [h]

/-- The frame in transmission, waiting again. -/
theorem stopSending_eq {b a : List TxEntry} {e : TxEntry} (n) (h : e.sending = true) (ho : ∀ x ∈ b ++ a,
    x.sending = false) : stopSending n (b ++ e :: a) = b ++ { e with sending := false, attempts := n } :: a := by
  unfold stopSending
  have h1 : ∀ l : List TxEntry, (∀ x ∈ l, x.sending = false) → l.map
      (fun e => if e.sending then { e with sending := false, attempts := n } else e) = l := by
    intro l hl
    conv => rhs; rw [← List.map_id l]
    apply List.map_congr_left; intro x hx; simp [hl x hx]
  simp only [List.map_append, List.map_cons, h, if_true]
  rw [h1 b (fun x hx => ho x (List.mem_append_left _ hx)), h1 a (fun x hx => ho x (List.mem_append_right _ hx))]

/-- A bit error and a recessive acknowledge slot are failed attempts. -/
theorem exec_failedAttempt {s : State} {e : TxEntry} {c : Instr} (hm : s.mode ≠ .quiet)
    (hf : sendingEntry s.link.txq = some e)
  (hc : c = .acknowledgeSlot false ∨ ∃ bit driven, c = .bitError bit ∧ (sentBits e.frame)[bit]? = some driven
          ∧ (driven = true → bit = 0 ∨ 12 < bit)) : exec c s = done (failAttempt e s) := by
  rcases hc with rfl | ⟨bit, driven, rfl, h1, h2⟩
  · show execAcknowledgeSlot false s = _
    unfold execAcknowledgeSlot; simp only [hf]; rw [if_neg hm]; rfl
  · show execBitError bit s = _
    unfold execBitError; simp only [hf]; rw [if_pos]
    simp [hm, isBitError, h1]
    cases driven <;> simp_all

/-! ### Channels -/

/-- One channel of all six rewritten. -/
theorem mapChannels_get (f : Nat → Channel → Channel) (cs : Vector Channel 6) (ch : Nat) (h : ch < 6) :
    (mapChannels f cs)[ch] = f ch cs[ch] := by
  match ch, h with
  | 0, _ | 1, _ | 2, _ | 3, _ | 4, _ | 5, _ => rfl

end Sys2Proof.Laws
end

