-- ==== Sys2Proof/WellFormed.lean ====
section
/-! DEFINITION. Which operands a command can carry: the pins, bit positions and node numbers the part has. -/

namespace Sys2Proof

/-- The longest run of bits from class to check field that a frame's 5-bit length field can announce: 22 header
bits, 31 payload bytes and 16 check bits (R25). -/
def maxFrameBits : Nat := 22 + 8 * 31 + 16

/-- The bits of the longest frame a ZC410 sends, from its start bit to the last check bit (R25, R27). -/
def maxSentBits : Nat := 1 + 22 + 8 * 16 + 16

/-- The operand checks, one per row that carries an operand whose type is wider than its range. -/
def Instr.wellFormed : Instr → Bool
  | .fullReset station rate => decide (station ≤ 31) && decide (rate ≤ 3)
  | .arbitrationLoss bit => decide (bit < 12)
  | .bitError bit => decide (bit < maxSentBits)
  | .frameReceived bits => decide (bits.length ≤ maxFrameBits)
  | .peerStale node => decide (1 ≤ node) && decide (node ≤ 31)
  | .oneShotTick channel => decide (channel < 6)
  | .faultInput | .forwardCount _ | .reverseCount | .gapClose | .lengthClose | .arrivalAtT | .walkPassQueued
  | .gapRunEnd | .transmitStart | .acknowledgeSlot _ | .hold | .status | .walkPass | .walkSeen | .offer | .take
  | .pass | .profile | .profileEnd | .walkStart | .walkEnd | .run | .stop | .lot | .faultClear | .restart
  | .reportAsk | .eventReceived | .reportReceived | .statusTimerExpiry | .sampleExpiry _ _ _ _ | .throttleStep
  | .offerReplyExpiry _ | .reservationExpiry _ | .deferralExpiry _ | .doorCycleCompletion
  | .defrostIntervalExpiry | .defrostCompletion | .timeBaseTick _ | .faultInputInactive | .lineBusy => true

end Sys2Proof
end

