-- ==== Sys2Proof/Laws/PerInstr.lean ====
section
/-! SUPPORT. Statements about every command as syntax, one lemma per constructor. -/

namespace Sys2Proof.Laws.OperandBound

open Sys2Proof

/-- The ranges of the operands: a strap setting is 5 and 2 bits (R2), the arbitration bits are 12 (R25), a node is 1 to
31 (R46), a channel is 0 to 5 (chapter 9), and no frame is longer than its length field can announce (R25). -/
def Ranges : Instr → Prop
  | .fullReset station rate => station ≤ 31 ∧ rate ≤ 3
  | .faultInput => True
  | .forwardCount _ => True
  | .reverseCount => True
  | .gapClose => True
  | .lengthClose => True
  | .arrivalAtT => True
  | .walkPassQueued => True
  | .gapRunEnd => True
  | .transmitStart => True
  | .arbitrationLoss bit => bit < 12
  | .bitError bit => bit < maxSentBits
  | .acknowledgeSlot _ => True
  | .frameReceived bits => bits.length ≤ maxFrameBits
  | .hold => True
  | .status => True
  | .walkPass => True
  | .walkSeen => True
  | .offer => True
  | .take => True
  | .pass => True
  | .profile => True
  | .profileEnd => True
  | .walkStart => True
  | .walkEnd => True
  | .run => True
  | .stop => True
  | .lot => True
  | .faultClear => True
  | .restart => True
  | .reportAsk => True
  | .eventReceived => True
  | .reportReceived => True
  | .statusTimerExpiry => True
  | .peerStale node => 1 ≤ node ∧ node ≤ 31
  | .sampleExpiry _ _ _ _ => True
  | .throttleStep => True
  | .offerReplyExpiry _ => True
  | .reservationExpiry _ => True
  | .deferralExpiry _ => True
  | .doorCycleCompletion => True
  | .defrostIntervalExpiry => True
  | .defrostCompletion => True
  | .timeBaseTick _ => True
  | .oneShotTick channel => channel < 6
  | .faultInputInactive => True
  | .lineBusy => True

/-- A well-formed command has its operands in their ranges, and only such a command is well-formed. -/
def Statement (i : Instr) : Prop := i.wellFormed = true ↔ Ranges i

theorem fullReset (station rate : Nat) : Statement (.fullReset station rate) := by
  simp [Statement, Instr.wellFormed, Ranges]
theorem faultInput : Statement .faultInput := ⟨fun _ => trivial, fun _ => rfl⟩
theorem forwardCount (entryOn : Bool) : Statement (.forwardCount entryOn) := ⟨fun _ => trivial, fun _ => rfl⟩
theorem reverseCount : Statement .reverseCount := ⟨fun _ => trivial, fun _ => rfl⟩
theorem gapClose : Statement .gapClose := ⟨fun _ => trivial, fun _ => rfl⟩
theorem lengthClose : Statement .lengthClose := ⟨fun _ => trivial, fun _ => rfl⟩
theorem arrivalAtT : Statement .arrivalAtT := ⟨fun _ => trivial, fun _ => rfl⟩
theorem walkPassQueued : Statement .walkPassQueued := ⟨fun _ => trivial, fun _ => rfl⟩
theorem gapRunEnd : Statement .gapRunEnd := ⟨fun _ => trivial, fun _ => rfl⟩
theorem transmitStart : Statement .transmitStart := ⟨fun _ => trivial, fun _ => rfl⟩
theorem arbitrationLoss (bit : Nat) : Statement (.arbitrationLoss bit) := by
  simp [Statement, Instr.wellFormed, Ranges]
theorem bitError (bit : Nat) : Statement (.bitError bit) := by
  simp [Statement, Instr.wellFormed, Ranges]
theorem acknowledgeSlot (dominant : Bool) : Statement (.acknowledgeSlot dominant) := ⟨fun _ => trivial, fun _ => rfl⟩
theorem frameReceived (bits : List Bool) : Statement (.frameReceived bits) := by
  simp [Statement, Instr.wellFormed, Ranges]
theorem hold : Statement .hold := ⟨fun _ => trivial, fun _ => rfl⟩
theorem status : Statement .status := ⟨fun _ => trivial, fun _ => rfl⟩
theorem walkPass : Statement .walkPass := ⟨fun _ => trivial, fun _ => rfl⟩
theorem walkSeen : Statement .walkSeen := ⟨fun _ => trivial, fun _ => rfl⟩
theorem offer : Statement .offer := ⟨fun _ => trivial, fun _ => rfl⟩
theorem take : Statement .take := ⟨fun _ => trivial, fun _ => rfl⟩
theorem pass : Statement .pass := ⟨fun _ => trivial, fun _ => rfl⟩
theorem profile : Statement .profile := ⟨fun _ => trivial, fun _ => rfl⟩
theorem profileEnd : Statement .profileEnd := ⟨fun _ => trivial, fun _ => rfl⟩
theorem walkStart : Statement .walkStart := ⟨fun _ => trivial, fun _ => rfl⟩
theorem walkEnd : Statement .walkEnd := ⟨fun _ => trivial, fun _ => rfl⟩
theorem run : Statement .run := ⟨fun _ => trivial, fun _ => rfl⟩
theorem stop : Statement .stop := ⟨fun _ => trivial, fun _ => rfl⟩
theorem lot : Statement .lot := ⟨fun _ => trivial, fun _ => rfl⟩
theorem faultClear : Statement .faultClear := ⟨fun _ => trivial, fun _ => rfl⟩
theorem restart : Statement .restart := ⟨fun _ => trivial, fun _ => rfl⟩
theorem reportAsk : Statement .reportAsk := ⟨fun _ => trivial, fun _ => rfl⟩
theorem eventReceived : Statement .eventReceived := ⟨fun _ => trivial, fun _ => rfl⟩
theorem reportReceived : Statement .reportReceived := ⟨fun _ => trivial, fun _ => rfl⟩
theorem statusTimerExpiry : Statement .statusTimerExpiry := ⟨fun _ => trivial, fun _ => rfl⟩
theorem peerStale (node : Nat) : Statement (.peerStale node) := by
  simp [Statement, Instr.wellFormed, Ranges]
theorem sampleExpiry (p0 p1 p2 p3 : Int) : Statement (.sampleExpiry p0 p1 p2 p3) := ⟨fun _ => trivial, fun _ => rfl⟩
theorem throttleStep : Statement .throttleStep := ⟨fun _ => trivial, fun _ => rfl⟩
theorem offerReplyExpiry (tag : Tag) : Statement (.offerReplyExpiry tag) := ⟨fun _ => trivial, fun _ => rfl⟩
theorem reservationExpiry (tag : Tag) : Statement (.reservationExpiry tag) := ⟨fun _ => trivial, fun _ => rfl⟩
theorem deferralExpiry (limiter : LimiterId) : Statement (.deferralExpiry limiter) := ⟨fun _ => trivial, fun _ => rfl⟩
theorem doorCycleCompletion : Statement .doorCycleCompletion := ⟨fun _ => trivial, fun _ => rfl⟩
theorem defrostIntervalExpiry : Statement .defrostIntervalExpiry := ⟨fun _ => trivial, fun _ => rfl⟩
theorem defrostCompletion : Statement .defrostCompletion := ⟨fun _ => trivial, fun _ => rfl⟩
theorem timeBaseTick (base : MsBase) : Statement (.timeBaseTick base) := ⟨fun _ => trivial, fun _ => rfl⟩
theorem oneShotTick (channel : Nat) : Statement (.oneShotTick channel) := by
  simp [Statement, Instr.wellFormed, Ranges]
theorem faultInputInactive : Statement .faultInputInactive := ⟨fun _ => trivial, fun _ => rfl⟩
theorem lineBusy : Statement .lineBusy := ⟨fun _ => trivial, fun _ => rfl⟩

end Sys2Proof.Laws.OperandBound
end

