-- ==== Sys2Proof/Laws/Zone.lean ====
section
/-! SUPPORT. Closes, the examination of the zone queue, the neighbour record, and states that end formation. -/

namespace Sys2Proof.Laws

open Sys2Proof Sys2Proof.Machine Sys2Proof.Safety

/-! ### The examination of the queue -/

/-- A response is the same from another count of UNTAKEN_PASS. -/
theorem blocksResponded_setUntaken {s t : State} (h : BlocksResponded s t)
    (n) : BlocksResponded { s with counters.untakenPass := n } { t with counters.untakenPass := n } :=
  blocksResponded_update h (fun s => { s with counters.untakenPass := n }) rfl (fun _ => rfl) (fun _ => rfl)

/-- A pass: UNTAKEN_PASS, and responses. -/
theorem passRecord_blocks (s : State) (t : Tag) : ∃ n, BlocksResponded { s with counters.untakenPass := n }
    (passRecord s t) := by
  unfold passRecord
  split
  · exact ⟨s.counters.untakenPass, blocksResponded_refl _⟩
  · dsimp only
    split
    · exact ⟨s.counters.untakenPass, framesQueued_blocks (framesQueued_trans
        (setHandover_framesQueued _ _ _ s) (queueFrame_framesQueued _ _))⟩
    · refine ⟨min (s.counters.untakenPass + 1) 65535, framesQueued_blocks (framesQueued_trans ?_
        (queueFrame_framesQueued _ _))⟩
      exact setHandover_framesQueued t .passed _ { s with counters.untakenPass := min (s.counters.untakenPass + 1) 65535 }

/-- All due passes: UNTAKEN_PASS, and responses. -/
theorem makePasses_blocks (s : State) : ∃ n, BlocksResponded { s with counters.untakenPass := n } (makePasses s) := by
  unfold makePasses
  generalize (List.filter (passDue s) s.tracking.zone).map (·.tag) = l
  induction l generalizing s with
  | nil => exact ⟨s.counters.untakenPass, blocksResponded_refl _⟩
  | cons t l ih =>
    obtain ⟨n, h⟩ := passRecord_blocks s t
    obtain ⟨m, h'⟩ := ih (passRecord s t)
    exact ⟨m, blocksResponded_trans (blocksResponded_setUntaken h m) h'⟩

/-- The examination of the zone queue: UNTAKEN_PASS, and responses. -/
theorem examineZone_blocks (s : State) : ∃ n, BlocksResponded { s with counters.untakenPass := n }
    (examineZone s) := by
  unfold examineZone
  split
  · obtain ⟨n, h⟩ := makePasses_blocks (makeOffers s)
    exact ⟨n, blocksResponded_trans (blocksResponded_setUntaken (framesQueued_blocks
        (makeOffers_framesQueued s)) n) (blocksResponded_trans h (evaluateDrive_blocks _))⟩
  · exact ⟨s.counters.untakenPass, evaluateDrive_blocks s⟩

/-! ### The merge-bound segment -/

/-- The examination of the queue keeps the merge-bound segment. -/
theorem examineZone_mergeBound (s : State) : (examineZone s).tracking.mergeBound = s.tracking.mergeBound := by
  obtain ⟨n, h⟩ := examineZone_blocks s; have := blocksResponded_mergeBound h; exact this

/-- Mass joining the zone keeps the tracking unit. -/
theorem gainLoad_tracking (m) (s : State) : (gainLoad m s).tracking = s.tracking := by unfold gainLoad; split <;> rfl

/-- A merge keeps the merge-bound segment. -/
theorem mergeInto_mergeBound (l r) (s : State) : (mergeInto l r s).tracking.mergeBound = s.tracking.mergeBound := by
  unfold mergeInto queueEvent; rw [framesQueued_mergeBound (queueFrame_framesQueued _ _)]; rfl

/-- A record that enters keeps the merge-bound segment. -/
theorem enterVia_mergeBound (examine : State → State)
    (hx : ∀ s, (examine s).tracking.mergeBound = s.tracking.mergeBound) (r : UnitRecord) (s : State) :
    (enterVia examine r s).tracking.mergeBound = s.tracking.mergeBound := by
  unfold enterVia
  split
  · rw [hx]; rfl
  split
  · rw [hx]; rfl
  split
  · split
    · rw [hx]; rfl
    · rw [mergeInto_mergeBound, gainLoad_tracking]
  · rw [mergeInto_mergeBound]

theorem enterRecord_mergeBound (r : UnitRecord) (s : State) :
    (enterRecord r s).tracking.mergeBound = s.tracking.mergeBound :=
  enterVia_mergeBound _ examineZone_mergeBound r s

theorem enterInCount_mergeBound (r : UnitRecord) (s : State) :
    (enterInCount r s).tracking.mergeBound = s.tracking.mergeBound :=
  enterVia_mergeBound _ (fun _ => rfl) r s

/-- After a close no segment is merge-bound. -/
theorem closeForming_mergeBound (enter : UnitRecord → State → State)
    (he : ∀ r s, (enter r s).tracking.mergeBound = s.tracking.mergeBound) (changed : Nat × Nat → State → State) (hc : ∀ c s, s.tracking.mergeBound
    = none → (changed c s).tracking.mergeBound = none) (f) (s : State) :
   (closeForming enter changed f s).tracking.mergeBound = none := by
  unfold closeForming
  split
  · dsimp only
    split
    · rfl
    · apply hc; rw [he, gainLoad_tracking]
  · next h =>
    split
    · exact h
    split
    · dsimp only; split
      · apply hc; exact h
      · rw [gainLoad_tracking]; exact h
    · exact h

/-- The responses to a change of the queue keep the merge-bound segment. -/
theorem queueChanged_mergeBound (c) (s : State) : (queueChanged c s).tracking.mergeBound
    = s.tracking.mergeBound := blocksResponded_mergeBound (queueChanged_blocks c s)

/-! ### Closes -/

/-- A close of a forming last record: its length, its mass, and the load input. -/
theorem closeForming_last (enter) (changed) (f : Nat → Nat) (s : State) (zone : List UnitRecord) (r : UnitRecord)
    (h : s.tracking.mergeBound = none)
   (hz : s.tracking.zone = zone ++ [r]) (hf : r.forming = true) (hn : f r.head ≠ 0) :
   ∃ g, closeForming enter changed f s
       = { s with tracking.zone := zone ++ [{ r with length := f r.head, mass := min (roundDiv (f r.head * s.loading) 256) 65535, forming := false}], flow.loadInput := g } := by
  have hl : s.tracking.zone.getLast? = some r := by rw [hz]; simp
  unfold closeForming
  simp only [h, hl, hf, if_true, hn, if_false]
  unfold gainLoad
  split
  · exact ⟨_, by simp [replaceLast, closedRecord, massOf, sat16, hz]; rfl⟩
  · exact ⟨s.flow.loadInput, by simp [replaceLast, closedRecord, massOf, sat16, hz]⟩

/-! ### States that end formation -/

/-- Setting the neighbour record: the record, and responses. -/
theorem setNeighbours_blocks (n : Neighbours) (s : State) : BlocksResponded { s with peer.neighbours := n }
    (setNeighbours n s) := by
  unfold setNeighbours
  dsimp only
  have h2 : BlocksResponded { s with peer.neighbours := n } (if n.upstream = s.peer.neighbours.upstream
      ∧ n.downstream = s.peer.neighbours.downstream then { s with peer.neighbours := n } else queueStatus { s with peer.neighbours := n }) := by
    split
    · exact blocksResponded_refl _
    · exact framesQueued_blocks (queueStatus_framesQueued _)
  have h3 := h2
  revert h3
  generalize (if n.upstream = s.peer.neighbours.upstream ∧ n.downstream
      = s.peer.neighbours.downstream then { s with peer.neighbours := n } else queueStatus { s with peer.neighbours := n }) = s2
  intro h3
  have h4 : BlocksResponded { s with peer.neighbours := n } (if n.downstream
      = s.peer.neighbours.downstream then s2 else handDownstream s.downstreamEntry (evaluateChain s2)) := by
    split
    · exact h3
    · exact blocksResponded_trans h3 (blocksResponded_trans (evaluateChain_blocks _) (handDownstream_blocks _ _))
  split
  · exact h4
  · exact blocksResponded_trans h4 (framesQueued_blocks (queueHold_framesQueued _))

/-- A state that ends formation leaves no merge-bound segment. -/
theorem respondToState_mergeBound (old : StationState) (s : State) (h : s.tracking.mergeBound
    = none ∨ endsFormation old s.mode = true) : (respondToState old s).tracking.mergeBound = none := by
  unfold respondToState
  dsimp only
  have h1 : (if endsFormation old s.mode then closeForming enterRecord queueChanged id s else s).tracking.mergeBound = none := by
    split
    · exact closeForming_mergeBound _ enterRecord_mergeBound _ (fun c s h => by rw [queueChanged_mergeBound, h]) _ _
    · next hh => simpa [hh] using h
  generalize (if endsFormation old s.mode then closeForming enterRecord queueChanged id s else s) = u at h1
  rw [framesQueued_mergeBound (queueStatus_framesQueued _), blocksResponded_mergeBound (doorTest_blocks _),
      blocksResponded_mergeBound (defrostTest_blocks _), blocksResponded_mergeBound (evaluateDrive_blocks _),
      blocksResponded_mergeBound (refreshReasons_blocks _)]
  have : (discardWalk old u).tracking.mergeBound = none := by
    unfold discardWalk; split
    · rw [blocksResponded_mergeBound (setNeighbours_blocks _ _)]; exact h1
    · exact h1
  generalize discardWalk old u = v at this
  unfold stateAborts
  split
  · show (withdrawDoor (abortDefrost v)).tracking.mergeBound = none
    rw [blocksResponded_mergeBound (withdrawDoor_blocks _)]
    unfold abortDefrost; split <;> exact this
  split
  · rw [blocksResponded_mergeBound (withdrawDoor_blocks _)]; exact this
  · exact this

/-- Responses to a state that is neither FAULTED nor DRAINING. -/
theorem respondToState_queueWritten (old : StationState) (s : State) (hf : s.mode ≠ .faulted) :
    s.mode ≠ .draining → QueueWritten s (respondToState old s) := by
  intro hdr
  have h1 : QueueWritten s (if endsFormation old s.mode then closeForming enterRecord queueChanged id s else s) := by
    split
    · exact closeForming_queue _ enterRecord_queue _ queueChanged_queue id s
    · exact queueWritten_refl s
  have hm : (if endsFormation old s.mode then closeForming enterRecord queueChanged id s else s).mode = s.mode := by
    rcases h1.2 with h | h
    · exact h
    · exact absurd h.1 hdr
  unfold respondToState
  dsimp only
  generalize (if endsFormation old s.mode then closeForming enterRecord queueChanged id s else s) = u at h1 hm
  have hd : BlocksResponded u (stateAborts (discardWalk old u)) := by
    have : discardWalk old u = u := by unfold discardWalk; rw [if_neg (by simp [hm, hf])]
    rw [this]
    unfold stateAborts
    rw [if_neg (by simp [hm, hf])]
    split
    · exact withdrawDoor_blocks _
    · exact blocksResponded_refl _
  exact queueWritten_trans h1 (blocksResponded_queue (blocksResponded_trans hd (blocksResponded_trans
      (refreshReasons_blocks _)
    (blocksResponded_trans (evaluateDrive_blocks _) (blocksResponded_trans (defrostTest_blocks _)
      (blocksResponded_trans (doorTest_blocks _) (framesQueued_blocks (queueStatus_framesQueued _))))))))

/-- Entering such a state. -/
theorem enterState_queue (new : StationState) (s : State) (hf : new ≠ .faulted) (hp : new ≠ .draining) :
    QueueWritten { s with mode := new } (enterState new s) := by
  unfold enterState
  have h1 := changePosture_blocks s.mode { s with mode := new }
  have hm := blocksResponded_mode h1
  exact queueWritten_trans
      (blocksResponded_queue h1) (respondToState_queueWritten _ _ (by rw [hm]; exact hf) (by rw [hm]; exact hp))

/-- The drain test makes no segment merge-bound. -/
theorem drainTest_mergeBound (s : State) (h : s.tracking.mergeBound = none) :
    (drainTest s).tracking.mergeBound = none := by
  unfold drainTest
  split
  · unfold enterState; apply respondToState_mergeBound; left; rw [blocksResponded_mergeBound
      (changePosture_blocks _ _)]; exact h
  · exact h

/-- The responses to a change of the queue make no segment merge-bound. -/
theorem zoneChanged_mergeBound (c) (s : State) (h : s.tracking.mergeBound = none) :
    (zoneChanged c s).tracking.mergeBound = none := by
  unfold zoneChanged; apply drainTest_mergeBound; rw [queueChanged_mergeBound]; exact h

/-! ### With no segment forming -/

/-- Records that differ in handover fields alone form alike. -/
theorem sameUnits_forming {z z' : List UnitRecord} (h : SameUnits z z') : z'.any (·.forming) = z.any (·.forming) := by
  have e := congrArg (fun l => l.any (·.forming)) h
  simpa [List.any_map, Function.comp_def, withoutHandover] using e

/-- Responses keep whether a segment forms. -/
theorem formingNow_blocksResponded {s t : State} (h : BlocksResponded s t) : t.formingNow = s.formingNow := by
  unfold State.formingNow
  rw [blocksResponded_mergeBound h, sameUnits_forming h.2.1]

/-- With no segment forming there is nothing to close. -/
theorem closeForming_none (enter changed f) {s : State} (h : s.formingNow = false) :
    closeForming enter changed f s = s := by
  simp only [State.formingNow, Bool.or_eq_false_iff, Option.isSome_eq_false_iff, Option.isNone_iff_eq_none] at h
  unfold closeForming
  rw [h.1]
  dsimp only
  split
  · rfl
  · next r hr =>
    have := List.any_eq_false.1 h.2 r (List.mem_of_getLast? hr)
    rw [if_neg (by simpa using this)]

/-- Entering a state that is not FAULTED, with no segment forming. -/
theorem enterState_none (new : StationState) {s : State} (hf : new ≠ .faulted) (h : s.formingNow = false) :
    BlocksResponded { s with mode := new } (enterState new s) := by
  unfold enterState
  have h1 := changePosture_blocks s.mode { s with mode := new }
  have hm : (changePosture s.mode { s with mode := new }).mode = new := blocksResponded_mode h1
  have hn : (changePosture s.mode { s with mode := new }).formingNow = false :=
    (formingNow_blocksResponded h1).trans h
  generalize changePosture s.mode { s with mode := new } = u at h1 hm hn
  unfold respondToState
  dsimp only
  have hc : (if endsFormation s.mode u.mode then closeForming enterRecord queueChanged id u else u) = u := by
    split
    · exact closeForming_none _ _ _ hn
    · rfl
  rw [hc]
  have hd : BlocksResponded u (stateAborts (discardWalk s.mode u)) := by
    have : discardWalk s.mode u = u := by unfold discardWalk; rw [if_neg (by simp [hm, hf])]
    rw [this]
    unfold stateAborts
    rw [if_neg (by simp [hm, hf])]
    split
    · exact withdrawDoor_blocks _
    · exact blocksResponded_refl _
  exact blocksResponded_trans h1 (blocksResponded_trans hd (blocksResponded_trans (refreshReasons_blocks _)
    (blocksResponded_trans (evaluateDrive_blocks _) (blocksResponded_trans (defrostTest_blocks _)
      (blocksResponded_trans (doorTest_blocks _) (framesQueued_blocks (queueStatus_framesQueued _)))))))

/-! ### The drain test after a change of the queue -/

/-- The drain test after responses: nothing more, or a complete drain. -/
theorem drainTest_responded {s u : State} (h : BlocksResponded s u) : QueueResponded s (drainTest u) := by
  by_cases hd : u.mode = .draining ∧ Drained u
  · have hm := (blocksResponded_mode h).symm.trans hd.1
    have hr := drainTest_drained hd.1 hd.2
    refine .inr ⟨hm, (drained_blocksResponded h).1 hd.2, hr, ?_, ?_⟩
    · exact queueWritten_trans (blocksResponded_queue h) (drainTest_queue u)
    · intro hn
      rw [hr]
      have e : drainTest u = enterState .ready u := by
        unfold drainTest
        rw [if_pos (by simp [hd.1, (drained_iff u).2 hd.2])]
      rw [e]
      exact blocksResponded_trans (blocksResponded_setMode h .ready)
        (enterState_none .ready nofun ((formingNow_blocksResponded h).trans hn))
  · left
    have : drainTest u = u := by
      unfold drainTest
      rw [if_neg]
      intro hc
      simp only [Bool.and_eq_true, decide_eq_true_eq] at hc
      exact hd ⟨hc.1, (drained_iff u).1 hc.2⟩
    rw [this]; exact h

/-- A change of the zone queue or the arrivals list, handed on. -/
theorem zoneChanged_responded (c : Nat × Nat) (s : State) : QueueResponded s (zoneChanged c s) :=
  drainTest_responded (queueChanged_blocks c s)

/-- How a command ends is a response. -/
theorem queueResponded_settle {s t : State} (h : QueueResponded s t) : QueueResponded s (settle t) := by
  have h1 := settle_blocks t
  rcases h with h | ⟨a, b, c, d, e⟩
  · exact .inl (blocksResponded_trans h h1)
  · exact .inr ⟨a, b, (blocksResponded_mode h1).trans c, queueWritten_trans d (blocksResponded_queue h1),
      fun hn => by rw [blocksResponded_mode h1]; exact blocksResponded_trans (e hn) h1⟩

end Sys2Proof.Laws
end

