-- ==== Sys2Proof/Tests/Slice0.lean ====
section
/-! SUPPORT. Tests: the checks of WellFormed, figures that the manual states, and for every statement with hypotheses a
concrete state and operands that meet them. -/

namespace Sys2Proof.Tests

open Sys2Proof Sys2Proof.Machine Sys2Proof.Safety

-- One test after another: tests evaluated side by side each hold a thread.
set_option Elab.async false

/-! ### WellFormed refuses a term for each check -/

theorem test_wf_station : Instr.wellFormed (.fullReset 32 0) = false := by decide
theorem test_wf_rate : Instr.wellFormed (.fullReset 1 4) = false := by decide
theorem test_wf_arbitration_bit : Instr.wellFormed (.arbitrationLoss 12) = false := by decide
theorem test_wf_frame_bit : Instr.wellFormed (.bitError maxSentBits) = false := by decide
theorem test_wf_frame_length : Instr.wellFormed (.frameReceived (List.replicate 287 true)) = false := by decide +kernel
theorem test_wf_node_low : Instr.wellFormed (.peerStale 0) = false := by decide
theorem test_wf_node_high : Instr.wellFormed (.peerStale 32) = false := by decide
theorem test_wf_channel : Instr.wellFormed (.oneShotTick 6) = false := by decide

/-- No row of the table has bits, so no word spells a command and the queue is as it was. -/
theorem test_no_word_spells : (State.reset.withFetchWord 32 0).pending = [] := by decide

/-! ### Stations of the pea line -/

/-- A profile from item numbers, in increasing order, and values. -/
def items (l : List (Nat × Nat)) : Profile := l.map (fun (n, v) => (n, BitVec.ofNat 32 v))

/-- The state that a command leaves. -/
def after (c : Instr) (s : State) : State :=
  match exec c s with
  | .next t => t
  | .fault _ => s
  | .refused _ => s

/-- A command answers a next state, the one that `after` names. -/
theorem next_after {c : Instr} {s : State} (h : (match exec c s with | .next _ => true | _ => false) = true) :
    Next c s (after c s) := by
  unfold after Next
  cases hc : exec c s <;> simp_all

/-- An accepted station in a state, its upstream and downstream heard and in RUNNING at station time 0. -/
def station (n : Nat) (p : List (Nat × Nat)) (m : StationState) : State :=
  { State.reset with
    mode := m
    station := ⟨n, 1, [], some (items p), false⟩
    peer := { resetPeerView 0 with
      peers := Vector.replicate 31 ⟨some 0, false, false, 4, 0#8⟩
      neighbours := ⟨itemNat (items p) 12, itemNat (items p) 13, itemNat (items p) 14⟩ } }

/-- A step is the command at the front of the queue. -/
theorem step_after {c : Instr} {rest : List Instr} {s : State} (hp : s.pending = c :: rest)
    (h : (match exec c { s with pending := rest } with | .next _ => true | _ => false) = true) :
    step s = .next (after c { s with pending := rest }) := by
  unfold step
  simp only [hp]
  exact next_after h

def withFrame (f : Frame) (s : State) : State := { s with link.rxq := [f] }

/-- Station 3, BLANCH and head (sections 4.11 and 6.7). -/
def profile3 : List (Nat × Nat) :=
  [(1, 1), (2, 1), (3, 6000), (4, 500), (5, 500), (6, 100), (7, 12), (8, 6), (13, 7), (17, 640), (18, 800), (19, 60)]
    ++ [(20, 0), (21, 48), (22, 8), (23, 16), (24, 5), (25, 14000), (26, 400 * 65536 + 2400)]
    ++ [(27, 2400 * 65536 + 3900), (28, 3900 * 65536 + 4320), (30, 900), (31, 100), (32, 40000), (33, 60000)]
    ++ [(34, 5000), (35, 3), (49, 0x06010000), (55, 0), (67, 1000)]

/-- Station 12, CONVEY (section 1.9), with the reject flap of section 9.8 and a pulse on a defrost start at CH5. -/
def profile12 : List (Nat × Nat) :=
  [(1, 0), (2, 0), (3, 4000), (4, 600), (5, 500), (6, 200), (7, 12), (8, 6), (9, 300000), (10, 5000), (11, 3000)]
    ++ [(12, 9), (13, 14), (14, 180), (15, 40), (16, 256), (17, 640), (18, 800), (19, 60)]

def profile12Flap : List (Nat × Nat) := profile12 ++ [(50, 0x07000003), (56, 2000 * 65536 + 2300), (62, 504)]

/-- Station 9, FREEZE (chapters 5, 6 and 8). -/
def profile9 : List (Nat × Nat) :=
  [(1, 3), (2, 0), (3, 8000), (4, 600), (5, 500), (6, 200), (7, 12), (8, 6), (9, 300000), (10, 5000), (11, 3000)]
    ++ [(12, 7), (13, 12), (14, 220), (15, 30), (16, 320), (17, 640), (18, 800), (19, 60), (26, 300 * 65536 + 3500)]
    ++ [(27, 3500 * 65536 + 6700), (34, 6900), (35, 5), (36, 4294967116), (37, 6000), (38, 2), (39, 1500), (40, 1200)]
    ++ [(41, 4294967121), (42, 40), (43, 3), (44, 4), (45, 6), (46, 4), (47, 600), (48, 2)]

/-- Station 14, BAG (section 10.6), with a label pulse of 200 ms to 1,700 ms at CH2. -/
def profile14 : List (Nat × Nat) :=
  [(1, 4), (2, 0), (3, 2500), (4, 400), (5, 500), (6, 200), (7, 12), (8, 6), (9, 300000), (10, 5000), (11, 3000)]
    ++ [(12, 12), (13, 20), (14, 120), (15, 40), (16, 256), (17, 640), (18, 800), (19, 60), (51, 0x08000002)]
    ++ [(57, 200 * 65536 + 1700), (69, 1200), (70, 1000), (71, 50), (72, 150)]

/-- Station 20, TRANSFER and tail (section 10.7). -/
def profile20 : List (Nat × Nat) :=
  [(1, 5), (2, 2), (3, 2000), (5, 500), (6, 200), (7, 12), (8, 6), (9, 0), (10, 0), (11, 3000), (12, 14), (14, 200)]
    ++ [(15, 40), (16, 256), (17, 640), (18, 800), (19, 60), (73, 1500), (74, 2), (75, 20000), (76, 600000), (77, 30000)]

/-- A closed segment of station 3. -/
def segment (seq head length mass disposition : Nat) : UnitRecord :=
  ⟨mkTag 3 seq, .segment, 5120, head, length, mass, none, none, disposition, true, true, false, .localUnit, 0⟩

/-- The forming segment of station 3. -/
def formingSegment (seq head : Nat) : UnitRecord :=
  { formedRecord (mkTag 3 seq) 5120 0 with head := head, length := head }

def tags (s : State) : List Nat := s.tracking.zone.map (fun r => r.tag.toNat)

/-! ### Figures of the manual -/

/-- Section 1.9: station 12's profile of 19 items passes, and a count of 18 fails stage 1. -/
theorem test_profile_station12 :
    (profileFailure (items profile12) 19, profileFailure (items profile12) 18) = (none, some (1, 0)) := by
  decide +kernel

/-- Sections 6.6, 8.9, 10.6 and 10.7: the other stations' profiles pass. -/
theorem test_profiles_pass :
    [profile3, profile9, profile12Flap, profile14, profile20].map (fun p => profileFailure (items p) p.length)
      = [none, none, none, none, none] := by decide +kernel

/-- The check value of generator 0x1021 preset to all ones, over the digits 1 to 9. -/
theorem test_check_field : checkField
    (payloadBits [49#8, 50#8, 51#8, 52#8, 53#8, 54#8, 55#8, 56#8, 57#8]) = 0x29B1#16 := by decide +kernel

/-- Section 2.9: the arbitration values of the six frames. -/
theorem test_arbitration_values :
    [arbitration ⟨.hold, 9, 7, []⟩, arbitration ⟨.offer, 3, 7, []⟩, arbitration ⟨.take, 7, 3, []⟩,
      arbitration ⟨.status, 12, 0, []⟩, arbitration ⟨.event, 14, 0, []⟩, arbitration ⟨.run, 30, 0, []⟩]
      = [41, 1091, 1127, 2220, 3342, 3742] := by decide

/-- Section 2.9: at 250 kbit/s, 4 microseconds a bit, the six frames take 2,272 microseconds. -/
theorem test_frame_times :
    ([⟨.hold, 9, 7, [1#8, 1#8]⟩, ⟨.offer, 3, 7, List.replicate 16 0#8⟩, ⟨.take, 7, 3, [0#8, 0#8]⟩,
      ⟨.status, 12, 0, List.replicate 10 0#8⟩, ⟨.event, 14, 0, List.replicate 5 0#8⟩, ⟨.run, 30, 0, []⟩].map
        (fun f => 4 * frameBitTimes f)) = [256, 704, 256, 512, 352, 192] := by decide +kernel

/-- Section 2.10: station 9's full queue. -/
def fullQueue : State :=
  let wait (k : Kind) (p : List Byte) (n : Nat) : TxEntry := ⟨⟨k, 9, 0, p⟩, n, false, false⟩
  { station 9 profile9 .running with
    link.txq := [wait .offer [] 0, wait .pass [] 0, wait .status [] 2, wait .event [1#8] 0, wait .event [2#8] 0,
      wait .event [3#8] 0, wait .event [4#8] 0, wait .report [] 0] }

/-- Section 2.10: a HOLD, an EVENT, a STATUS and a TAKE join the full queue. -/
theorem test_full_queue :
    (let s := [⟨.hold, 9, 7, []⟩, ⟨.event, 9, 0, [5#8]⟩, ⟨.status, 9, 0, [6#8]⟩, ⟨.take, 9, 7, []⟩].foldl
      (fun s f => queueFrame f s) fullQueue
    (s.link.txq.map (fun e => (arbitration e.frame, e.frame.payload.length, e.attempts)), s.counters.txDrop))
      = ([(41, 0, 0), (1097, 0, 0), (1129, 0, 0), (1161, 0, 0), (2217, 1, 2), (3337, 1, 0), (3337, 1, 0), (3337, 1, 0)],
          3) := by decide +kernel

/-- Section 3.10: a second WALK_SEEN replaces station 14 by 12 as station 9's downstream, with datum 782. -/
theorem test_walk_seen_replaces :
    (let s := { station 9 profile9 .walking with peer.walk := some ⟨true, true, 7, 220, 0, true⟩,
                                                 peer.neighbours := ⟨7, 14, 220⟩ }
    let t := after .walkSeen (withFrame ⟨.walkSeen, 12, 0, 9#8 :: be16 180⟩ s)
    (t.downstream, (t.link.txq.getLast?).map (·.frame.payload))) = (12, some ([5#8] ++ be16 782 ++ be16 12)) := by
  decide +kernel

/-- Section 4.11, counts 1,059 and 1,060: the gap close of 3/401. -/
def gapCount : State :=
  { station 3 profile3 .running with
    tracking := ⟨[segment 400 1058 800 2000 0, formingSegment 401 257], none, 59, 0, 402, 5120⟩ }

theorem test_gap_close :
    (after (.forwardCount false) gapCount).tracking.zone.map (fun r => (r.head, r.length, r.mass, r.forming))
      = [(1059, 800, 2000, false), (258, 198, 495, false)] := by decide +kernel

/-- Section 4.11, count 801: the length close leaves the entry covered, and no segment starts. -/
theorem test_length_close :
    (after (.forwardCount true)
      { station 3 profile3 .running with
        tracking := ⟨[formingSegment 400 799], none, 0, 0, 401, 5120⟩ }).tracking.zone.map
          (fun r => (r.head, r.length, r.mass, r.forming)) = [(800, 800, 2000, false)] := by decide +kernel

/-- Section 4.11, between counts 1,500 and 1,501: LOT closes 3/402 with the lot it had. -/
theorem test_lot_closes :
    (let s := { station 3 profile3 .running with tracking := ⟨[formingSegment 402 300], none, 0, 0, 403, 5120⟩ }
    let t := after .lot (withFrame ⟨.lot, 30, 3, be16 5121⟩ s)
    (t.tracking.currentLot, t.tracking.zone.map (fun r => (r.lot, r.length, r.mass)))) = (5121, [(5120, 300, 750)]) := by
  decide +kernel

/-- R95 and R118: LOT closes a merge-bound segment past the zone end. Its record is passed at its insertion, unjudged. -/
theorem test_insertion_passes :
    (let s := { station 3 ((3, 300) :: profile3) .running with
      tracking := ⟨[], some ⟨mkTag 3 402, 5120, 0, 310⟩, 0, 0, 403, 5120⟩ }
    (after .lot (withFrame ⟨.lot, 30, 3, be16 5121⟩ s)).tracking.zone.map
      (fun r => (r.head, r.handover, r.blanchMade))) = [(310, .passed, false)] := by decide +kernel

/-- Section 4.12: 24 records, the last of them 3/1180. -/
def spill : State :=
  { station 12 profile12 .running with
    tracking := ⟨(List.range 23).map (fun i => segment (1150 + i) (3300 - 100 * i) 80 100 0)
      ++ [segment 1180 249 120 300 0], some ⟨mkTag 12 57, 0, 7, 98⟩, 59, 0, 58, 0⟩ }

/-- Section 4.12: the spill is absorbed by 3/1180, which becomes MIXED with 398 g. -/
theorem test_spill_merges :
    (let t := after (.forwardCount false) spill
    ((t.tracking.zone.getLast?).map (fun r => (r.head, r.length, r.mass, r.disposition)), t.counters.merged,
      t.tracking.zone.length)) = (some (250, 159, 398, 8), 1, 24) := by decide +kernel

/-- Section 5.8.1: 3/401 armed at station 9. -/
def armed401 : Arrival :=
  ⟨true, ⟨mkTag 3 401, .segment, 5120, 240, 495, some 48300, some 61200, 0, true, true⟩, 0, 219⟩

/-- Section 5.8.1: 3/401 is placed at the transfer distance 220, scaled by 320/256, with a dwell of its own. -/
theorem test_placement :
    ((after (.forwardCount true) { station 9 profile9 .running with arrivals := [armed401] }).tracking.zone.map
      (fun r => (r.head, r.length, r.mass, r.dose, r.dwell))) = [(0, 300, 495, some 48300, some 0)] := by decide +kernel

/-- Section 6.6: the increments of the table, for T_REF 900, Z_VALUE 100 and SAMPLE_PERIOD 100. -/
theorem test_lethal_increments :
    ([1250, 1100, 1000, 951, 950, 948, 935, 900, 840, 800, 600, 500, -200].map
      (fun t => lethalIncrement (lethalRate (exponentOf 900 100 t)) 100))
      = [10000, 10000, 1000, 325, 316, 302, 225, 100, 25, 10, 0, 0, 0] := by decide +kernel

/-- Section 6.8, expiries 4 and 5: the held value of probe 1 adds 325, then the stale probe raises to UNVERIFIED. -/
def failingProbe (run : Nat) : State :=
  { station 3 profile3 .running with
    dose := ⟨some ⟨100, 0⟩, #v[⟨some 935, 0⟩, ⟨some 951, run⟩, ⟨some 900, 0⟩, ⟨none, 0⟩]⟩
    tracking.zone := [{ segment 610 3000 200 100 0 with dose := some 30975, blanchMade := false }] }

theorem test_held_probe :
    (after (.sampleExpiry 935 5000 900 0) (failingProbe 2)).tracking.zone.map (fun r => (r.dose, r.disposition))
      = [(some 31300, 0)] := by decide +kernel

theorem test_stale_probe :
    (let t := after (.sampleExpiry 935 5000 900 0) (failingProbe 3)
    (t.tracking.zone.map (fun r => (r.dose, r.disposition)), t.counters.probeStale)) = ([(some 30975, 3)], 1) := by
  decide +kernel

/-- Section 7.8: the deferral at 114,000 ms, with datum 3 and 1,961 units of 100 ms. -/
def heldDrive : State :=
  { station 12 profile12 .running with
    now := 114000
    peer.peers := (Vector.replicate 31 ⟨some 114000, false, false, 4, 0#8⟩).set 13 ⟨some 114000, false, true, 4, 1#8⟩
    flow.driveLimiter := ⟨[10000, 40000, 70000, 100000], some 112000, none⟩ }

theorem test_deferred_start :
    (let t := after .hold (withFrame ⟨.hold, 14, 12, [0#8, 0#8]⟩ heldDrive)
    (t.flow.driveLimiter.deferred, t.link.txq.map (·.frame.payload)))
      = (some 310001, [[11#8] ++ be16 3 ++ be16 1961]) := by decide +kernel

/-- Section 7.8: the grant at 310,001 ms drops the entry of 10,000. -/
theorem test_deferral_granted :
    (let t := after (.deferralExpiry .drive)
      { heldDrive with now := 310001, flow.driveLimiter.deferred := some 310001,
                       peer.peers := Vector.replicate 31 ⟨some 310000, false, false, 4, 0#8⟩ }
    (t.flow.driveLimiter.history, t.flow.drive)) = ([40000, 70000, 100000, 310001], true) := by decide +kernel

/-- Section 8.9: the interval expiry that brings the debt to DEBT_HIGH asks for a defrost. -/
theorem test_interval_expiry :
    (let t := after .defrostIntervalExpiry
      { station 9 profile9 .running with defrost := ⟨3, 2400000, false, false, none⟩,
                                         tracking.zone := [segment 880 8099 100 100 0] }
    (t.defrost.debt, t.defrost.want, t.defrost.cycle)) = (4, true, none) := by decide +kernel

/-- Section 9.8, counts 559 and 560: the tail of 3/405 reaches B, and the flap's window removes it. -/
def flapCount (head405 head61 : Nat) : State :=
  { station 12 profile12Flap .running with
    channels := ⟨(Vector.replicate 6 stoppedChannel).set 1 ⟨.running, false, false, .awaitingRise, none, false, true⟩,
      none, none, some 0⟩
    tracking.zone := [segment 404 2909 300 100 0, segment 405 head405 250 100 6, segment 61 head61 40 100 7] }

theorem test_flap_removes :
    (let t := after (.forwardCount false) (flapCount 2549 2259)
    (tags t, t.counters.diverted, t.channels.chans[1].out)) = ([3 * 2048 + 404, 3 * 2048 + 61], 1, true) := by
  decide +kernel

/-- Section 9.9: the label pulse rises 200 ms after a bag closes. -/
theorem test_label_rises :
    (after (.oneShotTick 2)
      { station 14 profile14 .running with
        channels := ⟨(Vector.replicate 6 stoppedChannel).set 2 ⟨.running, false, false, .awaitingRise, some 199, false,
          false⟩, none, none, some 0⟩ }).channels.chans[2].out = true := by decide +kernel

/-- Section 10.6: bag 31 of lot 5,120 holds 850 g when 3/642 of 200 g reaches the bag point. -/
def bagging (mass disposition : Nat) : State :=
  { station 14 profile14 .running with
    packing := ⟨some ⟨31, 5120, 850⟩, 32, none, 0, [], .idle⟩
    tracking := ⟨[segment 642 1209 10 mass disposition], none, 60, 0, 90, 0⟩ }

/-- Section 10.6: 1,050 g closes GOOD, as a bag record ahead of the bag point. -/
theorem test_bag_closes :
    (let t := after (.forwardCount false) (bagging 200 0)
    (t.packing.openBag, t.tracking.zone.map (fun r => (r.tag.toNat, r.head, r.length, r.mass, r.disposition))))
      = (none, [(28762, 1350, 150, 1050, 0)]) := by decide +kernel

/-- R72 and R175: a due segment that a window has removed leaves its tag free, and a bag that holds it now is not consumed. -/
theorem test_freed_tag :
    (let s : State := { bagging 200 0 with tracking.zone := [{ segment 642 1350 150 900 0 with kind := .bag }] }
    packRecord s (mkTag 3 642) = s) := by decide +kernel

/-- Section 10.7: the door closes on carrier 7, and the next carrier waits for DOOR_MIN_CLOSED. -/
theorem test_door_completes :
    (let t := after .doorCycleCompletion
      { station 20 profile20 .running with
        now := 740000
        packing := ⟨none, 0, none, 9, [⟨7, 2⟩, ⟨8, 9⟩], .opened 740000⟩ }
    (t.packing.doorList, t.packing.door, t.flow.doorLimiter.deferred, t.counters.carriersStored))
      = ([⟨8, 9⟩], .requested, some 770000, 1) := by decide +kernel

/-! ### Witnesses: for each statement with hypotheses, a state and operands that meet them, clause by clause -/

/-- A command of an admitting origin to its own target, in a state that takes it, is admitted. -/
theorem admitted_check {f : Frame} {s : State}
    (h : ((commandOf f.kind).isSome && originAdmitted f && !(ownTargetOnly f.kind && decide (f.target = 0))
      && Laws.acceptedOf f.kind s) = true) : Admitted f s := by
  simp only [Bool.and_eq_true, Bool.not_eq_true', Bool.and_eq_false_iff, decide_eq_false_iff_not] at h
  obtain ⟨⟨⟨hk, ho⟩, ht⟩, ha⟩ := h
  refine ⟨(Laws.originAdmitted_iff f).1 ho, ?_, (Laws.acceptedOf_iff hk rfl rfl).1 ha⟩
  by_contra hn
  have := (Laws.ownTargetOnly_iff f).2 hn
  rcases ht with h | h
  · rw [this.1] at h; cases h
  · exact h this.2

theorem oldest_check {f : Frame} {s : State} (h : decide (s.mode ≠ .quiet) = true) :
    Oldest f.kind f [] (withFrame f s) := ⟨rfl, rfl, of_decide_eq_true h⟩

/-- A frame that handles a command kind, oldest and admitted. -/
abbrev Handled (f : Frame) (s : State) : Prop := Oldest f.kind f [] (withFrame f s) ∧ Admitted f (withFrame f s)

theorem handled_check {f : Frame} {s : State}
    (h : (decide (s.mode ≠ .quiet) && ((commandOf f.kind).isSome && originAdmitted f
      && !(ownTargetOnly f.kind && decide (f.target = 0)) && Laws.acceptedOf f.kind (withFrame f s))) = true) :
    Handled f s := by
  rw [Bool.and_eq_true] at h
  exact ⟨oldest_check h.1, admitted_check h.2⟩

theorem witness_StepRunsFrontCommand :
    ({ State.reset with pending := [.lineBusy] } : State).pending = .lineBusy :: [] ∧ State.reset.pending = [] :=
  ⟨rfl, rfl⟩

/-- A TRANSFER station with a frame to send, a bag on its belt, an open carrier and a carrier at the door. -/
def loaded : State :=
  { station 20 profile20 .running with
    link.txq := [⟨⟨.status, 20, 0, List.replicate 10 0#8⟩, 0, false, false⟩]
    tracking.zone := [{ segment 90 1649 150 1050 0 with kind := .bag }]
    packing := ⟨none, 0, some ⟨7, 5120, 1, 0⟩, 8, [⟨6, 0⟩], .requested⟩
    pending := [.forwardCount false] }

theorem witness_CapacitiesKept : Capacities loaded ∧ step loaded = .next (after (.forwardCount false)
    { loaded with pending := [] }) := by
  refine ⟨?_, step_after rfl (by decide +kernel)⟩
  constructor <;> first | decide +kernel | rintro d ⟨⟩ | (intro c; cases c <;> decide +kernel)

/-- The spill of section 4.12, whose merge-bound segment 12/57 is in neither list, at the next count. -/
theorem witness_CapacitiesKept_tags :
    UniqueTags { spill with pending := [.forwardCount false] } ∧ FreshTags { spill with pending := [.forwardCount false] }
      ∧ step { spill with pending := [.forwardCount false] } = .next (after (.forwardCount false) spill) := by
  refine ⟨by unfold UniqueTags; decide +kernel, ?_, step_after rfl (by decide +kernel)⟩
  rintro m ⟨⟩; decide +kernel

/-- A door that is open over the carrier that waits, at a station that may ask for it. -/
theorem witness_CapacitiesKept_door : DoorServed loaded ∧ loaded.hasRole .transfer = true ∧ loaded.mode = .running
    ∧ loaded.packing.doorList ≠ [] ∧ step loaded = .next (after (.forwardCount false) { loaded with pending := [] }) :=
  ⟨fun _ _ => .inr nofun, by decide +kernel, rfl, nofun, step_after rfl (by decide +kernel)⟩

/-- A FAULTED station whose fault-governed channel 1 is FORCED. -/
def faultedFlap : State :=
  { station 12 profile12Flap .faulted with
    channels := ⟨(Vector.replicate 6 stoppedChannel).set 1 ⟨.forced, false, false, .awaitingRise, none, false, false⟩,
      none, none, some 0⟩
    pending := [.forwardCount true] }

theorem witness_SafeOutputsKept : SafeOutputs faultedFlap ∧ (faultedFlap.channelRecord 1).faultGoverned = true
    ∧ SafeOutputs { State.reset with pending := [.reverseCount] }
    ∧ step faultedFlap = .next (after (.forwardCount true) { faultedFlap with pending := [] }) := by
  refine ⟨⟨by decide +kernel, ?_, ?_, by decide +kernel, by decide +kernel, ?_⟩, by decide +kernel,
    ⟨fun _ => rfl, nofun, nofun, nofun, fun _ => rfl, ?_⟩, step_after rfl (by decide +kernel)⟩
  · intro _; decide +kernel
  · intro _; decide +kernel
  · intro _; decide +kernel
  · intro _; decide +kernel

/-- Station 12 in RUNNING with its drive on and no reason to hold, as its downstream's HOLD reaches it. -/
def driven : State :=
  { withFrame ⟨.hold, 14, 12, [1#8, 1#8]⟩ (station 12 profile12 .running) with
    flow := { resetFlow with drive := true, reasons := ⟨false, false, false, false, false⟩ }
    pending := [.hold] }

theorem noStopCause {s : State} (h : s.stopCause = false) : ¬ StopCause s := fun hc => by
  rw [(Laws.stopCause_iff s).2 hc] at h; cases h

theorem witness_SafeOutputsKept_drive : DriveFollows driven ∧ ¬ StopCause driven
    ∧ step driven = .next (after .hold { driven with pending := [] })
    ∧ StopCause (after .hold { driven with pending := [] }) := by
  have hs : ¬ StopCause driven := noStopCause (by decide +kernel)
  refine ⟨⟨?_, ?_, ?_, ?_, fun _ _ h => absurd h hs, ?_⟩, hs, step_after rfl (by decide +kernel), ?_⟩
  · decide +kernel
  · exact fun h => absurd (.inr (.inl rfl)) h
  · exact fun h => absurd h (by decide +kernel)
  · decide +kernel
  · intro _ _ _ _; decide +kernel
  · exact (Laws.stopCause_iff _).1 (by decide +kernel)

theorem witness_FramesReadAsSent : Sendable ⟨.pass, 31, 0, List.replicate 16 255#8⟩ ∧ Sendable ⟨.run, 0, 31, []⟩ :=
  ⟨⟨by decide, by decide, rfl⟩, ⟨by decide, by decide, rfl⟩⟩

theorem witness_QuietActsOnNothing :
    (station 12 profile12 .quiet).mode = .quiet ∧ ∀ n r, Instr.forwardCount true ≠ .fullReset n r := ⟨rfl, nofun⟩

theorem witness_IdentityKept :
    ((station 12 profile12 .running).mode = .joining → (station 12 profile12 .running).station.frozen = none)
      ∧ (∀ n r, Instr.faultInput ≠ .fullReset n r)
      ∧ Next .faultInput (station 12 profile12 .running) (after .faultInput (station 12 profile12 .running)) :=
  ⟨nofun, nofun, next_after (by decide +kernel)⟩

/-- A NORMAL cycle of station 9 at its end time. -/
def cycleEnds : State :=
  { station 9 profile9 .running with now := 600000, defrost := ⟨4, 0, false, true, some ⟨.normal, 600000⟩⟩ }

theorem witness_OnlyCompletionLowersDebt :
    (cycleEnds.mode = .joining → cycleEnds.station.frozen = none) ∧ (∀ n r, Instr.defrostCompletion ≠ .fullReset n r)
      ∧ Next .defrostCompletion cycleEnds (after .defrostCompletion cycleEnds) ∧ cycleEnds.hasProfile = true
      ∧ (after .defrostCompletion cycleEnds).defrost.debt < cycleEnds.defrost.debt :=
  ⟨nofun, nofun, next_after (by decide +kernel), by decide +kernel, by decide +kernel⟩

theorem witness_FullResetLeaves : (1 ≤ 1 ∧ 29 ≤ 29 ∧ 2 ≤ 2) ∧ ¬ (1 ≤ 30 ∧ 30 ≤ 29 ∧ 0 ≤ 2) ∧ ¬ (1 ≤ 0 ∧ 0 ≤ 29 ∧ 0 ≤ 2)
    ∧ ¬ (1 ≤ 1 ∧ 1 ≤ 29 ∧ 3 ≤ 2) := by decide

theorem witness_FaultInputFaults :
    (station 9 profile9 .walking).hasProfile = true ∧ (station 9 profile9 .walking).station.faultLatch = false
      ∧ (station 9 profile9 .walking).mode = .walking ∧ (station 9 profile9 .draining).mode = .draining
      ∧ (station 9 profile9 .draining).unstoppable = false ∧ (station 9 profile9 .draining).formingNow = false
      ∧ (station 9 profile9 .draining).link.silencing = false ∧ (station 9 profile9 .draining).link.txq.length ≤ 4
      ∧ gapCount.mode = .running ∧ gapCount.tracking.mergeBound = none
      ∧ gapCount.tracking.zone = [segment 400 1058 800 2000 0] ++ [formingSegment 401 257]
      ∧ (formingSegment 401 257).forming = true ∧ 0 < (formingSegment 401 257).head
      ∧ ((station 12 profile12Flap .profiled).channelRecord 1).faultGoverned = true
      ∧ ((station 12 profile12Flap .profiled).channelRecord 0).faultGoverned = false := by decide +kernel

theorem witness_FaultInputElsewhere :
    faultedFlap.mode = .faulted ∧ ({ faultedFlap with station.faultLatch := true } : State).station.faultLatch = true
      ∧ (station 12 profile12 .quiet).mode = .quiet
      ∧ State.reset.mode = .joining ∧ State.reset.station.faultLatch = false ∧ State.reset.link.silencing = false
      ∧ State.reset.link.txq.length ≤ 6 := by decide +kernel

/-- A head's station control, as node 30 and others send it frames. -/
def head : State := station 3 profile3 .ready

theorem witness_CommandRefused :
    (Refused ⟨.run, 2, 0, []⟩ head 2 ∧ Refused ⟨.walkStart, 30, 0, []⟩ head 2)
      ∧ Refused ⟨.lot, 31, 0, [1#8, 1#8]⟩ head 3 ∧ Refused ⟨.stop, 30, 0, []⟩ head 1
      ∧ commandOf .stop = some .stop ∧ Oldest .stop ⟨.stop, 30, 0, []⟩ [] (withFrame ⟨.stop, 30, 0, []⟩ head)
      ∧ 30 ≠ (withFrame ⟨.stop, 30, 0, []⟩ head).downstream ∧ Accepts .event (withFrame ⟨.stop, 30, 0, []⟩ head) := by
  refine ⟨⟨.inl ⟨rfl, ?_⟩, .inl ⟨rfl, ?_⟩⟩, .inr (.inl ⟨rfl, .inl rfl, ?_⟩), .inr (.inr ⟨rfl, .inr ⟨rfl, nofun, nofun⟩,
    fun _ => ⟨nofun, nofun, nofun, nofun⟩, (nofun : StationState.ready ≠ .running)⟩), rfl, ⟨rfl, rfl, nofun⟩, by decide +kernel, ⟨nofun, rfl, by decide, rfl⟩⟩
  · rintro (h | h) <;> simp at h
  · rintro (h | h) <;> simp at h
  · intro h; exact (h rfl).2.2.1 rfl

theorem witness_RunEntersRunning :
    Handled ⟨.run, 30, 0, []⟩ (station 12 profile12 .ready) ∧ Handled ⟨.run, 31, 12, []⟩ (station 12 profile12 .draining) :=
  ⟨handled_check (by decide +kernel), handled_check (by decide +kernel)⟩

/-- Station 12 in READY at 114,000 ms, its downstream holding or not, with a drive history as in section 7.8. -/
def starting (holding : Bool) (history : List Nat) : State :=
  { station 12 profile12 .ready with
    now := 114000
    peer.peers := (Vector.replicate 31 ⟨some 114000, false, false, 4, 0#8⟩).set 13 ⟨some 114000, false, holding, 4, 1#8⟩
    flow.driveLimiter := ⟨history, none, none⟩ }

theorem witness_RunEntersRunning_drive :
    Handled ⟨.run, 30, 0, []⟩ (station 3 profile3 .ready) ∧ (station 3 profile3 .ready).hasRole .blanch = true
      ∧ Handled ⟨.run, 30, 0, []⟩ (starting true [])
      ∧ StopCause (taken ⟨.run, 30, 0, []⟩ [] (withFrame ⟨.run, 30, 0, []⟩ (starting true [])))
      ∧ (∀ h ∈ [[], [10000, 40000, 70000, 100000]], let s := starting false h
          Handled ⟨.run, 30, 0, []⟩ s ∧ ¬ StopCause (withFrame ⟨.run, 30, 0, []⟩ s) ∧ s.hasProfile = true
            ∧ s.hasRole .blanch = false ∧ 30 ≠ s.downstream ∧ s.flow.drive = false
            ∧ s.flow.driveLimiter.deferred = none ∧ s.link.silencing = false ∧ s.link.txq.length ≤ 4)
      ∧ limiterAnswer 300000 5000 114000 (starting false []).flow.driveLimiter = .granted ⟨[114000], none, none⟩
      ∧ limiterAnswer 300000 5000 114000 (starting false [10000, 40000, 70000, 100000]).flow.driveLimiter
        = .deferred ⟨[10000, 40000, 70000, 100000], none, some 310001⟩ 1 196001 := by
  refine ⟨handled_check (by decide +kernel), by decide +kernel, handled_check (by decide +kernel), ?_, ?_,
    by decide +kernel⟩
  · exact (Laws.stopCause_iff _).1 (by decide +kernel)
  · intro h hm
    simp only [List.mem_cons, List.not_mem_nil, or_false] at hm
    rcases hm with rfl | rfl <;>
      exact ⟨handled_check (by decide +kernel), noStopCause (by decide +kernel), by decide +kernel⟩

/-- A station of another role, and a TRANSFER station in READY with and without a carrier at its door. -/
theorem witness_RunEntersRunning_door : DoorServed (starting false []) ∧ DoorServed (station 20 profile20 .ready)
    ∧ DoorServed { loaded with mode := .ready } :=
  ⟨fun h => absurd h (by decide +kernel), fun _ _ => .inl rfl, fun _ _ => .inr nofun⟩

theorem witness_StopDrains :
    Handled ⟨.stop, 30, 0, []⟩ (station 3 profile3 .running)
      ∧ Drained (taken ⟨.stop, 30, 0, []⟩ [] (withFrame ⟨.stop, 30, 0, []⟩ (station 3 profile3 .running)))
      ∧ Handled ⟨.stop, 30, 0, []⟩ gapCount
      ∧ ¬ Drained (taken ⟨.stop, 30, 0, []⟩ [] (withFrame ⟨.stop, 30, 0, []⟩ gapCount)) := by
  refine ⟨handled_check (by decide +kernel), (Laws.drained_iff _).1 (by decide +kernel), handled_check (by decide +kernel),
    fun h => ?_⟩
  exact absurd ((Laws.drained_iff _).2 h) (by decide +kernel)

theorem witness_WalkStartBegins :
    Handled ⟨.walkStart, 31, 0, []⟩ (station 9 profile9 .profiled) ∧ (station 9 profile9 .profiled).hasProfile = true
      ∧ Handled ⟨.walkStart, 31, 9, []⟩ (station 9 profile9 .ready) :=
  ⟨handled_check (by decide +kernel), by decide +kernel, handled_check (by decide +kernel)⟩

/-- A station whose neighbour record is empty. -/
def unwalked (m : StationState) : State := { station 9 profile9 m with peer.neighbours := ⟨0, 0, 0⟩ }

theorem complete_check {s : State} (h : s.neighboursComplete = true) : Complete s := (Laws.neighboursComplete_iff s).1 h

theorem incomplete_check {s : State} (h : s.neighboursComplete = false) : ¬ Complete s := fun hc => by
  rw [(Laws.neighboursComplete_iff s).2 hc] at h; cases h

theorem witness_WalkEndLeaves :
    Handled ⟨.walkEnd, 31, 0, []⟩ (station 9 profile9 .walking)
      ∧ Complete (withFrame ⟨.walkEnd, 31, 0, []⟩ (station 9 profile9 .walking))
      ∧ Handled ⟨.walkEnd, 31, 0, []⟩ (unwalked .walking)
      ∧ ¬ Complete (withFrame ⟨.walkEnd, 31, 0, []⟩ (unwalked .walking)) :=
  ⟨handled_check (by decide +kernel), complete_check (by decide +kernel), handled_check (by decide +kernel),
    incomplete_check (by decide +kernel)⟩

theorem witness_LotSetsCurrentLot :
    Handled ⟨.lot, 30, 3, be16 5121⟩ gapCount ∧ gapCount.tracking.mergeBound = none
      ∧ gapCount.tracking.zone = [segment 400 1058 800 2000 0] ++ [formingSegment 401 257]
      ∧ (formingSegment 401 257).forming = true ∧ 0 < (formingSegment 401 257).head :=
  ⟨handled_check (by decide +kernel), rfl, rfl, rfl, by decide⟩

/-- Station 3 with a merge-bound segment of this length and one record. -/
def mergeBounds (length : Nat) : State :=
  { station 3 profile3 .running with
    tracking := ⟨[segment 400 249 120 300 0], some ⟨mkTag 3 402, 5120, 0, length⟩, 0, 0, 403, 5120⟩ }

theorem witness_LotSetsCurrentLot_mergeBound :
    Handled ⟨.lot, 30, 3, be16 5121⟩ (mergeBounds 0)
      ∧ (mergeBounds 0).tracking.mergeBound = some ⟨mkTag 3 402, 5120, 0, 0⟩
      ∧ (∀ length ∈ [1, 249, 250], ∃ z,
          MergeClosed (mergeBounds length) (mergeBounds length).tracking.zone ⟨mkTag 3 402, 5120, 0, length⟩ length z) := by
  refine ⟨handled_check (by decide +kernel), rfl, fun length hl => ?_⟩
  simp only [List.mem_cons, List.not_mem_nil, or_false] at hl
  rcases hl with rfl | rfl | rfl
  · exact ⟨_, .inr ⟨by decide, [segment 400 249 120 300 0], [], rfl, by decide +kernel, by decide, rfl⟩⟩
  · exact ⟨_, .inr ⟨by decide, [segment 400 249 120 300 0], [], rfl, by decide +kernel, by decide, rfl⟩⟩
  · exact ⟨_, .inr ⟨by decide, [], [segment 400 249 120 300 0], rfl, by decide, by decide +kernel, rfl⟩⟩

theorem witness_FaultClearLeaves :
    Handled ⟨.faultClear, 30, 0, []⟩ (station 9 profile9 .faulted) ∧ (station 9 profile9 .faulted).faultIn = false
      ∧ Complete (withFrame ⟨.faultClear, 30, 0, []⟩ (station 9 profile9 .faulted))
      ∧ Handled ⟨.faultClear, 30, 0, []⟩ (unwalked .faulted)
      ∧ ¬ Complete (withFrame ⟨.faultClear, 30, 0, []⟩ (unwalked .faulted))
      ∧ Handled ⟨.faultClear, 30, 0, []⟩ { unwalked .faulted with faultIn := true }
      ∧ 30 ≠ (unwalked .faulted).downstream
      ∧ Accepts .event (withFrame ⟨.faultClear, 30, 0, []⟩ { unwalked .faulted with faultIn := true }) :=
  ⟨handled_check (by decide +kernel), rfl, complete_check (by decide +kernel), handled_check (by decide +kernel),
    incomplete_check (by decide +kernel), handled_check (by decide +kernel), by decide, ⟨nofun, rfl, by decide, rfl⟩⟩

theorem witness_RestartClears :
    Handled ⟨.restart, 30, 0, []⟩ (station 9 profile9 .walking) ∧ (station 9 profile9 .walking).hasProfile = true
      ∧ (station 9 profile9 .walking).faultIn = false
      ∧ Complete (withFrame ⟨.restart, 30, 0, []⟩ (station 9 profile9 .walking))
      ∧ ¬ Complete (withFrame ⟨.restart, 30, 0, []⟩ (unwalked .running))
      ∧ Handled ⟨.restart, 31, 9, []⟩ { station 9 profile9 .faulted with faultIn := true }
      ∧ Handled ⟨.restart, 31, 9, []⟩ { station 9 profile9 .walking with faultIn := true }
      ∧ 30 ≠ (withFrame ⟨.restart, 30, 0, []⟩ (station 9 profile9 .walking)).downstream
      ∧ (station 9 profile9 .walking).defrost.want = false ∧ (station 9 profile9 .walking).unstoppable = false
      ∧ ({ loaded with packing.door := .requested } : State).packing.door = .requested :=
  ⟨handled_check (by decide +kernel), by decide +kernel, rfl, complete_check (by decide +kernel),
    incomplete_check (by decide +kernel), handled_check (by decide +kernel), handled_check (by decide +kernel),
    by decide +kernel⟩

/-- A joining station with a pending profile. -/
def joining (p : List (Nat × Nat)) : State := { State.reset with station := ⟨12, 1, items p, none, false⟩ }

theorem witness_CommandRefused_profiles :
    Handled ⟨.profile, 30, 12, [1#8, 0#8, 0#8, 0#8, 5#8]⟩ (joining []) ∧ (joining []).mode = .joining
      ∧ Handled ⟨.profile, 30, 12, [2#8, 0#8, 0#8, 0#8, 5#8]⟩ (joining [(1, 3), (2, 0), (3, 4000)])
      ∧ (joining [(1, 3), (2, 0), (3, 4000)]).station.pendingProfile.Pairwise (fun a b => a.1 < b.1)
      ∧ Handled ⟨.profile, 30, 12, [1#8, 0#8, 0#8, 0#8, 5#8]⟩ (station 12 profile12 .ready)
      ∧ Handled ⟨.profileEnd, 31, 12, [19#8]⟩ (station 12 profile12 .ready)
      ∧ (station 12 profile12 .ready).mode ≠ .joining ∧ 31 ≠ (station 12 profile12 .ready).downstream :=
  ⟨handled_check (by decide +kernel), rfl, handled_check (by decide +kernel), by decide +kernel,
    handled_check (by decide +kernel), handled_check (by decide +kernel), nofun, by decide +kernel⟩

theorem witness_ProfileRefused :
    Handled ⟨.profileEnd, 30, 12, [18#8]⟩ (joining profile12)
      ∧ profileFailure (joining profile12).station.pendingProfile (payloadByte [18#8] 0) = some (1, 0)
      ∧ Handled ⟨.profileEnd, 30, 12, [1#8]⟩ (joining [(2, 0)])
      ∧ profileFailure (joining [(2, 0)]).station.pendingProfile (payloadByte [1#8] 0) = some (2, 1)
      ∧ 30 ≠ (joining profile12).downstream ∧ itemHeld (items [(2, 0)]) 1 = false :=
  ⟨handled_check (by decide +kernel), by decide +kernel, handled_check (by decide +kernel), by decide +kernel⟩

/-- Station 12's profile with this HOLD_LEVEL and this ZONE_LENGTH. -/
def profile12With (hold zone : Nat) : Profile :=
  profilePut (profilePut (items profile12) 7 (BitVec.ofNat 32 hold)) 3 (BitVec.ofNat 32 zone)

/-- The range stage and the cross-check stage at their bounds: 255 counts are too short a zone, and a RELEASE_LEVEL of 6
must stay below HOLD_LEVEL. -/
theorem witness_ProfileRefused_stages :
    [profileFailure (profile12With 12 255) 19, profileFailure (profile12With 6 4000) 19,
      profileFailure (profile12With 7 4000) 19] = [some (3, 3), some (4, 8), none] := by decide +kernel

theorem witness_ProfileAccepted :
    Handled ⟨.profileEnd, 30, 12, [19#8]⟩ (joining profile12) ∧ (joining profile12).mode = .joining
      ∧ profileFailure (joining profile12).station.pendingProfile (payloadByte [19#8] 0) = none
      ∧ (joining profile12).station.faultLatch = false :=
  ⟨handled_check (by decide +kernel), rfl, by decide +kernel, rfl⟩

theorem witness_ReportAnswers :
    (∀ page : Fin 4, Handled ⟨.reportAsk, 30, 12, [byteOf page]⟩ (station 12 profile12 .running))
      ∧ Handled ⟨.reportAsk, 30, 12, [4#8]⟩ (station 12 profile12 .running) ∧ 3 < payloadByte [4#8] 0
      ∧ 30 ≠ (station 12 profile12 .running).downstream
      ∧ Accepts .event (taken ⟨.reportAsk, 30, 12, [4#8]⟩ []
          (withFrame ⟨.reportAsk, 30, 12, [4#8]⟩ (station 12 profile12 .running))) := by
  refine ⟨fun page => handled_check ?_, handled_check (by decide +kernel), by decide, by decide +kernel,
    ⟨nofun, rfl, by decide, rfl⟩⟩
  revert page; decide +kernel

/-! ### Witnesses: the line link -/

/-- A waiting entry and one in transmission, of station 9. -/
def waits (k : Kind) : TxEntry := ⟨⟨k, 9, 0, []⟩, 0, false, false⟩
def sends (k : Kind) (attempts : Nat) : TxEntry := ⟨⟨k, 9, 0, []⟩, attempts, true, false⟩

/-- Station 9 with this transmit queue. -/
def queueing (q : List TxEntry) : State := { station 9 profile9 .running with link.txq := q }

theorem witness_LineConditions :
    ((queueing [waits .offer, waits .status]).mode ≠ .quiet
        ∧ (∀ x ∈ (queueing [waits .offer, waits .status]).link.txq, x.sending = false))
      ∧ (queueing []).link.txq = []
      ∧ (∃ x ∈ (queueing [sends .status 0]).link.txq, x.sending = true)
      ∧ (queueing []).link.line = .busy ∧ ({ queueing [] with link.line := .idle } : State).link.line = .idle := by
  decide +kernel

/-- An idle line, and a status timer that expires. -/
def idleLine : State := { queueing [] with link.line := .idle, peer.statusTimer := some ⟨500, 0⟩ }

theorem witness_LineConditions_queued :
    idleLine.link.line = .idle ∧ idleLine.link.txq = []
      ∧ Next .statusTimerExpiry idleLine (after .statusTimerExpiry idleLine)
      ∧ (after .statusTimerExpiry idleLine).link.txq ≠ [] :=
  ⟨rfl, rfl, next_after (by decide +kernel), by decide +kernel⟩

/-- R24 and R31: a STATUS that is queued on the IDLE line starts at once. -/
theorem test_idle_line_starts :
    (let t := after .statusTimerExpiry idleLine
    (t.link.line, t.link.txq.map (fun e => (e.frame.kind, e.sending)))) = (.busy, [(.status, true)]) := by
  decide +kernel

/-- The first bit and the last bit of class, kind and origin that are sent recessive. -/
theorem witness_ArbitrationLossKeeps :
    (queueing [waits .offer, sends .event 3]).link.txq = [waits .offer] ++ sends .event 3 :: []
      ∧ (∀ x ∈ [waits .offer] ++ [], x.sending = false) ∧ (arbitrationBits (sends .event 3).frame)[0]? = some true
      ∧ (arbitrationBits (sends .event 3).frame)[11]? = some true
      ∧ (mergingKind .event && kindWaits .event (queueing [waits .offer, sends .event 3]).link.txq) = false
      ∧ (mergingKind .status && kindWaits .status (queueing [sends .status 0, waits .status]).link.txq) = true
      ∧ (arbitrationBits (sends .status 0).frame)[0]? = some true := by decide +kernel

theorem witness_FailedAttempts :
    (sentBits (sends .status 6).frame)[0]? = some false ∧ (sentBits (sends .status 6).frame)[12]? = some true
      ∧ (sentBits (sends .hold 6).frame)[1]? = some false ∧ (sentBits (sends .status 6).frame)[14]? = some false
      ∧ (sends .status 6).attempts < 7 ∧ (sends .status 6).severed = false
      ∧ (mergingKind .status && kindWaits .status (queueing [sends .status 6]).link.txq) = false
      ∧ 7 ≤ (sends .event 7).attempts ∧ 7 ≤ (sends .report 7).attempts
      ∧ (queueing [sends .report 7]).link.txq.length ≤ 8 ∧ (queueing [sends .report 7]).link.silencing = false := by
  decide +kernel

theorem witness_AcknowledgedFrames :
    (queueing [sends .offer 0, waits .status]).link.txq = [] ++ sends .offer 0 :: [waits .status]
      ∧ (∀ x ∈ [] ++ [waits .status], x.sending = false) ∧ (sends .offer 0).severed = false
      ∧ (queueing [sends .offer 0, waits .status]).link.silencing = false
      ∧ ({ queueing [sends .event 0] with link.silencing := true } : State).link.silencing = true := by decide +kernel

/-- The bits that a receiver reads of a frame. -/
def bitsOf (f : Frame) : List Bool := (sentBits f).drop 1

theorem witness_FramesReceived :
    formedFrame (bitsOf ⟨.run, 30, 0, []⟩) = some ⟨.run, 30, 0, []⟩
      ∧ formedFrame (bitsOf ⟨.take, 12, 9, [0#8, 1#8]⟩) = some ⟨.take, 12, 9, [0#8, 1#8]⟩
      ∧ formedFrame (bitsOf ⟨.take, 12, 7, [0#8, 1#8]⟩) = some ⟨.take, 12, 7, [0#8, 1#8]⟩
      ∧ formedFrame (bitsOf ⟨.walkPass, 9, 0, []⟩) = some ⟨.walkPass, 9, 0, []⟩
      ∧ formedFrame ((bitsOf ⟨.run, 30, 0, []⟩).drop 1) = none
      ∧ (station 9 profile9 .running).link.rxq.length < 4
      ∧ 4 ≤ ({ station 9 profile9 .running with link.rxq := List.replicate 4 ⟨.run, 30, 0, []⟩ } : State).link.rxq.length
      := by decide +kernel

/-- A full transmit queue of station 9 that ends with this entry. -/
def full (k : Kind) (e : TxEntry) : State := queueing (List.replicate 7 (waits k) ++ e :: [])

/-- An OFFER of 3/401, SENDING, which station 9 would offer again with the same image. -/
def sending401 : UnitRecord := { segment 401 7500 300 495 0 with handover := .offered .sending }
def offerEntry : TxEntry := ⟨⟨.offer, 9, 12, imageBytes (recordImage sending401)⟩, 0, false, false⟩

theorem witness_QueueMergesAndDisplaces :
    (queueing [waits .hold, waits .status]).mode ≠ .quiet ∧ (queueing []).link.silencing = false
      ∧ (queueing [waits .hold, waits .status]).link.txq = [waits .hold] ++ waits .status :: []
      ∧ (∀ x ∈ (queueing [sends .status 0]).link.txq, x.frame.kind = .status → x.sending = true)
      ∧ (∀ x ∈ [waits .hold, waits .offer], arbitration x.frame ≤ arbitration (waits .offer).frame)
      ∧ (∀ x ∈ [waits .status], arbitration (waits .offer).frame < arbitration x.frame)
      ∧ (full .event (waits .event)).link.txq.length = 8 ∧ kindClass .offer < kindClass .event
      ∧ kindClass .event ≤ kindClass .report ∧ kindClass .hold < kindClass .offer
      ∧ offerEntry.frame.kind = .offer ∧ offerEntry.sending = false
      ∧ (full .take offerEntry).mode ≠ .walking ∧ (full .take offerEntry).downstream ≠ 0
      ∧ (full .take offerEntry).link.txq = List.replicate 7 (waits .take) ++ offerEntry :: []
      ∧ (full .take offerEntry).link.txq.length = 8 ∧ (imageOf offerEntry.frame.payload).tag = sending401.tag
      ∧ imageOf (imageBytes (recordImage sending401)) = recordImage sending401
      ∧ (∀ x ∈ List.replicate 7 (waits .take), kindClass x.frame.kind ≤ 1)
      ∧ sending401.handover = .offered .sending ∧ sending401.attempts ≤ 3
      ∧ ({ full .take offerEntry with tracking.zone := [sending401] } : State).tracking.zone = [sending401] := by
  decide +kernel

/-! ### Witnesses: the peer view -/

/-- 3/401 offered at station 9. -/
def offered (deadline attempts : Nat) : State :=
  { station 9 profile9 .running with
    tracking.zone := [{ segment 401 7500 300 495 0 with handover := .offered (.waiting deadline), attempts := attempts }] }

theorem witness_HoldHandled :
    Oldest .hold ⟨.hold, 12, 9, [1#8, 1#8]⟩ [] (withFrame ⟨.hold, 12, 9, [1#8, 1#8]⟩ (offered 40 2))
      ∧ 12 = (withFrame ⟨.hold, 12, 9, [1#8, 1#8]⟩ (offered 40 2)).downstream ∧ payloadByte [1#8, 1#8] 0 ≠ 0
      ∧ ((offered 40 2).tracking.zone.map (·.tag)).Nodup
      ∧ (offered 40 2).tracking.zone.any (fun r => decide (r.handover = .offered (.waiting 40))) = true
      ∧ Oldest .hold ⟨.hold, 31, 9, [0#8, 0#8]⟩ [] (withFrame ⟨.hold, 31, 9, [0#8, 0#8]⟩ (station 9 profile9 .ready)) :=
  ⟨oldest_check (by decide), by decide +kernel, by decide, by decide +kernel, by decide +kernel,
    oldest_check (by decide)⟩

theorem witness_StatusHandled :
    Oldest .status ⟨.status, 7, 0, 3#8 :: List.replicate 9 0#8⟩ []
        (withFrame ⟨.status, 7, 0, 3#8 :: List.replicate 9 0#8⟩ (station 9 profile9 .draining))
      ∧ (station 9 profile9 .draining).mode = .draining ∧ 7 = (station 9 profile9 .draining).upstream
      ∧ payloadByte (3#8 :: List.replicate 9 0#8) 0 = 3 ∧ (station 9 profile9 .draining).tracking.zone = []
      ∧ (station 9 profile9 .draining).arrivals = [] :=
  ⟨oldest_check (by decide), by decide +kernel⟩

/-- 3/401 rests at station 9, which hears its downstream's STATUS with these flags. -/
def resting (flags : Byte) : State :=
  withFrame ⟨.status, 12, 0, 4#8 :: flags :: List.replicate 8 0#8⟩
    { station 9 profile9 .running with
      tracking.zone := [{ segment 401 7500 300 495 0 with handover := .offered .resting, attempts := 3 }] }

/-- The load and defrost flags alone, and all flags but holding. -/
theorem witness_StatusHandled_downstream :
    Oldest .status ⟨.status, 12, 0, 4#8 :: 0x60#8 :: List.replicate 8 0#8⟩ [] (resting 0x60#8)
      ∧ 12 = (resting 0xFE#8).downstream ∧ (resting 0xFE#8).hasProfile = true
      ∧ ((4#8 :: 0xFE#8 :: List.replicate 8 0#8).getD 1 0#8).getLsbD 0 = false ∧ (resting 0xFE#8).mode ≠ .walking
      ∧ (resting 0xFE#8).link.silencing = false ∧ ((resting 0xFE#8).tracking.zone.map (·.tag)).Nodup
      ∧ (resting 0xFE#8).link.txq.length + (resting 0xFE#8).tracking.zone.length ≤ 6
      ∧ (resting 0xFE#8).tracking.zone.any (fun r => decide (r.handover = .offered .resting)) = true :=
  ⟨⟨rfl, rfl, nofun⟩, by decide +kernel⟩

/-- A walking station 9. -/
def walking (w : Walk) : State := { station 9 profile9 .walking with peer.walk := some w }

theorem witness_WalkPasses :
    Oldest .walkPass ⟨.walkPass, 7, 0, []⟩ [] (withFrame ⟨.walkPass, 7, 0, []⟩ (walking ⟨false, true, 0, 0, 0, false⟩))
      ∧ (walking ⟨false, true, 0, 0, 0, false⟩).mode = .walking
      ∧ (walking ⟨false, true, 0, 0, 0, false⟩).isHead = false
      ∧ (walking ⟨true, true, 7, 220, 8000, false⟩).zoneLength ≤ 8000 ∧ 7999 < (walking ⟨true, true, 7, 220, 7999, false⟩).zoneLength
      ∧ Accepts .walkPass (walking ⟨true, true, 7, 220, 8000, false⟩) :=
  ⟨oldest_check (by decide), rfl, by decide +kernel, by decide +kernel, by decide +kernel, ⟨nofun, rfl, by decide, rfl⟩⟩

theorem witness_OtherFramesRefresh :
    Oldest .event ⟨.event, 14, 0, List.replicate 5 0#8⟩ []
        (withFrame ⟨.event, 14, 0, List.replicate 5 0#8⟩ (station 9 profile9 .running))
      ∧ Oldest .report ⟨.report, 14, 0, List.replicate 9 0#8⟩ []
        (withFrame ⟨.report, 14, 0, List.replicate 9 0#8⟩ (station 9 profile9 .running))
      ∧ Oldest .offer ⟨.offer, 3, 9, List.replicate 16 0#8⟩ []
        (withFrame ⟨.offer, 3, 9, List.replicate 16 0#8⟩ (station 9 profile9 .running))
      ∧ 3 ≠ (station 9 profile9 .running).upstream
      ∧ Oldest .take ⟨.take, 12, 9, [0#8, 0#8]⟩ [] (withFrame ⟨.take, 12, 9, [0#8, 0#8]⟩ (station 9 profile9 .walking)) :=
  ⟨oldest_check (by decide), oldest_check (by decide), oldest_check (by decide), by decide +kernel,
    oldest_check (by decide)⟩

/-- The WALK_SEEN of station 12 at station 9, which had 14 as its downstream, or none. -/
theorem witness_OtherFramesRefresh_walkSeen :
    Oldest .walkSeen ⟨.walkSeen, 12, 0, [9#8, 0#8, 180#8]⟩ []
        (withFrame ⟨.walkSeen, 12, 0, [9#8, 0#8, 180#8]⟩ (walking ⟨true, true, 7, 220, 0, false⟩))
      ∧ payloadByte [9#8, 0#8, 180#8] 0 = (walking ⟨true, true, 7, 220, 0, false⟩).station.number
      ∧ (walking ⟨true, true, 7, 220, 0, false⟩).isTail = false
      ∧ payloadByte [7#8, 0#8, 180#8] 0 ≠ (walking ⟨true, true, 7, 220, 0, false⟩).station.number
      ∧ (station 20 profile20 .walking).isTail = true
      ∧ (let s : State := { walking ⟨true, true, 7, 220, 0, false⟩ with peer.neighbours := ⟨7, 14, 220⟩ }
        s.downstream ≠ 0 ∧ 12 ≠ s.downstream ∧ s.link.silencing = false ∧ s.link.txq.length ≤ 6)
      ∧ (walking ⟨true, true, 7, 220, 0, false⟩).downstream = 12
      ∧ ({ walking ⟨true, true, 7, 220, 0, false⟩ with peer.neighbours := ⟨7, 0, 220⟩ } : State).downstream = 0 :=
  ⟨oldest_check (by decide), by decide +kernel⟩

theorem witness_StatusTimerExpires :
    State.reset.peer.statusTimer = some ⟨1000, 1000⟩ ∧ State.reset.mode ≠ .quiet
      ∧ 1000 ≤ ({ State.reset with now := 1000 } : State).now ∧ State.reset.now < 1000
      ∧ Accepts .status ({ State.reset with now := 1000 } : State) :=
  ⟨rfl, nofun, by decide, by decide, ⟨nofun, rfl, by decide, rfl⟩⟩

theorem witness_PeersGoStale :
    (({ station 9 profile9 .running with now := 1501 } : State).peerEntry 31).lastFrame = some 0
      ∧ (({ station 9 profile9 .running with now := 1501 } : State).peerEntry 1).stale = false
      ∧ 3 * ({ station 9 profile9 .running with now := 1501 } : State).statusPeriod < 1501 - 0
      ∧ 1500 - 0 ≤ 3 * ({ station 9 profile9 .running with now := 1500 } : State).statusPeriod := by decide +kernel

/-! ### Witnesses: tracking -/

theorem witness_ReverseDebtPaid :
    (station 9 profile9 .running).hasProfile = true
      ∧ ({ station 9 profile9 .running with tracking.reverseDebt := 1 } : State).tracking.reverseDebt ≠ 0
      ∧ State.reset.hasProfile = false ∧ Next (.fullReset 9 1) State.reset (after (.fullReset 9 1) State.reset)
      ∧ Handled ⟨.restart, 30, 0, []⟩ (station 9 profile9 .running)
      ∧ Next .restart (withFrame ⟨.restart, 30, 0, []⟩ (station 9 profile9 .running))
          (after .restart (withFrame ⟨.restart, 30, 0, []⟩ (station 9 profile9 .running))) :=
  ⟨by decide +kernel, by decide, rfl, next_after (by decide +kernel), handled_check (by decide +kernel),
    next_after (by decide +kernel)⟩

theorem witness_CountSamplesEntry : gapCount.hasProfile = true ∧ gapCount.mode ≠ .quiet
    ∧ gapCount.tracking.reverseDebt = 0 := by decide +kernel

/-- The edge at station 9 with and without a WALK_PASS before it, and at station 3, a head. -/
theorem witness_CountSamplesEntry_edge :
    (let s := walking ⟨false, true, 0, 0, 0, false⟩
    s.hasProfile = true ∧ s.mode = .walking ∧ s.tracking.reverseDebt = 0
      ∧ s.peer.walk = some ⟨false, true, 0, 0, 0, false⟩ ∧ s.tracking.zone = [] ∧ s.arrivals = []
      ∧ s.tracking.mergeBound = none ∧ s.link.silencing = false ∧ s.link.txq.length ≤ 3 ∧ s.isHead = false)
      ∧ (walking ⟨false, true, 7, 0, 0, false⟩).peer.walk = some ⟨false, true, 7, 0, 0, false⟩
      ∧ (station 3 profile3 .walking).isHead = true := by decide +kernel

/-- Station 12 with a record one count short of its offer point 3,400, and one whose tail is upstream of the entry. -/
def moving : State :=
  { station 12 profile12 .running with tracking.zone := [segment 404 3398 300 100 0, segment 405 40 250 100 0] }

theorem witness_CountMovesRecords : moving.hasRole .convey = true ∧ moving.mode ≠ .quiet
    ∧ moving.tracking.reverseDebt = 0 ∧ moving.arrivals = [] ∧ moving.tracking.mergeBound = none
    ∧ (∀ ch, ch < 6 → removingWindow moving ch = false)
    ∧ (∀ r ∈ moving.tracking.zone, r.forming = false ∧ r.tail + 1 < (moving.zoneLength : Int)
      ∧ (moving.downstream = 0 ∨ r.head + 1 < moving.offerPoint ∧ r.head + 1 < moving.zoneLength)) := by decide +kernel

/-- Station `n` with one record and with these channels RUNNING. -/
def alone (n : Nat) (p : List (Nat × Nat)) (r : UnitRecord) (running : Bool) : State :=
  { station n p .running with
    channels := ⟨Vector.replicate 6 { stoppedChannel with run := if running then .running else .stopped }, none, none,
      some 0⟩
    tracking.zone := [r] }

/-- Station 9's verdict point 6,900 under the midpoint 6,899 that moves to it, with no dwell, and an account of 6,000 ms
or more. -/
def unjudged (dwell : Option Nat) : UnitRecord :=
  { segment 401 7049 300 495 0 with dwellMade := false, dwell := dwell }

theorem witness_CountMovesRecords_verdict :
    (∀ dwell ∈ [none, some 5999, some 6000],
      let s := alone 9 profile9 (unjudged dwell) false
      s.hasProfile = true ∧ s.mode ≠ .quiet ∧ s.hasRole .bag = false ∧ s.hasRole .transfer = false
        ∧ s.tracking.reverseDebt = 0 ∧ s.arrivals = [] ∧ s.tracking.mergeBound = none
        ∧ s.counters.verdictFail < 65535 ∧ s.link.silencing = false ∧ s.link.txq.length ≤ 3
        ∧ verdictDue s { unjudged dwell with head := 7050 } = true
        ∧ verdictOutcome s { unjudged dwell with head := 7050 } = (if dwell = some 6000 then none else some 6))
      ∧ verdictDue (alone 9 profile9 (unjudged none) false) (unjudged none) = false := by decide +kernel

/-- Station 12's flap window 2,000 to 2,300 over a record whose tail moves to its B. -/
theorem witness_CountMovesRecords_window :
    (let s := alone 12 profile12Flap (segment 405 2549 250 100 6) true
    removingWindow s 1 = true ∧ (s.channelRecord 1).mask.getLsbD 6 = true
      ∧ ({ segment 405 2549 250 100 6 with head := 2550 } : UnitRecord).tail = (s.channelRecord 1).b
      ∧ (s.channelRecord 1).a < (s.channelRecord 1).b) ∧ (∀ ch, ch < 6 →
      removingWindow (alone 12 profile12Flap (segment 405 2549 250 100 6) false) ch = false) := by decide +kernel

/-- Station 12, of 4,000 counts with its offer point at 3,400: a tail that moves to the zone end, a head that moves to
the offer point, and a head that moves to the zone end. -/
theorem witness_CountMovesRecords_ends :
    (let s := alone 12 profile12 (segment 404 3399 300 100 0) false
    (s.zoneLength : Int) ≤ ({ segment 404 4299 300 100 0 with head := 4300 } : UnitRecord).tail
      ∧ ({ segment 404 4298 300 100 0 with head := 4299 } : UnitRecord).tail < s.zoneLength
      ∧ s.downstream ≠ 0 ∧ s.mode ≠ .walking ∧ s.offerPoint = 3399 + 1 ∧ 3399 + 1 < s.zoneLength
      ∧ s.zoneLength = 3999 + 1 ∧ (segment 404 3999 300 100 0).handover ≠ .passed
      ∧ 3398 + 1 < s.offerPoint ∧ s.link.silencing = false ∧ s.link.txq.length ≤ 3) := by decide +kernel

theorem witness_SegmentStarts :
    (station 3 profile3 .running).hasProfile = true ∧ (station 3 profile3 .running).tracking.reverseDebt = 0
      ∧ (station 12 profile12 .walking).hasProfile = true ∧ (station 12 profile12 .walking).mode = .walking
      ∧ (station 12 profile12 .walking).tracking.zone = [] ∧ (station 12 profile12 .walking).arrivals = []
      ∧ (station 12 profile12 .walking).tracking.mergeBound = none
      ∧ ({ station 12 profile12 .draining with tracking.tagSeq := 2047 } : State).tracking.tagSeq < 2048 := by
  decide +kernel

/-- Station 12 with 24 records, none over the entry, and station 3 alike. -/
theorem witness_SegmentStarts_full :
    (let s : State := { spill with tracking.mergeBound := none, peer.neighbours := ⟨9, 0, 180⟩ }
    s.hasProfile = true ∧ s.tracking.reverseDebt = 0 ∧ s.mode = .running ∧ s.tracking.zone.length = 24
      ∧ s.arrivals = [] ∧ s.tracking.tagSeq < 2048 ∧ (∀ ch, ch < 6 → removingWindow s ch = false)
      ∧ (∀ r ∈ s.tracking.zone, r.tag ≠ nextTag s ∧ r.forming = false ∧ 0 ≤ r.tail
        ∧ r.tail + 1 < (s.zoneLength : Int) ∧ packingDue s (advanced r) = false ∧ verdictDue s (advanced r) = false)
      ∧ s.isHead = false ∧ s.link.silencing = false ∧ s.link.txq.length ≤ 2 ∧ s.downstream = 0)
      ∧ (segment 1180 120 120 300 0).tail = 0 ∧ (station 12 profile12 .running).isHead = false := by decide +kernel

/-- Station 3 with a segment forming at this head and this off run. -/
def forms (head offRun : Nat) : State :=
  { station 3 profile3 .running with
    tracking := ⟨[segment 400 3000 800 2000 0, formingSegment 401 head], none, offRun, 0, 402, 5120⟩ }

theorem witness_SegmentCloses :
    (forms 258 60).hasProfile = true ∧ (forms 258 60).mode ≠ .quiet ∧ (forms 258 60).tracking.mergeBound = none
      ∧ (forms 258 60).tracking.zone = [segment 400 3000 800 2000 0] ++ [formingSegment 401 258]
      ∧ (formingSegment 401 258).forming = true ∧ (∀ x ∈ [segment 400 3000 800 2000 0], x.forming = false)
      ∧ (forms 258 60).gapLength ≤ (forms 258 60).tracking.offRun
      ∧ (forms 800 59).tracking.offRun < (forms 800 59).gapLength
      ∧ (forms 800 59).segmentMax ≤ (formingSegment 401 800).head ∧ 0 < (forms 800 59).segmentMax := by decide +kernel

/-- The count that brings the off run to 60, and the one that brings the head to 800, close 3/401 at 198 and at 800. -/
theorem witness_SegmentCloses_counts :
    (∀ p ∈ [((257, 59), false, 198), ((799, 0), true, 800), ((799, 58), false, 800)],
      let s := forms p.1.1 p.1.2
      s.hasProfile = true ∧ s.tracking.reverseDebt = 0 ∧ s.arrivals = []
        ∧ (∀ ch, ch < 6 → removingWindow s ch = false)
        ∧ ((p.2.1 = false ∧ s.gapLength ≤ min (s.tracking.offRun + 1) 65535
              ∧ p.2.2 = max 1 (p.1.1 + 1 - s.gapLength))
            ∨ ((p.2.1 = true ∨ s.tracking.offRun + 1 < s.gapLength) ∧ 0 < s.gapLength ∧ 0 < s.segmentMax
              ∧ s.segmentMax ≤ p.1.1 + 1 ∧ p.2.2 = s.segmentMax))
        ∧ (∀ u ∈ closedZone s [segment 400 3000 800 2000 0] (formingSegment 401 p.1.1) p.2.2,
            u.tail < s.zoneLength ∧ packingDue s u = false)) := by decide +kernel

/-- The merge-bound 12/57 of section 4.12 at the count of its gap close, before it, and at each row. -/
theorem witness_SegmentCloses_mergeBound :
    spill.hasProfile = true ∧ spill.tracking.reverseDebt = 0 ∧ spill.arrivals = []
      ∧ spill.tracking.mergeBound = some ⟨mkTag 12 57, 0, 7, 98⟩ ∧ (∀ ch, ch < 6 → removingWindow spill ch = false)
      ∧ (∀ r ∈ spill.tracking.zone, r.forming = false) ∧ spill.gapLength ≤ min (spill.tracking.offRun + 1) 65535
      ∧ 98 + 1 < spill.segmentMax ∧ min (58 + 1) 65535 < spill.gapLength ∧ spill.mode ≠ .draining
      ∧ spill.gapLength ≤ ({ spill with tracking.offRun := 60 } : State).tracking.offRun
      ∧ ({ spill with tracking.mergeBound := some ⟨mkTag 12 57, 0, 7, 800⟩ } : State).segmentMax ≤ 800
      ∧ spill.tracking.offRun < spill.gapLength
      ∧ (∀ u ∈ (spill.tracking.zone.map advanced).dropLast ++ [absorbed (segment 1180 250 120 300 0) 39 98],
          u.tail < spill.zoneLength ∧ packingDue spill u = false) := by decide +kernel

theorem witness_SegmentCloses_absorbed :
    MergeClosed spill (spill.tracking.zone.map advanced) ⟨mkTag 12 57, 0, 7, 99⟩ 39
        ((spill.tracking.zone.map advanced).dropLast ++ [absorbed (segment 1180 250 120 300 0) 39 98])
      ∧ ∃ z, MergeClosed (mergeBounds 98) ((mergeBounds 98).tracking.zone.map advanced) ⟨mkTag 3 402, 5120, 0, 99⟩ 39 z :=
  ⟨.inl ⟨by decide +kernel, (spill.tracking.zone.map advanced).dropLast, segment 1180 250 120 300 0, by decide +kernel, rfl,
    by decide +kernel⟩, _, .inr ⟨by decide, [segment 400 250 120 300 0], [], rfl, by decide +kernel, by decide, rfl⟩⟩

theorem witness_FullQueueMerges :
    spill.tracking.zone
        = (List.range 23).map (fun i => segment (1150 + i) (3300 - 100 * i) 80 100 0) ++ [segment 1180 249 120 300 0]
      ∧ spill.tracking.zone.length = 24 ∧ (segment 1180 249 120 300 0).forming = false
      ∧ spill.mode ≠ .quiet ∧ spill.link.silencing = false ∧ spill.link.txq.length < 8 := by decide +kernel

theorem witness_GapRunEnds :
    (station 3 profile3 .running).hasProfile = true ∧ (station 3 profile3 .running).mode ≠ .quiet
      ∧ ({ station 3 profile3 .running with flow.gapRun := some 14000 } : State).flow.gapRun = some 14000
      ∧ (station 3 profile3 .running).gapRunLength ≤ 14000 ∧ 13999 < (station 3 profile3 .running).gapRunLength := by
  decide +kernel

theorem witness_GapRunEnds_count :
    (station 3 profile3 .running).tracking.reverseDebt = 0 ∧ (station 3 profile3 .running).gapRunLength ≤ 13999 + 1
      ∧ ¬ (station 3 profile3 .running).gapRunLength ≤ 13998 + 1 := by decide +kernel

/-! ### Witnesses: handover -/

/-- 3/401 at its transfer distance, after this off run. -/
def arriving (offRun : Nat) : State :=
  { station 9 profile9 .running with arrivals := [{ armed401 with advance := 220 }], tracking.offRun := offRun }

theorem witness_ArrivalTested :
    (arriving 0).hasProfile = true ∧ (arriving 0).mode ≠ .quiet
      ∧ (arriving 0).arrivals = [{ armed401 with advance := 220 }] ∧ armed401.armed = true
      ∧ (arriving 0).transferDistance ≤ 220 ∧ 1 ≤ 220
      ∧ 2 * (arriving 60).arrivalTolerance ≤ (arriving 60).tracking.offRun
      ∧ (arriving 59).tracking.offRun < 2 * (arriving 59).arrivalTolerance ∧ (arriving 59).tracking.zone = []
      ∧ (arriving 59).tracking.mergeBound = none := by decide +kernel

/-- The counts that bring 3/401 to its transfer distance, with an off run that they bring to 60 and to 59. -/
theorem witness_ArrivalTested_counts :
    (∀ offRun ∈ [58, 59],
      let s : State := { arriving offRun with arrivals := [armed401] }
      s.hasProfile = true ∧ s.mode ≠ .quiet ∧ s.tracking.reverseDebt = 0 ∧ s.tracking.zone = []
        ∧ s.tracking.mergeBound = none ∧ s.transferDistance ≤ armed401.advance + 1 ∧ armed401.advance < 65535
        ∧ s.mode ≠ .walking
        ∧ (offRun = 59 → 2 * s.arrivalTolerance ≤ min (s.tracking.offRun + 1) 65535)
        ∧ (offRun = 58 → min (s.tracking.offRun + 1) 65535 < 2 * s.arrivalTolerance)) := by decide +kernel

/-- The OFFER and the PASS of 3/401 to station 9, and the TAKE that answers. -/
def offer401 : Frame := ⟨.offer, 7, 9, imageBytes armed401.image⟩
def pass401 : Frame := ⟨.pass, 7, 9, imageBytes armed401.image⟩
def take401 : Frame := ⟨.take, 12, 9, be16 (3 * 2048 + 401)⟩

/-- Station 9 with these arrivals. -/
def receiving (l : List Arrival) : State := { station 9 profile9 .running with arrivals := l }

/-- Reservations of other units. -/
def reserved (seq : Nat) : Arrival := ⟨false, { armed401.image with tag := mkTag 3 seq }, 0, 0⟩

theorem witness_OfferAnswered :
    Oldest .offer offer401 [] (withFrame offer401 (receiving [])) ∧ (receiving []).hasProfile = true
      ∧ (receiving []).mode ≠ .walking ∧ (receiving []).upstream ≠ 0 ∧ 7 = (receiving []).upstream
      ∧ 7 ≠ (receiving []).downstream
      ∧ ({ receiving [] with tracking.zone := [segment 401 100 50 50 0] } : State).zoneHolds (imageOf offer401.payload).tag
      ∧ (receiving [reserved 401]).zoneHolds (imageOf offer401.payload).tag = false
      ∧ (receiving [reserved 401]).arrivalsHold (imageOf offer401.payload).tag = true
      ∧ (receiving [reserved 1, reserved 2, reserved 3]).arrivalsHold (imageOf offer401.payload).tag = false
      ∧ (let s : State := { receiving [reserved 1, reserved 2, reserved 3] with
            flow.reasons := ⟨false, false, false, false, false⟩ }
        s.holding = false ∧ s.arrivals.length < 4 ∧ s.link.silencing = false ∧ s.link.txq.length ≤ 3)
      ∧ (receiving []).holding = true ∧ 4 ≤ (receiving [reserved 1, reserved 2, reserved 3, reserved 4]).arrivals.length :=
  ⟨oldest_check (by decide), by decide +kernel⟩

theorem witness_TakeHandled :
    Oldest .take take401 [] (withFrame take401 (offered 40 0)) ∧ (offered 40 0).hasProfile = true
      ∧ (offered 40 0).mode ≠ .walking ∧ (offered 40 0).downstream ≠ 0 ∧ 12 = (offered 40 0).downstream
      ∧ ((offered 40 0).findRecord (BitVec.ofNat 16 (payload16 take401.payload 0))).any (·.handover.isOffered) = true
      ∧ (receiving []).findRecord (BitVec.ofNat 16 (payload16 take401.payload 0)) = none :=
  ⟨oldest_check (by decide), by decide +kernel⟩

theorem witness_PassHandled :
    Oldest .pass pass401 [] (withFrame pass401 (receiving [reserved 1, reserved 401]))
      ∧ (receiving [reserved 1, reserved 401]).hasProfile = true
      ∧ (receiving [reserved 1, reserved 401]).upstream ≠ 0 ∧ 7 = (receiving [reserved 1, reserved 401]).upstream
      ∧ (receiving [reserved 1, reserved 401]).zoneHolds (imageOf pass401.payload).tag = false
      ∧ (receiving [reserved 1, reserved 401]).arrivals = [reserved 1] ++ reserved 401 :: []
      ∧ (reserved 401).image.tag = (imageOf pass401.payload).tag ∧ (reserved 401).armed = false
      ∧ (∀ x ∈ [reserved 1] ++ [], x.image.tag ≠ (imageOf pass401.payload).tag)
      ∧ (∃ a ∈ (receiving [armed401]).arrivals, a.image.tag = (imageOf pass401.payload).tag ∧ a.armed = true)
      ∧ (receiving [reserved 1, reserved 2, reserved 3]).arrivalsHold (imageOf pass401.payload).tag = false
      ∧ 4 ≤ (receiving [reserved 1, reserved 2, reserved 3, reserved 4]).arrivals.length :=
  ⟨oldest_check (by decide), by decide +kernel⟩

theorem witness_OfferRepliesExpire :
    (offered 0 2).hasProfile = true ∧ (offered 0 2).mode ≠ .quiet
      ∧ ((offered 0 2).findRecord (mkTag 3 401)).map (fun r => (r.handover, r.attempts)) = some (.offered (.waiting 0), 2)
      ∧ 0 ≤ (offered 0 2).now ∧ (offered 0 2).mode ≠ .walking ∧ (offered 0 2).downstream ≠ 0
      ∧ ((offered 0 3).findRecord (mkTag 3 401)).map (·.attempts) = some 3 ∧ (offered 1 2).now < 1
      ∧ Accepts .offer (offered 0 2) :=
  ⟨by decide +kernel, nofun, by decide +kernel, by decide, nofun, by decide +kernel, by decide +kernel, by decide,
    ⟨nofun, rfl, by decide, rfl⟩⟩

theorem witness_ReservationExpires :
    (receiving [reserved 1, reserved 2]).hasProfile = true ∧ (receiving [reserved 1, reserved 2]).mode ≠ .quiet
      ∧ (receiving [reserved 1, reserved 2]).arrivals = [reserved 1] ++ reserved 2 :: []
      ∧ (∀ x ∈ [reserved 1], x.image.tag ≠ (reserved 2).image.tag) ∧ (reserved 2).armed = false
      ∧ (reserved 2).created + (receiving []).reserveLimit ≤ ({ receiving [] with now := 3000 } : State).now
      ∧ ({ receiving [] with now := 2999 } : State).now < (reserved 2).created + (receiving []).reserveLimit := by
  decide +kernel

/-! ### Witnesses: dose and flow -/

theorem witness_SampleExpires :
    (failingProbe 0).hasProfile = true ∧ (failingProbe 0).mode ≠ .quiet
      ∧ (failingProbe 0).dose.sampleTimer = some ⟨100, 0⟩ ∧ 0 ≤ (failingProbe 0).now
      ∧ probeUsed (failingProbe 0) 1 = true ∧ probeUsed (failingProbe 0) 3 = false
      ∧ (failingProbe 0).hasRole .freeze = false ∧ (station 9 profile9 .running).hasRole .freeze = true
      ∧ (station 9 profile9 .running).item 38 ≠ 0
      ∧ ({ station 9 profile9 .running with dose.sampleTimer := some ⟨200, 200⟩ } : State).now < 200 := by decide +kernel

/-- Probe 1 of station 3 turns stale at its fourth invalid reading in a row. Station 3, a head, is one short of its
THROTTLE_INTERVAL, and further off. -/
theorem witness_SampleExpires_probes :
    turnsStale (failingProbe 3) 1 5000 = true ∧ turnsStale (failingProbe 2) 1 5000 = false
      ∧ (failingProbe 3).counters.probeStale ≤ 65535 ∧ (failingProbe 3).link.silencing = false
      ∧ (failingProbe 3).link.txq.length ≤ 3 ∧ (failingProbe 3).isHead = true
      ∧ (station 9 profile9 .running).isHead = false
      ∧ ({ failingProbe 3 with flow.throttleCount := 3 } : State).flow.throttleCount + 1 < (failingProbe 3).throttleInterval
      ∧ (failingProbe 3).throttleInterval ≤ ({ failingProbe 3 with flow.throttleCount := 4 } : State).flow.throttleCount + 1
      := by decide +kernel

theorem witness_AccrualRows :
    ({ segment 610 3000 200 100 0 with dose := some 30975, blanchMade := false } : UnitRecord).kind = .segment
      ∧ probeUnder (failingProbe 3) { segment 610 3000 200 100 0 with blanchMade := false } = some 1
      ∧ probeUnder (failingProbe 3) { segment 610 2500 200 100 0 with blanchMade := false } = some 1
      ∧ probeUnder (failingProbe 3) { segment 610 2499 200 100 0 with blanchMade := false } = some 0
      ∧ accountClosed (failingProbe 3) (segment 610 3000 200 100 0) = true
      ∧ accountClosed (failingProbe 3) { segment 610 3000 200 100 0 with blanchMade := false } = false
      ∧ probeIsStale (failingProbe 3).staleLimit ((failingProbe 3).probe 1) = false
      ∧ probeIsStale (failingProbe 4).staleLimit ((failingProbe 4).probe 1) = true
      ∧ ((failingProbe 3).probe 1).value = some 951 ∧ (failingProbe 3).hasRole .blanch = true
      ∧ (station 9 profile9 .running).hasRole .blanch = false
      ∧ (-180 : Int) ≤ itemInt (station 9 profile9 .running).items 36
      ∧ itemInt (station 9 profile9 .running).items 36 < -179
      ∧ (station 9 profile9 .running).hasRole .freeze = true ∧ (failingProbe 3).counters.verdictFail ≤ 65535 := by decide +kernel

theorem witness_ThrottleSteps :
    head.isHead = true ∧ head.mode ≠ .quiet
      ∧ head.throttleInterval ≤ ({ head with flow.throttleCount := 5 } : State).flow.throttleCount
      ∧ ({ head with flow.throttleCount := 4 } : State).flow.throttleCount < head.throttleInterval
      ∧ ({ head with peer.chainLoad := true } : State).peer.chainLoad = true ∧ head.peer.chainLoad = false := by
  decide +kernel

/-- A sample expiry that is due at a head one short of its THROTTLE_INTERVAL. -/
theorem witness_ThrottleSteps_sample :
    (let s : State := { failingProbe 0 with flow.throttleCount := 4 }
    s.isHead = true ∧ s.mode ≠ .quiet ∧ s.dose.sampleTimer = some ⟨100, 0⟩ ∧ 0 ≤ s.now
      ∧ s.throttleInterval ≤ s.flow.throttleCount + 1) := by decide +kernel

theorem witness_LevelHysteresis :
    head.releaseLevel < head.holdLevel
      ∧ head.holdLevel ≤ ({ head with tracking.zone := List.replicate 12 (segment 1 1 1 1 0) } : State).tracking.zone.length
      ∧ ({ head with tracking.zone := List.replicate 6 (segment 1 1 1 1 0) } : State).tracking.zone.length
          ≤ head.releaseLevel
      ∧ head.releaseLevel < ({ head with tracking.zone := List.replicate 7 (segment 1 1 1 1 0) } : State).tracking.zone.length
      := by decide +kernel

/-- RUN in READY clears IDLE, and the station holds no longer. -/
theorem witness_LevelHysteresis_change :
    (let s := withFrame ⟨.run, 30, 0, []⟩ (starting false [])
    (∀ n r, Instr.run ≠ .fullReset n r) ∧ Next .run s (after .run s) ∧ (after .run s).mode ≠ .quiet
      ∧ (after .run s).mode ≠ .joining
      ∧ s.link.silencing = false ∧ s.link.txq.length ≤ 4 ∧ (after .run s).flow.reasons ≠ s.flow.reasons
      ∧ (after .run s).upstream ≠ 0 ∧ s.counters.txDrop < 65535
      ∧ (after .run s).counters.txDrop = s.counters.txDrop) :=
  ⟨nofun, next_after (by decide +kernel), by decide +kernel⟩

theorem witness_LimiterBoundsStarts :
    limiterAnswer 300000 5000 310001 ⟨[10000, 40000, 70000, 100000], some 112000, none⟩
        = .granted ⟨[40000, 70000, 100000, 310001], some 112000, none⟩
      ∧ limiterAnswer 300000 5000 114000 ⟨[10000, 40000, 70000, 100000], some 112000, none⟩
        = .deferred ⟨[10000, 40000, 70000, 100000], some 112000, some 310001⟩ 3 196001
      ∧ limiterAnswer 0 5000 116999 ⟨[], some 112000, none⟩ = .deferred ⟨[], some 112000, some 117000⟩ 2 1 := by decide

theorem witness_LimiterBoundsStarts_expiry :
    heldDrive.hasProfile = true ∧ heldDrive.mode ≠ .quiet
      ∧ ({ heldDrive with flow.driveLimiter.deferred := some 114000 } : State).flow.driveLimiter.deferred = some 114000
      ∧ 114000 ≤ heldDrive.now ∧ heldDrive.now < 114001
      ∧ (station 20 profile20 .running).hasProfile = true
      ∧ ({ loaded with flow.doorLimiter.deferred := some 0 } : State).flow.doorLimiter.deferred = some 0
      ∧ 0 ≤ loaded.now ∧ loaded.packing.door = .requested := by decide +kernel

/-- Each limiter with a deferred request, with room, and with a stop condition that fails. -/
theorem witness_LimiterBoundsStarts_requests :
    ({ heldDrive with flow.driveLimiter.deferred := some 114000 } : State).flow.driveLimiter.deferred ≠ none
      ∧ (starting false []).flow.driveLimiter.deferred = none ∧ (starting false []).item 9 = 300000
      ∧ (starting false []).item 10 = 5000 ∧ loaded.flow.doorLimiter.deferred = none
      ∧ limiterAnswer (loaded.item 76) (loaded.item 77) loaded.now loaded.flow.doorLimiter = .granted ⟨[0], none, none⟩
      ∧ limiterAnswer (loaded.item 76) (loaded.item 77) 29999 ⟨[0], some 0, none⟩
        = .deferred ⟨[0], some 0, some 30000⟩ 2 1 := by decide +kernel

/-! ### Witnesses: defrost, packing and channels -/

/-- Station 9 with this debt, overdue stay and cycle, its interval timer at this time. -/
def owing (debt elapsed : Nat) (stay : Bool) (c : Option DefrostCycle) : State :=
  { station 9 profile9 .running with defrost := ⟨debt, elapsed, stay, true, c⟩ }

theorem witness_DefrostIntervalExpires :
    (owing 7 2400000 false none).hasRole .freeze = true ∧ (owing 7 2400000 false none).mode = .running
      ∧ (owing 7 2400000 false none).defrostPeriod ≤ (owing 7 2400000 false none).defrost.intervalElapsed
      ∧ (owing 7 2400000 false none).defrost.debt < 8 ∧ 8 ≤ (owing 8 2400000 true none).defrost.debt
      ∧ (owing 8 2400000 true none).defrost.overdueStay = true
      ∧ (owing 8 2400000 false (some ⟨.panic, 9⟩)).defrost.overdueStay = false
      ∧ (owing 8 2400000 false (some ⟨.panic, 9⟩)).defrost.cycle = some ⟨.panic, 9⟩
      ∧ (owing 7 2399999 false none).defrost.intervalElapsed < (owing 7 2399999 false none).defrostPeriod
      ∧ Accepts .event (owing 8 2400000 false (some ⟨.panic, 9⟩)) := by
  and_intros <;> decide +kernel

theorem witness_DefrostCompletes :
    cycleEnds.hasRole .freeze = true ∧ cycleEnds.mode ≠ .quiet ∧ cycleEnds.defrost.cycle = some ⟨.normal, 600000⟩
      ∧ 600000 ≤ cycleEnds.now ∧ ({ cycleEnds with now := 599999 } : State).now < 600000 := by decide +kernel

theorem witness_SegmentsJoinBags :
    (bagging 200 0).packing.openBag = some ⟨31, 5120, 850⟩ ∧ (segment 642 1210 10 149 0).lot = 5120
      ∧ (segment 642 1210 10 149 0).disposition = 0 ∧ min (850 + 149) 65535 < (bagging 149 0).bagTarget
      ∧ (bagging 150 0).bagTarget ≤ min (850 + 150) 65535 ∧ (segment 642 1210 10 149 6).disposition ≠ 0
      ∧ ({ bagging 150 0 with tracking.zone := [] } : State).tracking.zone = []
      ∧ (bagging 150 0).arrivals = [] ∧ (bagging 150 0).tracking.tagSeq < 2048 := by decide +kernel

/-- Bag 31 of another lot, before a segment that stays below BAG_TARGET and one that reaches it. -/
theorem witness_SegmentsJoinBags_lots :
    (let s : State := { bagging 0 0 with packing.openBag := some ⟨31, 5119, 850⟩, tracking.zone := [] }
    s.packing.openBag = some ⟨31, 5119, 850⟩ ∧ (segment 642 1210 10 999 0).lot ≠ 5119 ∧ s.tracking.zone = []
      ∧ s.arrivals = [] ∧ s.tracking.tagSeq < 2048 ∧ min 999 65535 < s.bagTarget ∧ s.bagTarget ≤ min 1000 65535)
      ∧ (bagging 0 0).bagPoint < (bagging 0 0).zoneLength := by decide +kernel

/-- A bag whose number and tag an EVENT BAG_CLOSED names, with a queue that has room for it. -/
theorem witness_SegmentsJoinBags_events :
    (bagging 150 0).mode ≠ .quiet ∧ (bagging 150 0).link.silencing = false ∧ (bagging 150 0).link.txq.length ≤ 1
      ∧ (bagging 150 0).packing.openBag = some ⟨31, 5120, 850⟩ ∧ (bagging 150 0).bagTarget ≤ min (850 + 150) 65535 := by
  decide +kernel

/-- 3/642 alone at the bagger, one count short of the bag point 1,200, with bag 31 open at 850 g, or no bag. -/
theorem witness_SegmentsJoinBags_consumed :
    (∀ bag ∈ [some ⟨31, 5120, 850⟩, none],
      let s : State := { bagging 149 0 with packing.openBag := bag }
      s.hasRole .bag = true ∧ s.mode ≠ .quiet ∧ s.tracking.reverseDebt = 0 ∧ s.arrivals = []
        ∧ s.tracking.mergeBound = none ∧ s.tracking.zone = [segment 642 1209 10 149 0]
        ∧ (segment 642 1209 10 149 0).kind = .segment ∧ (segment 642 1209 10 149 0).forming = false
        ∧ (segment 642 1209 10 149 0).tail + 1 = (s.bagPoint : Int) ∧ (∀ ch, ch < 6 → removingWindow s ch = false))
      ∧ min (850 + 149) 65535 < (bagging 149 0).bagTarget ∧ (bagging 149 0).packing.nextBag = 32 := by decide +kernel

/-- The door of station 20 open until 740,000 ms, with these carriers. -/
def doorOpen (l : List DoorEntry) (now : Nat) : State :=
  { station 20 profile20 .running with now := now, packing := ⟨none, 0, none, 9, l, .opened 740000⟩ }

theorem witness_DoorCycleCompletes :
    (doorOpen [⟨7, 2⟩] 740000).hasProfile = true ∧ (doorOpen [⟨7, 2⟩] 740000).mode ≠ .quiet
      ∧ (doorOpen [⟨7, 2⟩] 740000).packing.door = .opened 740000
      ∧ (doorOpen [⟨7, 2⟩] 740000).packing.doorList = ⟨7, 2⟩ :: [] ∧ 740000 ≤ (doorOpen [⟨7, 2⟩] 740000).now
      ∧ (doorOpen [⟨7, 2⟩] 739999).now < 740000 := by decide +kernel

/-- A bag at the tail station, one count short of the carrier point 1,500, with this carrier open and this door list. -/
def loading (c : Option Carrier) (l : List DoorEntry) : State :=
  { station 20 profile20 .running with
    tracking.zone := [{ segment 90 1649 150 1050 1 with kind := .bag }]
    packing := ⟨none, 0, c, 8, l, .idle⟩ }

theorem witness_DoorCycleCompletes_carriers :
    (∀ c ∈ [none, some ⟨7, 5120, 1, 0⟩, some ⟨7, 5119, 1, 0⟩], ∀ n ∈ [3, 4],
      let s := loading c (List.replicate n ⟨6, 0⟩)
      let u : UnitRecord := { segment 90 1649 150 1050 1 with kind := .bag }
      s.hasRole .transfer = true ∧ s.mode ≠ .quiet ∧ s.tracking.reverseDebt = 0 ∧ s.arrivals = []
        ∧ s.tracking.mergeBound = none ∧ s.tracking.zone = [u] ∧ u.kind = .bag ∧ u.forming = false
        ∧ u.tail + 1 = (s.carrierPoint : Int) ∧ u.tail + 1 < (s.zoneLength : Int)
        ∧ (∀ ch, ch < 6 → removingWindow s ch = false) ∧ 1 < s.carrierSize ∧ u.lot = 5120)
      ∧ (loading none []).carrierSize ≤ 1 + 1 ∧ 0 + 1 < (loading none []).carrierSize := by decide +kernel

/-- A bag whose tail moves to the zone end of station 20, and one whose tail is past it. -/
theorem witness_DoorCycleCompletes_unbagged :
    (∀ head ∈ [2149, 2150],
      let u : UnitRecord := { segment 90 head 150 1050 1 with kind := .bag }
      let s : State := { loading none [⟨6, 0⟩] with tracking.zone := [u] }
      s.hasRole .transfer = true ∧ s.mode ≠ .quiet ∧ s.tracking.reverseDebt = 0 ∧ s.arrivals = []
        ∧ s.tracking.mergeBound = none ∧ u.forming = false ∧ (s.zoneLength : Int) ≤ u.tail + 1
        ∧ packingDue s (advanced u) = false ∧ (∀ ch, ch < 6 → removingWindow s ch = false)
        ∧ s.link.silencing = false ∧ s.link.txq.length ≤ 3)
      ∧ (doorOpen [⟨7, 2⟩] 740000).link.silencing = false ∧ (doorOpen [⟨7, 2⟩] 740000).link.txq.length ≤ 3 := by
  decide +kernel

/-- The head with its infeed channel CH0 and a duty channel CH2 running, TB0 at this value. -/
def bases (tb0 : Nat) : State :=
  { station 3 (profile3 ++ [(51, 0x06010000), (57, 32 * 65536)]) .running with
    channels := ⟨(Vector.replicate 6 stoppedChannel).set 2 ⟨.running, false, false, .awaitingRise, none, false, false⟩,
      some tb0, none, some 0⟩ }

/-- The bagger's label channel CH2 with its one-shot at this value. -/
def label (oneShot : Nat) (rose : Bool) : State :=
  { station 14 profile14 .running with
    channels := ⟨(Vector.replicate 6 stoppedChannel).set 2 ⟨.running, rose, false, .awaitingRise, some oneShot, rose,
      rose⟩, none, none, some 0⟩ }

theorem witness_ChannelClocks :
    (bases 999).mode ≠ .quiet ∧ msBaseValue (bases 999) .tb0 = some 999 ∧ msBasePeriod (bases 999) .tb0 = 1000
      ∧ ((bases 999).channelRecord 2).mode = .duty ∧ ((bases 999).channelRecord 2).base = msBaseName .tb0
      ∧ (bases 999).channels.chans[2].run = .running ∧ (bases 999).infeedChannel ≠ 2
      ∧ ((label 199 false).channelRecord 2).mode = .eventPulse ∧ (label 199 false).channels.chans[2].run = .running
      ∧ (label 199 false).channels.chans[2].oneShot = some 199 ∧ 199 < 65535
      ∧ 199 + 1 = ((label 199 false).channelRecord 2).a ∧ 199 + 1 ≠ ((label 199 false).channelRecord 2).b
      ∧ 1699 + 1 ≠ ((label 1699 true).channelRecord 2).a ∧ 1699 + 1 = ((label 1699 true).channelRecord 2).b
      ∧ (label 1699 true).channels.chans[2].rose = true := by decide +kernel

/-- A channel of each compare mode, with A and B, at CH2 of station 12 on a base of 4 ms. -/
def compared (mode a b v : Nat) (phase : PulsePhase) : State :=
  { station 12 (profile12 ++ [(51, mode * 0x1000000 + 0x10000), (57, a * 0x10000 + b), (67, 4)]) .running with
    channels := ⟨(Vector.replicate 6 stoppedChannel).set 2 ⟨.running, true, false, phase, none, false, true⟩, some v, none,
      some 0⟩ }

theorem witness_ChannelClocks_compares :
    (∀ m ∈ [1, 2, 3, 4, 5],
      let s := compared m 3 1 2 .awaitingFall
      s.mode ≠ .quiet ∧ msBaseValue s .tb0 = some 2 ∧ 2 + 1 < msBasePeriod s .tb0
        ∧ (s.channelRecord 2).base = msBaseName .tb0 ∧ s.channels.chans[2].run = .running
        ∧ (s.channelRecord 2).a = 2 + 1 ∧ (s.channelRecord 2).b ≠ 2 + 1
        ∧ (s.channelRecord 2).mode = channelModeOf m ∧ channelModeOf m ≠ .off)
      ∧ msBasePeriod (compared 4 3 1 3 .awaitingFall) .tb0 ≤ 3 + 1
      ∧ (compared 4 3 3 2 .awaitingRise).channels.chans[2].phase = .awaitingRise
      ∧ (compared 4 1 3 2 .awaitingFall).channels.chans[2].phase = .awaitingFall
      ∧ ((compared 4 1 3 2 .awaitingFall).channelRecord 2).b = 2 + 1
      ∧ (compared 4 1 3 2 .inert).channels.chans[2].phase = .inert := by decide +kernel

/-- A channel of each compare mode on the BELT base, 4,000 counts long, one count short of A and of the wrap. -/
def belted (mode a v : Nat) : State :=
  { station 12 (profile12 ++ [(51, mode * 0x1000000), (57, a * 0x10000 + 1)]) .running with
    channels := ⟨(Vector.replicate 6 stoppedChannel).set 2 ⟨.running, true, false, .awaitingFall, none, false, true⟩,
      none, none, some v⟩ }

theorem witness_ChannelClocks_belt :
    (∀ m ∈ [1, 2, 3, 4, 5], ∀ p ∈ [(3999, 3998), (0, 3999)],
      let s := belted m p.1 p.2
      s.hasProfile = true ∧ s.mode ≠ .quiet ∧ s.tracking.reverseDebt = 0 ∧ s.channels.belt = some p.2
        ∧ s.channels.chans[2].run = .running ∧ (s.channelRecord 2).base = .belt
        ∧ (s.channelRecord 2).mode = channelModeOf m
        ∧ (s.channelRecord 2).a = (if p.2 + 1 < s.zoneLength then p.2 + 1 else 0))
      ∧ (station 12 profile12 .profiled).channels.belt = none
      ∧ ((compared 3 3 1 2 .inert).channelRecord 2).base ≠ .belt
      ∧ ((compared 3 3 1 2 .inert).channelRecord 2).mode ≠ .eventPulse
      ∧ (compared 3 3 1 2 .inert).channels.belt = some 0 := by decide +kernel

/-- Station 12's flap over 3/405, whose disposition it rejects, before the count that removes it. -/
def flapping : State := { flapCount 2549 2259 with pending := [.forwardCount false] }

theorem witness_OutputsFollowKept : OutputsFollow flapping ∧ step flapping = .next (after (.forwardCount false)
    { flapping with pending := [] }) := by
  have stopped : ∀ ch (h : ch < 6), ch ≠ 1 → flapping.channels.chans[ch].run ≠ .running
      ∧ flapping.channels.chans[ch].out = false := by decide +kernel
  have shown : flapping.channels.chans[1].run = .running ∧ flapping.channels.chans[1].out = true := by decide +kernel
  have window : (flapping.channelRecord 1).mode = .segmentWindow := by decide +kernel
  refine ⟨fun ch h => ?_, step_after rfl (by decide +kernel)⟩
  by_cases hc : ch = 1
  · subst hc
    refine ⟨fun hr => absurd shown.1 hr, fun _ => ?_⟩
    unfold OutputRow
    rw [window]
    exact iff_of_true shown.2 (by decide +kernel)
  · exact ⟨fun _ => (stopped ch h hc).2, fun hr => absurd hr (stopped ch h hc).1⟩

theorem witness_OutputsFollowKept_reasons : ReasonsFollow driven ∧ driven.hasProfile = true
    ∧ step driven = .next (after .hold { driven with pending := [] })
    ∧ driven.releaseLevel = 6 ∧ driven.tracking.zone.length + driven.arrivals.length ≤ 6
    ∧ (let s : State := { driven with
          tracking.zone := List.replicate 12 (segment 1 1 1 1 0), flow.reasons := ⟨true, false, false, false, false⟩ }
      s.mode ≠ .quiet ∧ s.holdLevel ≤ s.tracking.zone.length + s.arrivals.length ∧ s.flow.reasons.level = true) := by
  refine ⟨⟨nofun, fun _ => ⟨nofun, fun h => absurd (.inr (.inl rfl)) h⟩, fun _ => ⟨nofun, nofun⟩,
    fun _ => ⟨nofun, fun ⟨_, h⟩ => by cases h⟩, ?_, ?_, ?_, ?_⟩, by decide +kernel, step_after rfl (by decide +kernel),
    by decide +kernel⟩ <;> decide +kernel

theorem witness_ChannelsFollowState :
    Handled ⟨.profileEnd, 30, 12, [19#8]⟩ (joining profile12)
      ∧ profileFailure (joining profile12).station.pendingProfile (payloadByte [19#8] 0) = none
      ∧ Handled ⟨.restart, 30, 0, []⟩ (station 12 profile12Flap .running)
      ∧ Handled ⟨.restart, 30, 0, []⟩ (unwalked .running)
      ∧ Handled ⟨.restart, 30, 0, []⟩ { station 12 profile12Flap .running with faultIn := true }
      ∧ Handled ⟨.faultClear, 30, 0, []⟩ faultedFlap ∧ Handled ⟨.faultClear, 30, 0, []⟩ (unwalked .faulted)
      ∧ Handled ⟨.run, 30, 0, []⟩ (station 12 profile12Flap .ready) := by
  refine ⟨?_, by decide +kernel, ?_, ?_, ?_, ?_, ?_, ?_⟩ <;> exact handled_check (by decide +kernel)

theorem witness_ChannelsFollowState_governed :
    (faultedFlap.channelRecord 1).faultGoverned = true ∧ (faultedFlap.channelRecord 1).mode ≠ .eventPulse
      ∧ (faultedFlap.channelRecord 0).faultGoverned = false ∧ faultedFlap.faultIn = false
      ∧ ({ faultedFlap with
            channels.chans := Vector.replicate 6 { stoppedChannel with run := .running } } : State).channels.chans[0].run
        = .running := by decide +kernel

end Sys2Proof.Tests
end

/-! PROOFS. The reverse debt (R65, R66): what each count does to it, and that responses to a reset or a restart keep it
cleared. -/

namespace Sys2Proof.ReverseDebt

open Sys2Proof Sys2Proof.Machine Sys2Proof.Safety Sys2Proof.Laws

/-! ### The encoder's counts -/

/-- The part acts on the belt once it holds a profile, unless it is QUIET (R65). -/
theorem acts_eq_true {s : State} (hp : s.hasProfile = true) (hq : s.mode ≠ .quiet) : s.acts = true := by
  simp [State.acts, hp, hq]

/-- Before acceptance the part does not act on the belt (R65). -/
theorem acts_eq_false {s : State} (hp : s.hasProfile = false) : s.acts = false := by
  simp [State.acts, hp]

/-- A reverse count of an acting part adds one to the debt, which saturates (R66). -/
theorem next_reverseCount_acts {s : State} (h : s.acts = true) :
    Next .reverseCount s
      { s with
        encoder := encoderReverse s.encoder
        tracking.reverseDebt := min (s.tracking.reverseDebt + 1) 65535 } :=
  if_pos h

/-- A reverse count of a part that does not act moves the encoder alone. -/
theorem next_reverseCount_idle {s : State} (h : s.acts = false) :
    Next .reverseCount s { s with encoder := encoderReverse s.encoder } :=
  if_neg (Bool.eq_false_iff.1 h)

/-- A forward count of an acting part with debt standing pays one of it, and is no accepted count (R66). -/
theorem next_forwardCount_debt {s : State} (on : Bool) (h : s.acts = true) (hd : s.tracking.reverseDebt ≠ 0) :
    Next (.forwardCount on) s
      { s with
        encoder := encoderForward s.encoder
        tracking.reverseDebt := s.tracking.reverseDebt - 1 } :=
  (if_pos h).trans (if_neg hd)

/-- A forward count of a part that does not act moves the encoder alone. -/
theorem next_forwardCount_idle {s : State} (on : Bool) (h : s.acts = false) :
    Next (.forwardCount on) s { s with encoder := encoderForward s.encoder } :=
  if_neg (Bool.eq_false_iff.1 h)

/-! ### What keeps the debt -/

/-- Records joining or leaving the zone queue keep the debt. -/
theorem queueWritten_reverseDebt {s t : State} (h : QueueWritten s t) :
    t.tracking.reverseDebt = s.tracking.reverseDebt := by
  have e := congrArg (fun s => s.tracking.reverseDebt) h.1; exact e

/-- Responses keep the debt. -/
theorem blocksResponded_reverseDebt {s t : State} (h : BlocksResponded s t) :
    t.tracking.reverseDebt = s.tracking.reverseDebt :=
  queueWritten_reverseDebt (blocksResponded_queue h)

/-- Queueing frames keeps the debt. -/
theorem framesQueued_reverseDebt {s t : State} (h : FramesQueued s t) :
    t.tracking.reverseDebt = s.tracking.reverseDebt :=
  blocksResponded_reverseDebt (framesQueued_blocks h)

@[simp] theorem queueEvent_reverseDebt (n : EventName) (d t : Nat) (s : State) :
    (queueEvent n d t s).tracking.reverseDebt = s.tracking.reverseDebt :=
  framesQueued_reverseDebt (queueEvent_framesQueued n d t s)

@[simp] theorem abortDefrost_reverseDebt (s : State) :
    (abortDefrost s).tracking.reverseDebt = s.tracking.reverseDebt := by
  unfold abortDefrost; split <;> rfl

@[simp] theorem abortDoor_reverseDebt (s : State) : (abortDoor s).tracking.reverseDebt = s.tracking.reverseDebt := by
  show (withdrawDoor s).tracking.reverseDebt = _
  exact blocksResponded_reverseDebt (withdrawDoor_blocks s)

@[simp] theorem discardWalk_reverseDebt (old : StationState) (s : State) :
    (discardWalk old s).tracking.reverseDebt = s.tracking.reverseDebt := by
  unfold discardWalk
  split
  · rw [blocksResponded_reverseDebt (setNeighbours_blocks _ _)]
  · rfl

@[simp] theorem stateAborts_reverseDebt (s : State) :
    (stateAborts s).tracking.reverseDebt = s.tracking.reverseDebt := by
  unfold stateAborts
  split
  · simp
  split
  · exact blocksResponded_reverseDebt (withdrawDoor_blocks s)
  · rfl

/-- Closing a forming segment keeps the debt. -/
@[simp] theorem closeForming_reverseDebt (s : State) :
    (closeForming enterRecord queueChanged id s).tracking.reverseDebt = s.tracking.reverseDebt :=
  queueWritten_reverseDebt (closeForming_queue _ enterRecord_queue _ queueChanged_queue id s)

/-- The evaluations, start tests and STATUS at the end of a state change (log entry 11). -/
theorem stateTests_blocks (s : State) :
    BlocksResponded s (queueStatus (doorTest (defrostTest (evaluateDrive (refreshReasons s))))) :=
  blocksResponded_trans (refreshReasons_blocks s) (blocksResponded_trans (evaluateDrive_blocks _)
    (blocksResponded_trans (defrostTest_blocks _) (blocksResponded_trans (doorTest_blocks _)
      (framesQueued_blocks (queueStatus_framesQueued _)))))

/-- The blocks' responses to any change of the station state keep the debt. -/
@[simp] theorem respondToState_reverseDebt (old : StationState) (s : State) :
    (respondToState old s).tracking.reverseDebt = s.tracking.reverseDebt := by
  unfold respondToState
  rw [blocksResponded_reverseDebt (stateTests_blocks _), stateAborts_reverseDebt, discardWalk_reverseDebt]
  split
  · exact closeForming_reverseDebt s
  · rfl

@[simp] theorem enterStateAfresh_reverseDebt (new : StationState) (s : State) :
    (enterStateAfresh new s).tracking.reverseDebt = s.tracking.reverseDebt := by
  unfold enterStateAfresh
  rw [respondToState_reverseDebt, blocksResponded_reverseDebt (freshPosture_blocks _)]

/-! ### Full reset and line restart -/

/-- Full reset clears the debt, whatever the straps read (R85). -/
theorem fullReset_reverseDebt (n r : Nat) (s : State) :
    (joinWithFault (resetBlocks n r s)).tracking.reverseDebt = 0 := by
  unfold joinWithFault
  split
  · rw [queueEvent_reverseDebt]; rfl
  · rfl

/-- The EVENTs of discarded carriers are frames. -/
theorem discardCarriers_framesQueued (carrier : Option Carrier) (list : List DoorEntry) (s : State) :
    FramesQueued s (discardCarriers carrier list s) := by
  have hl := fun s => foldl_framesQueued
    (fun s (c : DoorEntry) => queueEvent .carrierStored c.number (256 + c.disposition) s)
    (fun s c => queueEvent_framesQueued _ _ _ s) list s
  cases carrier with
  | none => exact hl s
  | some c => exact framesQueued_trans (queueEvent_framesQueued _ _ _ s) (hl _)

@[simp] theorem restartLatch_reverseDebt (s : State) :
    (restartLatch s).tracking.reverseDebt = s.tracking.reverseDebt := by
  unfold restartLatch
  split
  · split
    · rfl
    · rw [queueEvent_reverseDebt]
  · rfl

/-- A line restart clears the debt with the rest of tracking, and nothing after that raises it (R86). -/
theorem lineRestart_reverseDebt (f : Frame) (s : State) : (lineRestart f s).tracking.reverseDebt = 0 := by
  unfold lineRestart
  rw [blocksResponded_reverseDebt (evaluateLevel_blocks _), enterStateAfresh_reverseDebt,
    blocksResponded_reverseDebt (evaluateChain_blocks _), restartLatch_reverseDebt, abortDoor_reverseDebt,
    abortDefrost_reverseDebt, framesQueued_reverseDebt (discardCarriers_framesQueued _ _ _)]
  rfl

/-- An admitted RESTART answers the settled line restart. -/
theorem exec_restart_admitted {f : Frame} {rest : List Frame} {s : State} (ho : Oldest .restart f rest s)
    (ha : Admitted f s) :
    exec .restart s = .next (settle (lineRestart f (handDownstream s.downstreamEntry (taken f rest s)))) :=
  takeCommand_admitted rfl ho ha

/-- Settles O35: each count is one branch of its meaning, by whether the part acts on the belt; the clears are those of
`resetBlocks` and `restartBlocks`, which every later response keeps. -/
theorem reverseDebtPaid : Obligations.ReverseDebtPaid := by
  refine ⟨fun s hp hq => ?_, fun s hp => ?_, fun n r s t h => ?_, fun f rest s t ho ha h => ?_⟩
  · have acts := acts_eq_true hp hq
    exact ⟨next_reverseCount_acts acts, fun on hd => next_forwardCount_debt on acts hd⟩
  · have idle := acts_eq_false hp
    exact ⟨next_reverseCount_idle idle, fun on => next_forwardCount_idle on idle⟩
  · obtain rfl : joinWithFault (resetBlocks n r s) = t := Host.Outcome.next.inj h
    exact fullReset_reverseDebt n r s
  · have answer := (exec_restart_admitted ho ha).symm.trans h
    obtain rfl := Host.Outcome.next.inj answer
    rw [blocksResponded_reverseDebt (settle_blocks _), lineRestart_reverseDebt]

end Sys2Proof.ReverseDebt

/-! PROOFS. The decade table (R114): each entry is the rounded root, and correct rounding alone makes the table increase,
for consecutive roots lie more than one unit apart. -/

namespace Sys2Proof.DecadeTable

open Sys2Proof Sys2Proof.Machine

/-- `m` is 4,096 × 10^(f / 256) rounded half up: the bounds m ∓ 1/2, doubled and raised to the power 256. -/
def RoundsRoot (m f : Nat) : Prop :=
  (2 * m - 1) ^ 256 ≤ 8192 ^ 256 * 10 ^ f ∧ 8192 ^ 256 * 10 ^ f < (2 * m + 1) ^ 256

theorem decadeTable_length : decadeTable.length = 256 := by decide +kernel

theorem getD_mem_zipIdx {α : Type} {l : List α} {i : Nat} (d : α) (hi : i < l.length) :
    (l.getD i d, i) ∈ l.zipIdx := by
  rw [List.mk_mem_zipIdx_iff_getElem?, List.getD_eq_getElem l d hi, List.getElem?_eq_getElem hi]

/-- One walk over the table, entry beside place, so that no entry is looked up from the start again. -/
theorem roundsRoot_of_mem_zipIdx : ∀ entry ∈ decadeTable.zipIdx, RoundsRoot entry.1 entry.2 := by
  unfold RoundsRoot
  decide +kernel

theorem decadeTable_roundsRoot {f : Nat} (hf : f < 256) : RoundsRoot (decadeTable.getD f 0) f :=
  roundsRoot_of_mem_zipIdx (decadeTable.getD f 0, f) (getD_mem_zipIdx 0 (hf.trans_eq decadeTable_length.symm))

/-- No rounded root lies below 4,096, the root at f = 0. -/
theorem RoundsRoot.le_mantissa {m f : Nat} (h : RoundsRoot m f) : 4096 ≤ m := by
  have root_lt : 8192 ^ 256 < (2 * m + 1) ^ 256 :=
    (Nat.le_mul_of_pos_right _ (by positivity)).trans_lt h.2
  have := lt_of_pow_lt_pow_left₀ 256 (Nat.zero_le _) root_lt
  omega

/-- From 4,096 on, the 256th power grows by less than a decade from m − 1/2 to m + 1/2. -/
theorem pow_upper_lt_ten_mul_pow_lower {m : Nat} (hm : 4096 ≤ m) :
    (2 * m + 1) ^ 256 < 10 * (2 * m - 1) ^ 256 := by
  have ratio : 8191 * (2 * m + 1) ≤ 8193 * (2 * m - 1) := by omega
  have base : 8193 ^ 256 < 10 * 8191 ^ 256 := by norm_num
  have pos : 0 < (2 * m - 1) ^ 256 := Nat.pow_pos (by omega)
  refine Nat.lt_of_mul_lt_mul_left (a := 8191 ^ 256) ?_
  calc 8191 ^ 256 * (2 * m + 1) ^ 256
      = (8191 * (2 * m + 1)) ^ 256 := (mul_pow ..).symm
    _ ≤ (8193 * (2 * m - 1)) ^ 256 := Nat.pow_le_pow_left ratio 256
    _ = 8193 ^ 256 * (2 * m - 1) ^ 256 := mul_pow ..
    _ < 10 * 8191 ^ 256 * (2 * m - 1) ^ 256 := Nat.mul_lt_mul_of_pos_right base pos
    _ = 8191 ^ 256 * (10 * (2 * m - 1) ^ 256) := by rw [mul_comm 10, mul_assoc]

/-- Consecutive roots round to different, increasing mantissas. -/
theorem RoundsRoot.lt_succ {m n f : Nat} (hm : RoundsRoot m f) (hn : RoundsRoot n (f + 1)) : m < n := by
  refine Nat.lt_of_not_le fun hle => lt_irrefl (10 * (2 * m - 1) ^ 256) ?_
  calc 10 * (2 * m - 1) ^ 256
      ≤ 10 * (8192 ^ 256 * 10 ^ f) := Nat.mul_le_mul_left 10 hm.1
    _ = 8192 ^ 256 * 10 ^ (f + 1) := by rw [pow_succ 10 f, mul_comm 10, mul_assoc]
    _ < (2 * n + 1) ^ 256 := hn.2
    _ ≤ (2 * m + 1) ^ 256 := Nat.pow_le_pow_left (by omega) 256
    _ < 10 * (2 * m - 1) ^ 256 := pow_upper_lt_ten_mul_pow_lower hm.le_mantissa

/-- Settles O50: the entries round their roots, so they increase. -/
theorem decadeTableExact : Obligations.DecadeTableExact := by
  refine ⟨decadeTable_length, fun f hf => decadeTable_roundsRoot hf, fun f hf => ?_, rfl⟩
  have here : RoundsRoot (decadeTable.getD f 0) f := decadeTable_roundsRoot (by omega)
  exact here.lt_succ (decadeTable_roundsRoot (by omega))

end Sys2Proof.DecadeTable

/-! PROOFS. The answer to a REPORT_ASK (R190): whatever the page, one frame is handed to the link controller, and a
controller with room for it counts nothing. -/

namespace Sys2Proof.Report

open Sys2Proof Sys2Proof.Machine Sys2Proof.Safety Sys2Proof.Laws

/-! ### A frame that the link controller takes -/

/-- A frame that is taken is the one entry that the transmit queue gains. -/
theorem settle_queueFrame_txq {f : Frame} {s : State} (h : Accepts f.kind s) :
    (settle (queueFrame f s)).link.txq = onLine s (queued f s.link.txq) := by
  rw [queueFrame_accepts h]
  exact settle_txq h.1

/-- A frame that is taken is no lost frame: nothing is counted. -/
theorem settle_queueFrame_counters {f : Frame} {s : State} (h : Accepts f.kind s) :
    (settle (queueFrame f s)).counters = s.counters := by
  rw [queueFrame_accepts h, settle_counters]

/-! ### The answer -/

/-- The frame that answers a REPORT_ASK: the page's REPORT, or the refusal of a page above 3. -/
def answerFrame (f : Frame) (s : State) : Frame :=
  if payloadByte f.payload 0 ≤ 3 then reportFrame (payloadByte f.payload 0) s
  else eventFrame .commandRefused (256 * 5 + kindCode f.kind) f.origin s

/-- Either way one frame is queued. -/
theorem answerReport_eq (f : Frame) (s : State) : answerReport f s = queueFrame (answerFrame f s) s := by
  unfold answerFrame
  rw [apply_ite (queueFrame · s)]
  rfl

/-- REPORT frames do not merge either (R40), so room for an EVENT is room for the answer. -/
theorem accepts_answerFrame (f : Frame) {s : State} (h : Accepts .event s) : Accepts (answerFrame f s).kind s := by
  unfold answerFrame
  split <;> exact h

/-- A page above 3 is refused with reason 5: 1,305 is 256 × 5 and the code 25 of REPORT_ASK. -/
theorem answerFrame_refused {f : Frame} {s : State} (hk : f.kind = .reportAsk)
    (hp : 3 < payloadByte f.payload 0) : answerFrame f s = eventOf s 1 1305 f.origin := by
  unfold answerFrame
  rw [if_neg (Nat.not_le.2 hp), hk]
  rfl

/-- The REPORT of a page that exists carries the page byte and the page's counters in order. -/
theorem answerFrame_report {f : Frame} {s : State} {a b c d : CounterName} (hp : payloadByte f.payload 0 ≤ 3)
    (hc : counterPage (payloadByte f.payload 0) = [a, b, c, d]) :
    answerFrame f s =
      ⟨.report, s.station.number, 0,
        byteOf (payloadByte f.payload 0) :: (be16 (counterOf s.counters a) ++ be16 (counterOf s.counters b)
          ++ be16 (counterOf s.counters c) ++ be16 (counterOf s.counters d))⟩ := by
  unfold answerFrame
  rw [if_pos hp, reportFrame, hc]
  rfl

/-- An admitted REPORT_ASK answers the settled effect, once its origin's refreshed entry is handed on. -/
theorem exec_reportAsk_admitted {f : Frame} {rest : List Frame} {s : State} (ho : Oldest .reportAsk f rest s)
    (ha : Admitted f s) :
    Next .reportAsk s (settle (answerReport f (handDownstream s.downstreamEntry (taken f rest s)))) :=
  takeCommand_admitted rfl ho ha

/-- Settles O22: the state before the answer is the one that the refreshed entry leaves, and the answer is one frame,
which a link controller with room for an EVENT takes. -/
theorem reportAnswers : Obligations.ReportAnswers := by
  intro f rest s ho ha
  have answer := exec_reportAsk_admitted ho ha
  rw [answerReport_eq] at answer
  refine ⟨_, _, handDownstream_taken_blocks f rest s, handDownstream_taken, answer,
    blocksResponded_trans (framesQueued_blocks (queueFrame_framesQueued _ _)) (settle_blocks _), fun room => ?_⟩
  have takes := accepts_answerFrame f room
  refine ⟨settle_queueFrame_counters takes, fun above => ?_, fun a b c d page => ?_⟩
  · rw [settle_queueFrame_txq takes, answerFrame_refused ho.2.1 above]
  · have onPage : payloadByte f.payload 0 ≤ 3
        ∧ counterPage (payloadByte f.payload 0) = [a, b, c, d] := by
      obtain ⟨hp, hc⟩ | ⟨hp, hc⟩ | ⟨hp, hc⟩ | ⟨hp, hc⟩ := page <;> rw [hp, hc] <;> exact ⟨by decide, rfl⟩
    obtain ⟨low, counters⟩ := onPage
    rw [settle_queueFrame_txq takes, answerFrame_report low counters]

end Sys2Proof.Report

/-! PROOFS. The step and the invariants at reset. -/

namespace Sys2Proof.Start

open Sys2Proof Sys2Proof.Machine Sys2Proof.Safety Sys2Proof.Laws

/-- Settles O1: the step's two cases, and the states in which the interval timer runs (R146). -/
theorem stepRunsFrontCommand : Obligations.StepRunsFrontCommand := by
  refine ⟨fun c rest s h => ?_, fun s h => ?_⟩
  · unfold step; rw [h]
  · have runs : intervalRuns s = true ↔ s.hasRole .freeze = true ∧ (s.mode = .running ∨ s.mode = .draining) := by
      simp [intervalRuns]
    unfold step
    simp only [h, tick, runs, State.defrostPeriod]

/-! ### The invariants right after reset -/

theorem reset_capacities : Capacities State.reset where
  transmitQueue := by decide
  transmitOrder := List.Pairwise.nil
  ownFrames := nofun
  receiveBuffer := by decide
  zoneQueue := by decide
  arrivalsList := by decide
  doorList := by decide
  openCarrier := nofun
  joiningNoProfile _ := rfl
  noCarrierBefore _ := rfl
  offRun := by decide
  reverseDebt := by decide
  tagSequence := by decide
  counters c := by cases c <;> decide
  zoneOrder := List.Pairwise.nil
  debt := by decide
  pendingOrder := List.Pairwise.nil
  driveHistory := by decide
  doorHistory := by decide
  driveDeferral := nofun
  doorDeferral := nofun
  noDeferralBefore _ := ⟨rfl, rfl⟩
  idleLine := nofun

/-- At reset every channel is STOPPED, and its pin inactive. -/
theorem reset_channel (ch : Nat) (h : ch < 6) : State.reset.channels.chans[ch] = stoppedChannel :=
  Vector.getElem_replicate _

theorem reset_safeOutputs : SafeOutputs State.reset where
  joiningNoProfile _ := rfl
  governedStopped := nofun
  governedInactive := nofun
  faultedDrive := nofun
  noProfileDrive _ := rfl
  noProfileOutputs _ ch h := congrArg Channel.out (reset_channel ch h)

theorem reset_outputsFollow : OutputsFollow State.reset := by
  intro ch h
  rw [reset_channel ch h]
  exact ⟨fun _ => rfl, nofun⟩

theorem reset_beltMode : ¬ BeltMode State.reset := by rintro (h | h | h) <;> cases h

theorem reset_driveFollows : DriveFollows State.reset where
  unaccepted _ := ⟨rfl, rfl⟩
  elsewhere _ := ⟨rfl, rfl⟩
  unstoppable _ h := absurd h reset_beltMode
  walking _ := nofun
  stopped _ := nofun
  asks _ _ := nofun

theorem reset_reasonsFollow : ReasonsFollow State.reset where
  joiningNoProfile _ := rfl
  idle _ := ⟨fun _ => reset_beltMode, fun _ => rfl⟩
  fault _ := ⟨nofun, nofun⟩
  defrost _ := ⟨nofun, nofun⟩
  door _ := ⟨nofun, nofun⟩
  levelSet _ := nofun
  levelClear _ := nofun
  unaccepted _ _ := ⟨rfl, rfl, rfl, rfl, rfl, rfl⟩

/-- Settles O4: each invariant, field by field, in the state of reset. -/
theorem invariantsAtReset : Obligations.InvariantsAtReset :=
  ⟨reset_capacities, List.nodup_nil, reset_safeOutputs, reset_outputsFollow, reset_driveFollows,
    reset_reasonsFollow, fun _ _ => .inl rfl⟩

end Sys2Proof.Start

/-! PROOFS. The drive and the stop cause NO_TAKE (R129): a renewed offer is written by its tag, so where two records
share a tag it can bring the stop cause about, and no block evaluates the drive for it. -/

namespace Sys2Proof.TwinTags

open Sys2Proof Sys2Proof.Machine Sys2Proof.Safety Sys2Proof.Laws Sys2Proof.Tests

/-- Station 9 in RUNNING with its drive on. Of its two records of tag 3/401 the first is LOCAL beyond the offer point,
and the second rests before it. A STATUS of the downstream with its holding flag clear waits. -/
def twins : State :=
  { resting 0#8 with
    tracking.zone :=
      [segment 401 7500 300 495 0,
        { segment 401 700 300 495 0 with handover := .offered .resting, attempts := 3 }]
    flow := { resetFlow with drive := true, reasons := ⟨false, false, false, false, false⟩ }
    pending := [.status] }

/-- The station once the STATUS is handled: both records are offered. -/
def twinsOffered : State := after .status { twins with pending := [] }

theorem step_twins : step twins = .next twinsOffered := step_after rfl (by decide +kernel)

theorem not_stopCause_twins : ¬ StopCause twins := noStopCause (by decide +kernel)

theorem stopCause_twinsOffered : StopCause twinsOffered := (stopCause_iff _).1 (by decide +kernel)

theorem driveFollows_twins : DriveFollows twins where
  unaccepted := nofun
  elsewhere h := absurd (.inr (.inl rfl)) h
  unstoppable h := absurd h (by decide +kernel)
  walking _ := nofun
  stopped _ _ h := absurd h not_stopCause_twins
  asks _ _ _ _ := ⟨fun _ => rfl, fun _ => rfl⟩

/-- Refutes O3: its second part fails at `twins`, where the STATUS renews both records of the one tag, the first of
them beyond the offer point, and the drive stays on with the stop cause NO_TAKE. -/
theorem not_safeOutputsKept : ¬ Obligations.SafeOutputsKept := by
  intro h
  have kept : DriveFollows twinsOffered := h.2 twins twinsOffered driveFollows_twins step_twins
  have off := (kept.stopped (by decide +kernel) (by decide +kernel) stopCause_twinsOffered).1
  exact absurd off (by decide +kernel)

end Sys2Proof.TwinTags

/-! PROOFS. What a command can do, said once: the single changes of which the meanings are made, each with what it
leaves to be done before the command ends. Every invariant that steps keep is proved of the single changes. -/

namespace Sys2Proof.Changes

open Sys2Proof Sys2Proof.Machine Sys2Proof.Safety Sys2Proof.Laws

/-- What a command in progress still owes the blocks, and what it has done that a claim about its end asks for. -/
structure Owed where
  /-- the reasons other than LEVEL are to be evaluated (R126) -/
  reasons : Bool := false
  /-- LEVEL is to be evaluated (R127) -/
  level : Bool := false
  /-- a STATUS is to be queued (R52) -/
  status : Bool := false
  /-- a HOLD is to be queued (R128) -/
  hold : Bool := false
  /-- the door's request test is to be made (R182) -/
  door : Bool := false
  /-- a profile is frozen, and its station state is still to be entered (R22) -/
  accepting : Bool := false
  /-- an OFFER was answered by a HOLD (R97) -/
  answered : Bool := false
  /-- the line condition was written (R24) -/
  line : Bool := false
  /-- the debt was lowered (R152) -/
  lowered : Bool := false
  /-- tags in hand: issued, or taken out of a list, and not yet in another (R72) -/
  tags : List Tag := []
  /-- at most so many tags were issued (R72) -/
  issued : Nat := 0

/-- Nothing is owed. -/
def Owed.none : Owed := {}

/-- `e` owes all that `d` owes. -/
structure Owed.Le (d e : Owed) : Prop where
  reasons : d.reasons = true → e.reasons = true := by simp
  level : d.level = true → e.level = true := by simp
  status : d.status = true → e.status = true := by simp
  hold : d.hold = true → e.hold = true := by simp
  door : d.door = true → e.door = true := by simp
  accepting : d.accepting = true → e.accepting = true := by simp
  answered : d.answered = true → e.answered = true := by simp
  line : d.line = true → e.line = true := by simp
  lowered : d.lowered = true → e.lowered = true := by simp
  tags : d.tags = e.tags := by rfl
  issued : d.issued ≤ e.issued := by simp

/-- The heads of a zone queue are in order (R71). -/
def Ordered (z : List UnitRecord) : Prop := z.Pairwise (fun a b => b.head ≤ a.head)

/-- The station has left JOINING, or holds a profile. -/
def Active (s : State) : Prop := s.hasProfile = true ∨ s.mode ≠ .joining

/-- The door cycle has nothing to ask for (R182). -/
def DoorRests (s : State) : Prop :=
  (s.hasRole .transfer && decide (s.packing.door = .idle) && !s.packing.doorList.isEmpty && doorState s.mode) = false

/-- The tags that the station holds, and those that the frames which wait in its receive buffer name. -/
def namedTags (s : State) : List Tag := heldTags s ++ s.link.rxq.map (fun f => (imageOf f.payload).tag)

/-- The transmit queue `q` becomes `r` with no frame added: entries leave, or go back to waiting. Where none is in
transmission, entries only leave. -/
structure Leaves (q r : List TxEntry) : Prop where
  length : r.length ≤ q.length
  order : q.Pairwise (fun a b => arbitration a.frame ≤ arbitration b.frame) →
    r.Pairwise (fun a b => arbitration a.frame ≤ arbitration b.frame)
  frames : ∀ e ∈ r, ∃ x ∈ q, x.frame = e.frame
  waiting : (∀ e ∈ q, e.sending = false) → ∀ e ∈ r, e ∈ q
  sending : r.countP (·.sending) ≤ q.countP (·.sending)

/-- What a station's capacities say of its packing unit and profile before the command (section 0.1, R180, R181). -/
structure Packs (s : State) : Prop where
  doorList : s.packing.doorList.length ≤ 4
  openCarrier : ∀ c, s.packing.openCarrier = some c → 1 ≤ c.count ∧ c.count < s.carrierSize
  noCarrierBefore : s.hasProfile = false → s.packing.openCarrier = none
  joiningNoProfile : s.mode = .joining → s.station.frozen = none

/-- One change that a command which began in `s0` makes to the state, and what it comes to owe by it. -/
inductive Act (s0 : State) : Owed → State → Owed → State → Prop
  | owe {d e : Owed} {s : State} (h : d.Le e) : Act s0 d s e s
  | pins {d : Owed} {s : State} (faultIn encoder now draws pending) :
      Act s0 d s d { s with
        faultIn := faultIn, encoder := encoder, now := now, orderDraws := draws, pending := pending }
  | counter {d : Owed} {s : State} (c : CounterName) (h : c ≠ .txDrop) : Act s0 d s d (count c s)
  -- the link
  | frame {d : Owed} {s : State} (f : Frame) (origin : f.origin = s.station.number) (hold : f.kind ≠ .hold) (status : f.kind ≠ .status) :
      Act s0 d s d (queueFrame f s)
  | statusFrame {d : Owed} {s : State} : Act s0 d s { d with status := false } (queueStatus s)
  | holdFrame {d : Owed} {s : State} : Act s0 d s { d with hold := false } (queueHold s)
  | holdAnswer {d : Owed} {s : State} : Act s0 d s { d with answered := true } (queueFrame (holdAnswer s) s)
  | loss {d : Owed} {s : State} (n : Nat) (e : TxEntry) : Act s0 d s d (settleLoss n e s)
  | rxq {d : Owed} {s : State} (l : List Frame) (h : l.length ≤ s.link.rxq.length ∨ l.length ≤ 4) (ack : Bool) :
      Act s0 d s d { s with link.rxq := l, link.ackDrive := ack }
  | txq {d : Owed} {s : State} (q : List TxEntry) (h : Leaves s.link.txq q)
      (keeps : (∀ e ∈ s.link.txq, e.sending = false → e ∈ q) ∨ s.flow.reasons = s0.flow.reasons) :
      Act s0 d s d { s with link.txq := q }
  | silence {d : Owed} {s : State} (k : Kind) (awake : s.mode ≠ .quiet) :
      Act s0 d s { d with line := true } (detectDuplicate k s)
  | busy {d : Owed} {s : State} : Act s0 d s { d with line := true } { s with link.line := .busy }
  | idle {d : Owed} {s : State} (awake : s.mode ≠ .quiet) (h : ∀ e ∈ s.link.txq, e.sending = false)
      (first : ∀ e ∈ s0.link.txq, e.sending = false) :
      Act s0 d s { d with line := true } { s with link.line := .idle }
  -- the flow unit and the peer view
  | reasonsStand {d : Owed} {s : State} (h : s.reasonsInForce s.flow.reasons.level = s.flow.reasons) :
      Act s0 d s { d with reasons := false } s
  | reasons {d : Owed} {s : State} :
      Act s0 d s { d with reasons := false, status := true, hold := true }
        { s with flow.reasons := s.reasonsInForce s.flow.reasons.level }
  | levelStands {d : Owed} {s : State} (active : Active s) (h : s.reasonsInForce (levelAfter s) = s.flow.reasons) :
      Act s0 d s { d with reasons := false, level := false } s
  | level {d : Owed} {s : State} (active : Active s) :
      Act s0 d s { d with reasons := false, level := false, status := true, hold := true }
        { s with flow.reasons := s.reasonsInForce (levelAfter s) }
  | flow {d : Owed} {s : State} (f : FlowUnit) (reasons : f.reasons = s.flow.reasons)
      (drive : f.driveLimiter.history = s.flow.driveLimiter.history
        ∧ f.driveLimiter.deferred = s.flow.driveLimiter.deferred)
      (door : f.doorLimiter.history = s.flow.doorLimiter.history
        ∧ f.doorLimiter.deferred = s.flow.doorLimiter.deferred) :
      Act s0 d s d { s with flow := f }
  | grant {d : Owed} {s : State} (i : LimiterId) (l : Limiter) (free : (limiterOf s i).deferred = none)
      (h : limiterAnswer (limiterWindow s i) (limiterStop s i) s.now (limiterOf s i) = .granted l) :
      Act s0 d s d (setLimiter i l s)
  | defer {d : Owed} {s : State} (i : LimiterId) (l : Limiter) (failing length : Nat) (profile : s.hasProfile = true)
      (h : limiterAnswer (limiterWindow s i) (limiterStop s i) s.now (limiterOf s i) = .deferred l failing length) :
      Act s0 d s d (setLimiter i l s)
  | withdraw {d : Owed} {s : State} (i : LimiterId) : Act s0 d s d (withdrawStart i s)
  | expire {d : Owed} {s : State} (i : LimiterId) (t : Nat) (h : (limiterOf s i).deferred = some t) :
      Act s0 d s d (setLimiter i (limiterExpire (limiterWindow s i) t (limiterOf s i)) s)
  | peer {d : Owed} {s : State} (p : PeerView) (h : p.neighbours.upstream = s.upstream) : Act s0 d s d { s with peer := p }
  | upstream {d : Owed} {s : State} (p : PeerView) : Act s0 d s { d with hold := true } { s with peer := p }
  | dose {d : Owed} {s : State} (x : DoseUnit) : Act s0 d s d { s with dose := x }
  | channels {d : Owed} {s : State} (c : Channels) : Act s0 d s d { s with channels := c }
  -- tracking and handover
  | zone {d : Owed} {s : State} (z : List UnitRecord) (tags : z.map (·.tag) = s.tracking.zone.map (·.tag))
      (order : Ordered s.tracking.zone → Ordered z) : Act s0 d s d { s with tracking.zone := z }
  | zoneLess {d : Owed} {s : State} (z : List UnitRecord) (h : z.Sublist s.tracking.zone) :
      Act s0 d s { d with level := true } { s with tracking.zone := z }
  | zoneMore {d : Owed} {s : State} (r : UnitRecord) (room : s.tracking.zone.length < 24) (active : Active s) :
      Act s0 { d with tags := r.tag :: d.tags } s { d with level := true } (insertRecord r s)
  | zoneSwap {d : Owed} {s : State} (r : UnitRecord) (h : s.tracking.zone ≠ []) (active : Active s) :
      Act s0 { d with tags := r.tag :: d.tags } s { d with level := true }
        (insertRecord r { s with tracking.zone := s.tracking.zone.dropLast })
  | tagGone {d : Owed} {s : State} (t : Tag) : Act s0 { d with tags := t :: d.tags } s d s
  | belt {d : Owed} {s : State} (offRun debt lot : Nat) (run : offRun ≤ 65535 ∨ offRun = s.tracking.offRun)
      (paid : debt ≤ 65535 ∨ debt ≤ s.tracking.reverseDebt) :
      Act s0 d s d { s with
        tracking.offRun := offRun, tracking.reverseDebt := debt, tracking.currentLot := lot }
  | issue {d : Owed} {s : State} (h : d.tags = []) :
      Act s0 d s { d with tags := [(issueTag s).1], issued := d.issued + 1 } (issueTag s).2
  | mergeGrows {d : Owed} {s : State} (m : MergeBound) (n : Nat) (h : s.tracking.mergeBound = some m) :
      Act s0 d s d { s with tracking.mergeBound := some { m with length := n } }
  | mergeEnds {d : Owed} {s : State} (m : MergeBound) (h : s.tracking.mergeBound = some m) :
      Act s0 d s { d with tags := m.tag :: d.tags } { s with tracking.mergeBound := none }
  | mergeStarts {d : Owed} {s : State} (m : MergeBound) (k : Nat) (h : s.tracking.mergeBound = none)
      (tag : m.tag = mkTag s.station.number k) (last : s.tracking.tagSeq = (k + 1) % 2048) :
      Act s0 { d with tags := m.tag :: d.tags } s d { s with tracking.mergeBound := some m }
  | arrivals {d : Owed} {s : State} (l : List Arrival) (tags : l.map (·.image.tag) = s.arrivals.map (·.image.tag)) :
      Act s0 d s d { s with arrivals := l }
  | arrivalsLess {d : Owed} {s : State} (l : List Arrival) (h : l.Sublist s.arrivals) :
      Act s0 d s { d with level := true } { s with arrivals := l }
  | arrivalTaken {d : Owed} {s : State} (t : Tag) (known : t ∈ namedTags s0) (zone : s.zoneHolds t = false)
      (merge : s.tracking.mergeBound = none) (h : d.tags = []) : Act s0 d s { d with level := true, tags := [t] } (dropArrival t s)
  | arrivalMore {d : Owed} {s : State} (a : Arrival) (f : Frame) (room : s.arrivals.length < 4) (active : Active s)
      (merge : s.tracking.mergeBound = s0.tracking.mergeBound) (heard : f ∈ s0.link.rxq) (image : a.image.tag = (imageOf f.payload).tag) (zone : s.zoneHolds a.image.tag = false)
      (held : s.arrivalsHold a.image.tag = false) (h : d.tags = []) :
      Act s0 d s { d with level := true } { s with arrivals := s.arrivals ++ [a] }
  -- packing
  | bags {d : Owed} {s : State} (b : Option Bag) (n : Nat) : Act s0 d s d { s with packing.openBag := b, packing.nextBag := n }
  | carriers {d : Owed} {s : State} (c : Option Carrier) (n : Nat)
      (ok : c = s.packing.openCarrier ∨ c = none
        ∨ s.hasProfile = true ∧ ∀ x, c = some x → 1 ≤ x.count ∧ x.count < s.carrierSize) :
      Act s0 d s d { s with packing.openCarrier := c, packing.nextCarrier := n }
  | doorMore {d : Owed} {s : State} (e : DoorEntry) (active : Active s)
      (room : Packs s0 → s.packing.doorList.length < 4) :
      Act s0 d s { d with reasons := true, door := true }
        { s with packing.doorList := s.packing.doorList ++ [e] }
  | doorLess {d : Owed} {s : State} (l : List DoorEntry) (h : l.Sublist s.packing.doorList) :
      Act s0 d s { d with reasons := true } { s with packing.doorList := l }
  | doorIdle {d : Owed} {s : State} : Act s0 d s { d with door := true } { s with packing.door := .idle }
  | doorBusy {d : Owed} {s : State} (c : DoorCycle) (h : c ≠ .idle) :
      Act s0 d s { d with door := false } { s with packing.door := c }
  | doorRests {d : Owed} {s : State} (h : DoorRests s) : Act s0 d s { d with door := false } s
  -- defrost
  | cycle {d : Owed} {s : State} (c : Option DefrostCycle) (h : c = none ∨ Active s) :
      Act s0 d s { d with reasons := true } { s with defrost.cycle := c }
  | defrost {d : Owed} {s : State} (elapsed : Nat) (stay want : Bool) :
      Act s0 d s d { s with
        defrost.intervalElapsed := elapsed, defrost.overdueStay := stay, defrost.want := want }
  | debtUp {d : Owed} {s : State} (h : s.defrost.debt < 8) : Act s0 d s d { s with defrost.debt := s.defrost.debt + 1 }
  | debtDown {d : Owed} {s : State} (h : d.lowered = false) :
      Act s0 d s { d with lowered := true } { s with defrost.debt := s.defrost.debt - 1 }
  -- station control
  | latch {d : Owed} {s : State} (b : Bool) : Act s0 d s d { s with station.faultLatch := b }
  | items {d : Owed} {s : State} (p : Profile)
      (order : s.station.pendingProfile.Pairwise (fun a b => a.1 < b.1) → p.Pairwise (fun a b => a.1 < b.1)) :
      Act s0 d s d { s with station.pendingProfile := p }
  | freeze {d : Owed} {s : State} (n : Nat) (mode : s.mode = .joining) (passes : profileFailure s.station.pendingProfile n = none)
      (first : s.flow.reasons = s0.flow.reasons) (fresh : d.accepting = false) :
      Act s0 d s { d with reasons := true, hold := true, door := true, accepting := true } (freezeProfile s)
  | mode {d : Owed} {s : State} (m : StationState) (active : Active s) (awake : s.mode ≠ .quiet) (joining : m ≠ .joining)
      (quiet : m ≠ .quiet) :
      Act s0 d s { d with reasons := true, status := true, door := true, accepting := false } { s with mode := m }
  | quiet {d : Owed} {s : State} (sends : ∃ e ∈ s0.link.txq, e.sending = true) (h : s.mode ≠ .joining ∨ d.accepting = false) :
      Act s0 d s { d with accepting := false } { s with mode := .quiet, link.silencing := false }

/-- The changes of a command that began in `s0`, one after another. -/
inductive Acts (s0 : State) (d : Owed) (s : State) : Owed → State → Prop
  | refl : Acts s0 d s d s
  | tail {e f : Owed} {t u : State} (h : Acts s0 d s e t) (a : Act s0 e t f u) : Acts s0 d s f u

namespace Acts

variable {s0 : State}

theorem trans {d e f : Owed} {s t u : State} (h : Acts s0 d s e t) (h' : Acts s0 e t f u) : Acts s0 d s f u := by
  induction h' with
  | refl => exact h
  | tail _ a ih => exact ih.tail a

theorem single {d e : Owed} {s t : State} (a : Act s0 d s e t) : Acts s0 d s e t := .tail .refl a

theorem owe {d e f : Owed} {s t : State} (h : Acts s0 d s e t) (l : e.Le f) : Acts s0 d s f t := h.tail (.owe l)

/-- What one change keeps, all of them keep. -/
theorem keeps {P : Owed → State → Prop} {d e : Owed} {s t : State} (h : Acts s0 d s e t)
    (step : ∀ {d e s t}, Act s0 d s e t → P d s → P e t) (start : P d s) : P e t := by
  induction h with
  | refl => exact start
  | tail _ a ih => exact step a ih

end Acts

end Sys2Proof.Changes

/-! PROOFS. The meanings as changes: each shared operation, from the queueing of a frame to the entry of a state. -/

namespace Sys2Proof.Changes

open Sys2Proof Sys2Proof.Machine Sys2Proof.Safety Sys2Proof.Laws

variable {s0 : State} {d : Owed}

/-! ### Frames -/

theorem own_acts {f : Frame} {s : State} (h : f.origin = s.station.number) (hh : f.kind ≠ .hold)
    (hs : f.kind ≠ .status) : Acts s0 d s d (queueFrame f s) := .single (.frame f h hh hs)

theorem queueEvent_acts (n : EventName) (datum tag : Nat) (s : State) :
    Acts s0 d s d (queueEvent n datum tag s) := own_acts rfl nofun nofun

theorem queueStatus_acts (s : State) : Acts s0 d s d (queueStatus s) :=
  (Acts.single .statusFrame).owe {}

theorem queueHold_acts (s : State) : Acts s0 d s d (queueHold s) := (Acts.single .holdFrame).owe {}

/-! ### Reasons, limiters and the drive -/

/-- A role is one of a profile. -/
theorem hasProfile_of_hasRole {s : State} {r : Role} (h : s.hasRole r = true) : s.hasProfile = true := by
  unfold State.hasRole State.role State.items at h
  unfold State.hasProfile
  cases hf : s.station.frozen with
  | none => simp [hf, profileRole, profileFind] at h
  | some p => rfl

theorem active_of_hasRole {s : State} {r : Role} (h : s.hasRole r = true) : Active s := .inl (hasProfile_of_hasRole h)

theorem refreshReasons_acts (s : State) : Acts s0 d s { d with reasons := false } (refreshReasons s) := by
  unfold refreshReasons setReasons
  dsimp only
  split
  · next h => exact .single (.reasonsStand h)
  · exact ((Acts.single .reasons).tail .statusFrame |>.tail .holdFrame).owe {}

theorem evaluateLevel_acts {s : State} (h : Active s) :
    Acts s0 d s { d with reasons := false, level := false } (evaluateLevel s) := by
  unfold evaluateLevel setReasons
  dsimp only
  split
  · next he => exact .single (.levelStands h he)
  · exact ((Acts.single (.level h)).tail .statusFrame |>.tail .holdFrame).owe {}

theorem requestStart_acts (i : LimiterId) {s : State} (h : s.hasProfile = true) :
    Acts s0 d s d (requestStart i s).1 := by
  unfold requestStart
  split
  · exact .refl
  · next free =>
    split
    · next l hl => exact .single (.grant i l (by simpa using free) hl)
    · next l failing length hl =>
      exact ((Acts.single (.defer i l failing length h hl)).tail (.counter .startDeferred nofun)).trans
        (queueEvent_acts _ _ _ _)

theorem flow_acts {s : State} {f : FlowUnit} (reasons : f.reasons = s.flow.reasons)
    (drive : f.driveLimiter.history = s.flow.driveLimiter.history
      ∧ f.driveLimiter.deferred = s.flow.driveLimiter.deferred)
    (door : f.doorLimiter = s.flow.doorLimiter) : Acts s0 d s d { s with flow := f } :=
  .single (.flow f reasons drive (by rw [door]; exact ⟨rfl, rfl⟩))

theorem driveOn_acts (s : State) : Acts s0 d s d (driveOn s) := flow_acts rfl ⟨rfl, rfl⟩ rfl

theorem driveOff_acts (s : State) : Acts s0 d s d (driveOff s) := by
  unfold driveOff
  split
  · exact flow_acts rfl ⟨rfl, rfl⟩ rfl
  · exact .refl

theorem driveStops_acts (s : State) : Acts s0 d s d (driveOff (withdrawStart .drive s)) :=
  (Acts.single (.withdraw .drive)).trans (driveOff_acts _)

theorem evaluateDrive_acts (s : State) : Acts s0 d s d (evaluateDrive s) := by
  unfold evaluateDrive
  split
  · exact .refl
  next profile =>
  split
  · split
    · exact driveOn_acts s
    · exact driveOff_acts s
  split
  · exact driveOn_acts s
  split
  · split
    · exact driveStops_acts s
    split
    · exact .refl
    have request : Acts s0 d s d (requestStart .drive s).1 := requestStart_acts .drive (by simpa using profile)
    split
    · next s1 h => rw [h] at request; exact request.trans (driveOn_acts s1)
    · next s1 h => rw [h] at request; exact request
  · exact driveStops_acts s

/-! ### Chain flags, offers and the neighbour record -/

theorem startGapRun_acts (s : State) : Acts s0 d s d (startGapRun s) := by
  unfold startGapRun
  split
  · exact flow_acts rfl ⟨rfl, rfl⟩ rfl
  · exact .refl

theorem evaluateChain_acts (s : State) : Acts s0 d s d (evaluateChain s) := by
  unfold evaluateChain
  split
  · exact .refl
  dsimp only
  split
  · exact .refl
  have flags : Acts s0 d s d { s with peer.chainLoad := chainLoadNow s, peer.chainDefrost := chainDefrostNow s } :=
    .single (.peer _ rfl)
  refine (flags.trans ?_).trans (queueStatus_acts _)
  split
  · exact startGapRun_acts _
  · exact .refl

/-- A rewriting of records that keeps tags and heads. -/
theorem mapZone_acts (f : UnitRecord → UnitRecord) (tag : ∀ r, (f r).tag = r.tag) (head : ∀ r, (f r).head = r.head)
    (s : State) : Acts s0 d s d { s with tracking.zone := s.tracking.zone.map f } := by
  refine .single (.zone _ ?_ fun h => ?_)
  · rw [List.map_map]; exact List.map_congr_left fun r _ => tag r
  · exact List.pairwise_map.2 (h.imp fun {a b} hab => by rw [head, head]; exact hab)

theorem updateRecord_acts (t : Tag) (f : UnitRecord → UnitRecord) (tag : ∀ r, (f r).tag = r.tag)
    (head : ∀ r, (f r).head = r.head) (s : State) : Acts s0 d s d (updateRecord t f s) :=
  mapZone_acts _ (fun r => by split <;> simp [tag]) (fun r => by split <;> simp [head]) s

theorem setHandover_acts (t : Tag) (h : HandoverState) (n : Nat) (s : State) :
    Acts s0 d s d (setHandover t h n s) := updateRecord_acts t (fun r => { r with handover := h, attempts := n }) (fun _ => rfl) (fun _ => rfl) s

theorem foldl_acts {α : Type} (g : State → α → State) (hg : ∀ s a, Acts s0 d s d (g s a)) (l : List α) (s : State) :
    Acts s0 d s d (l.foldl g s) := by
  induction l generalizing s with
  | nil => exact .refl
  | cons a l ih => exact (hg s a).trans (ih (g s a))

theorem offer_acts (r : UnitRecord) (s : State) : Acts s0 d s d (queueFrame (offerFrame r s) s) :=
  own_acts rfl nofun nofun

theorem revive_acts (s : State) : Acts s0 d s d (revive s) := by
  unfold revive
  split
  · exact .refl
  · refine foldl_acts _ (fun s t => ?_) _ s
    dsimp only
    split
    · exact .refl
    · exact (setHandover_acts _ _ _ s).trans (offer_acts _ _)

theorem handDownstream_acts (b : Option PeerEntry) (s : State) : Acts s0 d s d (handDownstream b s) := by
  unfold handDownstream
  split
  · next b a _ =>
    have drive : Acts s0 d s d (if b.holding = a.holding ∧ b.stale = a.stale then s else evaluateDrive s) := by
      split
      · exact .refl
      · exact evaluateDrive_acts s
    dsimp only
    split
    · exact drive.trans (revive_acts _)
    · exact drive
  · exact .refl
  · exact evaluateDrive_acts s
  · exact evaluateDrive_acts s

/-- The part of a new neighbour record that does not hang on the upstream. -/
theorem downstreamChange_acts (n : Neighbours) (b : Option PeerEntry) (p q : Prop) [Decidable p] [Decidable q]
    (s : State) :
    Acts s0 d { s with peer.neighbours := n }
      d (if q then (if p then { s with peer.neighbours := n } else queueStatus { s with peer.neighbours := n })
        else handDownstream b (evaluateChain
          (if p then { s with peer.neighbours := n } else queueStatus { s with peer.neighbours := n }))) := by
  have status : Acts s0 d { s with peer.neighbours := n } d
      (if p then { s with peer.neighbours := n } else queueStatus { s with peer.neighbours := n }) := by
    split
    · exact .refl
    · exact queueStatus_acts _
  split
  · exact status
  · exact status.trans ((evaluateChain_acts _).trans (handDownstream_acts _ _))

theorem setNeighbours_acts (n : Neighbours) (s : State) : Acts s0 d s d (setNeighbours n s) := by
  unfold setNeighbours
  dsimp only
  by_cases h : n.upstream = s.peer.neighbours.upstream
  · rw [if_pos h]
    exact (Acts.single (.peer _ h)).trans (downstreamChange_acts n _ _ _ s)
  · rw [if_neg h]
    refine Acts.owe (((Acts.single (.upstream _)).trans (downstreamChange_acts n _ _ _ s)).tail .holdFrame) {}

/-! ### Channels and cycles -/

theorem mapChannels_acts (f : Nat → Channel → Channel) (s : State) : Acts s0 d s d (s.mapChannels f) :=
  .single (.channels _)

theorem startBases_acts (s : State) : Acts s0 d s d (startBases s) := .single (.channels _)

theorem giveEvent_acts (e : EventSource) (s : State) : Acts s0 d s d (giveEvent e s) := mapChannels_acts _ s

theorem freshPosture_acts (s : State) : Acts s0 d s d (freshPosture s) := by
  unfold freshPosture
  split
  · exact (startBases_acts s).trans (mapChannels_acts _ _)
  · exact Acts.trans (.single (.channels _)) (mapChannels_acts _ _)

theorem changePosture_acts (old : StationState) (s : State) : Acts s0 d s d (changePosture old s) := by
  unfold changePosture
  split
  · split
    · exact mapChannels_acts _ s
    split
    · exact (startBases_acts s).trans (mapChannels_acts _ _)
    · exact .refl
  split
  · exact freshPosture_acts s
  · exact .refl

/-- The start test starts a cycle, at a FREEZE station, or does nothing. -/
theorem startDueCycle_cases (s : State) :
    startDueCycle s = s
      ∨ s.hasRole .freeze = true ∧ s.defrost.cycle = none ∧ ∃ k, startDueCycle s = startCycle k s := by
  unfold startDueCycle
  split
  · next h =>
    simp only [Bool.and_eq_true, Option.isNone_iff_eq_none] at h
    split
    · exact .inr ⟨h.1.1, h.2, _, rfl⟩
    · exact .inl rfl
  · exact .inl rfl

theorem startDueCycle_acts (s : State) : Acts s0 d s { d with reasons := true } (startDueCycle s) := by
  rcases startDueCycle_cases s with h | ⟨hr, _, k, h⟩ <;> rw [h]
  · exact Acts.refl.owe {}
  · exact (Acts.single (.cycle _ (.inr (active_of_hasRole hr)))).trans (giveEvent_acts _ _)

theorem defrostTest_acts (s : State) : Acts s0 d s d (defrostTest s) := by
  unfold defrostTest
  dsimp only
  rcases startDueCycle_cases s with h | ⟨hr, hn, k, h⟩
  · rw [h, if_pos rfl]; exact .refl
  · rw [if_neg (by rw [h]; unfold State.defrostActive; rw [hn]; nofun)]
    exact (((startDueCycle_acts s).trans (refreshReasons_acts _)).trans (queueStatus_acts _)).owe {}

theorem abortDefrost_acts (s : State) : Acts s0 d s { d with reasons := true } (abortDefrost s) := by
  unfold abortDefrost
  split
  · exact (Acts.single (.cycle none (.inl rfl))).tail (.counter _ nofun)
  · exact Acts.refl.owe {}

theorem withdrawDoor_acts (s : State) : Acts s0 d s { d with door := true } (withdrawDoor s) := by
  unfold withdrawDoor
  split
  · exact (Acts.single .doorIdle).tail (.withdraw .door)
  · exact Acts.refl.owe {}

theorem abortDoor_acts (s : State) : Acts s0 d s { d with door := true } (abortDoor s) :=
  (withdrawDoor_acts s).tail .doorIdle

theorem openDoor_acts (t : Nat) (s : State) : Acts s0 d s { d with door := false } (openDoor t s) :=
  (Acts.single (.doorBusy (.opened (t + s.doorTime)) nofun)).trans (giveEvent_acts _ _)

theorem doorTest_acts (s : State) : Acts s0 d s { d with door := false } (doorTest s) := by
  unfold doorTest
  split
  · next h =>
    have profile : s.hasProfile = true := by
      simp only [Bool.and_eq_true] at h
      exact hasProfile_of_hasRole h.1.1.1
    have request : Acts s0 d s d (requestStart .door s).1 := requestStart_acts .door profile
    split
    · next s1 hr => rw [hr] at request; exact request.trans (openDoor_acts _ s1)
    · next s1 hr => rw [hr] at request; exact request.tail (.doorBusy _ nofun)
  · next h => exact .single (.doorRests (Bool.eq_false_iff.2 h))

/-! ### A change of the zone queue, handed on -/

theorem reportCounts_acts (c : Nat × Nat) (s : State) : Acts s0 d s d (reportCounts c s) := by
  unfold reportCounts
  split
  · exact .refl
  · exact queueStatus_acts s

theorem testEmptied_acts (s : State) : Acts s0 d s d (testEmptied s) := by
  unfold testEmptied
  split
  · exact defrostTest_acts s
  · exact .refl

theorem queueChanged_acts (c : Nat × Nat) {s : State} (h : Active s) :
    Acts s0 d s { d with reasons := false, level := false } (queueChanged c s) :=
  (evaluateLevel_acts h).trans ((evaluateDrive_acts _).trans ((reportCounts_acts c _).trans (testEmptied_acts _)))

theorem offerRecord_acts (s : State) (t : Tag) : Acts s0 d s d (offerRecord s t) := by
  unfold offerRecord
  split
  · exact .refl
  · exact (setHandover_acts _ _ _ s).trans (offer_acts _ _)

theorem passRecord_acts (s : State) (t : Tag) : Acts s0 d s d (passRecord s t) := by
  unfold passRecord
  split
  · exact .refl
  · next r _ =>
    have counted : Acts s0 d s d (if r.handover = .taken then setHandover t .passed r.attempts s
        else count .untakenPass (setHandover t .passed r.attempts s)) := by
      split
      · exact setHandover_acts _ _ _ s
      · exact (setHandover_acts _ _ _ s).tail (.counter _ nofun)
    exact counted.trans (own_acts rfl nofun nofun)

theorem examineZone_acts (s : State) : Acts s0 d s d (examineZone s) := by
  unfold examineZone
  split
  · exact (foldl_acts _ offerRecord_acts _ _).trans ((foldl_acts _ passRecord_acts _ _).trans (evaluateDrive_acts _))
  · exact evaluateDrive_acts s

/-! ### Records entering -/

theorem gainLoad_acts (m : Nat) (s : State) : Acts s0 d s d (gainLoad m s) := by
  unfold gainLoad
  split
  · exact flow_acts rfl ⟨rfl, rfl⟩ rfl
  · exact .refl

/-- A rewriting of the last record that keeps its tag and head. -/
theorem replaceLast_acts {s : State} {last r : UnitRecord} (h : s.tracking.zone.getLast? = some last)
    (tag : r.tag = last.tag) (head : r.head = last.head) :
    Acts s0 d s d { s with tracking.zone := replaceLast r s.tracking.zone } := by
  obtain ⟨z, hz⟩ := List.getLast?_eq_some_iff.1 h
  refine .single (.zone _ ?_ fun ho => ?_)
  · simp [hz, replaceLast, tag]
  · rw [hz] at ho ⊢
    simp only [Ordered, replaceLast, List.dropLast_concat, List.pairwise_append] at ho ⊢
    simpa [head] using ho

/-- A merge: the entering record's tag is gone. -/
theorem mergeInto_acts {s : State} {last r : UnitRecord} (last' : UnitRecord)
    (h : s.tracking.zone.getLast? = some last) (tag : last'.tag = last.tag) (head : last'.head = last.head) :
    Acts s0 { d with tags := r.tag :: d.tags } s d (mergeInto last' r s) := by
  unfold mergeInto
  exact (((replaceLast_acts (r := absorb last' r) h tag head).tail (.counter .merged nofun)).trans (queueEvent_acts _ _ _ _)).tail
    (.tagGone (d := d) _)

theorem active_gainLoad {s : State} (m : Nat) (h : Active s) : Active (gainLoad m s) := by
  unfold gainLoad; split <;> exact h

/-- A record whose tag is in hand enters the zone queue, or is absorbed by its last record. -/
theorem enterVia_acts {examine : State → State} (hx : ∀ d s, Acts s0 d s d (examine s)) (r : UnitRecord) {s : State}
    (h : Active s) :
    Acts s0 { d with tags := r.tag :: d.tags } s { d with level := true } (enterVia examine r s) := by
  unfold enterVia
  split
  · next room => exact (Acts.single (.zoneMore r room h)).trans (hx _ _)
  · next full =>
    split
    · next hl => rw [List.getLast?_eq_none_iff.1 hl] at full; exact absurd (by decide : 0 < 24) full
    · next last hl =>
      split
      · split
        · exact (Acts.single (.zoneSwap r (List.ne_nil_of_mem (List.mem_of_getLast? hl)) h)).trans (hx _ _)
        · refine Acts.owe (e := d) ((gainLoad_acts _ s).trans (mergeInto_acts (last := last) _ ?_ rfl rfl)) {}
          rw [gainLoad_tracking]; exact hl
      · exact Acts.owe (e := d) (mergeInto_acts _ hl rfl rfl) {}

theorem enterRecord_acts (d : Owed) (r : UnitRecord) {s : State} (h : Active s) :
    Acts s0 { d with tags := r.tag :: d.tags } s { d with level := true } (enterRecord r s) :=
  enterVia_acts (fun _ s => examineZone_acts s) r h

theorem enterInCount_acts (d : Owed) (r : UnitRecord) {s : State} (h : Active s) :
    Acts s0 { d with tags := r.tag :: d.tags } s { d with level := true } (enterInCount r s) :=
  enterVia_acts (fun _ _ => .refl) r h

end Sys2Proof.Changes

/-! PROOFS. The meanings as changes: closes, states and the parts of an accepted forward count. -/

namespace Sys2Proof.Changes

open Sys2Proof Sys2Proof.Machine Sys2Proof.Safety Sys2Proof.Laws

variable {s0 : State} {d : Owed}

/-! ### What every change keeps -/

theorem active_of_framesQueued {s t : State} (h : FramesQueued s t) (a : Active s) : Active t := by
  unfold Active at *
  rw [blocksResponded_hasProfile (framesQueued_blocks h), framesQueued_mode h]; exact a

/-- No change makes a station inactive. -/
theorem Act.active {e : Owed} {s t : State} (h : Act s0 d s e t) (a : Active s) : Active t := by
  cases h with
  | frame f _ _ _ => exact active_of_framesQueued (queueFrame_framesQueued f s) a
  | statusFrame => exact active_of_framesQueued (queueStatus_framesQueued s) a
  | holdFrame => exact active_of_framesQueued (queueHold_framesQueued s) a
  | holdAnswer => exact active_of_framesQueued (queueFrame_framesQueued _ s) a
  | loss n e => exact active_of_framesQueued (settleLoss_framesQueued n e s) a
  | grant i | defer i | withdraw i | expire i => cases i <;> exact a
  | freeze => exact .inl rfl
  | mode m _ _ joining _ => exact .inr joining
  | quiet => exact .inr nofun
  | _ => exact a

theorem Acts.active {e : Owed} {s t : State} (h : Acts s0 d s e t) (a : Active s) : Active t :=
  h.keeps (P := fun _ s => Active s) Act.active a

theorem counter_acts (c : CounterName) (h : c ≠ .txDrop) (s : State) : Acts s0 d s d (count c s) :=
  .single (.counter c h)

/-! ### Closes -/

/-- A close: nothing is owed for it beyond what was owed, since the change of the queue is handed on. -/
theorem closeForming_acts {enter : UnitRecord → State → State} {changed : Nat × Nat → State → State}
    (he : ∀ (d : Owed) r {s}, Active s →
      Acts s0 { d with tags := r.tag :: d.tags } s { d with level := true } (enter r s))
    (hc : ∀ (d : Owed) c {s}, Active s → Acts s0 d s { d with reasons := false, level := false } (changed c s))
    (f : Nat → Nat) {s : State} (h : Active s) : Acts s0 d s d (closeForming enter changed f s) := by
  unfold closeForming
  split
  · next m hm =>
    have ends := Acts.single (s0 := s0) (d := d) (.mergeEnds m hm)
    dsimp only
    split
    · exact ends.tail (.tagGone _)
    · have entered := (ends.trans (gainLoad_acts (massOf s (f m.length)) _)).trans
        (he d (mergeBoundRecord s m (f m.length)) (active_gainLoad _ h))
      exact (entered.trans (hc _ s.counts (entered.active h))).owe {}
  · split
    · exact .refl
    next last hl =>
    split
    · dsimp only
      split
      · have dropped := Acts.single (s0 := s0) (d := d) (.zoneLess _ (List.dropLast_sublist s.tracking.zone))
        exact (dropped.trans (hc _ s.counts h)).owe {}
      · exact (replaceLast_acts (r := closedRecord s (f last.head) last) hl rfl rfl).trans (gainLoad_acts _ _)
    · exact .refl

theorem closeInState_acts {s : State} (h : Active s) :
    Acts s0 d s d (closeForming enterRecord queueChanged id s) :=
  closeForming_acts enterRecord_acts (fun _ c _ => queueChanged_acts c) id h

/-! ### States -/

theorem discardWalk_acts (old : StationState) (s : State) : Acts s0 d s d (discardWalk old s) := by
  unfold discardWalk
  split
  · exact Acts.trans (.single (.peer { s.peer with walk := none } rfl)) (setNeighbours_acts _ _)
  · exact .refl

theorem stateAborts_acts (s : State) : Acts s0 d s { d with reasons := true, door := true } (stateAborts s) := by
  unfold stateAborts
  split
  · exact (abortDefrost_acts s).trans (abortDoor_acts _)
  split
  · exact (withdrawDoor_acts s).owe {}
  · exact Acts.refl.owe {}

theorem respondToState_acts (old : StationState) {s : State} (h : Active s) :
    Acts s0 d s { d with reasons := false, status := false, door := false } (respondToState old s) := by
  unfold respondToState
  dsimp only
  have closed : Acts s0 d s d (if endsFormation old s.mode then closeForming enterRecord queueChanged id s else s) := by
    split
    · exact closeInState_acts h
    · exact .refl
  have aborted := closed.trans ((discardWalk_acts old _).trans (stateAborts_acts _))
  have evaluated := aborted.trans ((refreshReasons_acts _).trans (evaluateDrive_acts _))
  exact evaluated.trans (((defrostTest_acts _).trans (doorTest_acts _)).tail .statusFrame)

/-- What the entry of a station state leaves owed: what was owed but for its own evaluations. -/
@[simp] def Owed.entered (d : Owed) : Owed :=
  { d with reasons := false, status := false, door := false, accepting := false }

theorem setMode_acts {m : StationState} {s : State} (h : Active s) (awake : s.mode ≠ .quiet) (joining : m ≠ .joining)
    (quiet : m ≠ .quiet) :
    Acts s0 d s { d with reasons := true, status := true, door := true, accepting := false } { s with mode := m } :=
  .single (.mode m h awake joining quiet)

theorem enterState_acts {m : StationState} {s : State} (h : Active s) (awake : s.mode ≠ .quiet)
    (joining : m ≠ .joining) (quiet : m ≠ .quiet) : Acts s0 d s d.entered (enterState m s) := by
  have entered := (setMode_acts (s0 := s0) (d := d) h awake joining quiet).trans (changePosture_acts s.mode _)
  exact entered.trans (respondToState_acts s.mode (entered.active h))

theorem enterStateAfresh_acts {m : StationState} {s : State} (h : Active s) (awake : s.mode ≠ .quiet)
    (joining : m ≠ .joining) (quiet : m ≠ .quiet) : Acts s0 d s d.entered (enterStateAfresh m s) := by
  have entered := (setMode_acts (s0 := s0) (d := d) h awake joining quiet).trans (freshPosture_acts _)
  exact entered.trans (respondToState_acts s.mode (entered.active h))

theorem restState_ne (s : State) : restState s ≠ .joining ∧ restState s ≠ .quiet := by
  unfold restState; split <;> exact ⟨nofun, nofun⟩

theorem drainTest_acts (s : State) : Acts s0 d s d (drainTest s) := by
  unfold drainTest
  split
  · next h =>
    simp only [Bool.and_eq_true, decide_eq_true_eq] at h
    have active : Active s := .inr (by rw [h.1]; nofun)
    have left := enterState_acts (s0 := s0) (d := d) (m := .ready) active (by rw [h.1]; nofun) nofun nofun
    exact left.owe {}
  · exact .refl

theorem zoneChanged_acts (c : Nat × Nat) {s : State} (h : Active s) :
    Acts s0 d s { d with reasons := false, level := false } (zoneChanged c s) :=
  (queueChanged_acts c h).trans (drainTest_acts _)

theorem withoutTag_sublist (t : Tag) (z : List UnitRecord) : (withoutTag t z).Sublist z := List.eraseP_sublist

theorem dropRecord_acts (t : Tag) (s : State) : Acts s0 d s { d with level := true } (dropRecord t s) :=
  .single (.zoneLess _ (withoutTag_sublist t _))

theorem removeRecord_acts (t : Tag) {s : State} (h : Active s) : Acts s0 d s d (removeRecord t s) :=
  ((dropRecord_acts t s).trans (zoneChanged_acts s.counts h)).owe {}

theorem latchFault_acts (s : State) : Acts s0 d s d (latchFault s) :=
  (Acts.single (.latch true)).trans ((queueEvent_acts _ _ _ _).trans (queueStatus_acts _))

theorem enterQuiet_acts {s : State} (sends : ∃ e ∈ s0.link.txq, e.sending = true)
    (h : s.mode ≠ .joining ∨ d.accepting = false) :
    Acts s0 d s { d with accepting := false, door := false } (enterQuiet s) := by
  have quiet := Acts.single (s0 := s0) (d := d) (Act.quiet sends h)
  have peer := quiet.tail (.peer (s := { s with mode := .quiet, link.silencing := false })
    { s.peer with statusTimer := none, walk := none } rfl)
  have stopped := peer.tail (.dose { s.dose with sampleTimer := none })
  have withdrawn := stopped.trans ((withdrawDoor_acts _).trans (driveStops_acts _))
  have rests : ∀ u : State, u.mode = .quiet → DoorRests u := fun u hu => by simp [DoorRests, hu, doorState]
  refine (withdrawn.trans (freshPosture_acts _)).tail (.doorRests (rests _ ?_))
  rw [blocksResponded_mode (freshPosture_blocks _), blocksResponded_mode (driveOff_blocks _),
    blocksResponded_mode (withdrawStart_blocks _ _), blocksResponded_mode (withdrawDoor_blocks _)]

/-! ### Closes of a count, and verdicts -/

theorem closeByGap_acts {enter : UnitRecord → State → State}
    (he : ∀ (d : Owed) r {s}, Active s →
      Acts s0 { d with tags := r.tag :: d.tags } s { d with level := true } (enter r s))
    {s : State} (h : Active s) : Acts s0 d s d (closeByGap enter s) :=
  closeForming_acts he (fun _ c _ => zoneChanged_acts c) _ h

theorem closeByLength_acts {enter : UnitRecord → State → State}
    (he : ∀ (d : Owed) r {s}, Active s →
      Acts s0 { d with tags := r.tag :: d.tags } s { d with level := true } (enter r s))
    {s : State} (h : Active s) : Acts s0 d s d (closeByLength enter s) :=
  closeForming_acts he (fun _ c _ => zoneChanged_acts c) _ h

theorem closeDue_acts {s : State} (h : Active s) : Acts s0 d s d (closeDue s) := by
  unfold closeDue
  split
  · exact closeByGap_acts enterInCount_acts h
  split
  · exact closeByLength_acts enterInCount_acts h
  · exact .refl

theorem reportVerdict_acts (o : Option Nat) (s : State) (r : UnitRecord) : Acts s0 d s d (reportVerdict o s r) := by
  unfold reportVerdict
  split
  · exact .refl
  · exact (Acts.single (.counter .verdictFail nofun)).trans (queueEvent_acts _ _ _ _)

theorem judgeZone_acts (s : State) : Acts s0 d s d (judgeZone s) := by
  unfold judgeZone
  refine (mapZone_acts _ (fun r => ?_) (fun r => ?_) s).trans (foldl_acts _ (fun s1 r => reportVerdict_acts _ s1 r) _ _)
  · split <;> rfl
  · split <;> rfl

theorem closeAndJudge_acts {s : State} (h : Active s) : Acts s0 d s d (closeAndJudge s) := by
  unfold closeAndJudge
  have judged : Acts s0 d s d (judgeZone (closeDue s)) := (closeDue_acts h).trans (judgeZone_acts _)
  dsimp only
  split
  · exact judged.trans (examineZone_acts _)
  · exact judged

/-! ### The belt's steps before the closes -/

theorem baseTakes_acts (b : BaseName) (v : Nat) (w : Bool) (s : State) : Acts s0 d s d (baseTakes b v w s) :=
  mapChannels_acts _ s

theorem stepBelt_acts (s : State) : Acts s0 d s d (stepBelt s) := by
  unfold stepBelt
  split
  · exact .refl
  · exact Acts.trans (.single (.channels _)) (baseTakes_acts _ _ _ _)

theorem stepGapRun_acts (s : State) : Acts s0 d s d (stepGapRun s) := by
  unfold stepGapRun
  split
  · exact .refl
  · exact flow_acts rfl ⟨rfl, rfl⟩ rfl

theorem moveHeads_acts (s : State) : Acts s0 d s d (moveHeads s) := by
  have moved : Acts s0 d s d { s with tracking.zone := s.tracking.zone.map moveRecord } := by
    refine .single (.zone _ ?_ fun h => ?_)
    · rw [List.map_map]; rfl
    · exact List.pairwise_map.2 (h.imp fun hab => Nat.succ_le_succ hab)
  unfold moveHeads
  cases hm : s.tracking.mergeBound with
  | none =>
    rw [Option.map_none, ← hm]
    exact moved
  | some m => exact moved.tail (.mergeGrows m (m.length + 1) hm)

theorem sampleEntry_acts (on : Bool) (s : State) : Acts s0 d s d (sampleEntry on s) := by
  refine .single (.belt _ s.tracking.reverseDebt s.tracking.currentLot (.inl ?_) (.inr le_rfl))
  split
  · exact Nat.zero_le _
  · exact Nat.min_le_right _ _

theorem peer_acts {s : State} (p : PeerView) (h : p.neighbours = s.peer.neighbours) :
    Acts s0 d s d { s with peer := p } := .single (.peer p (congrArg Neighbours.upstream h))

theorem queueWalkPass_acts (s : State) : Acts s0 d s d (queueWalkPass s) := by
  unfold queueWalkPass
  split
  · split
    · next w _ _ =>
      exact (peer_acts { s.peer with walk := some { w with passSent := true } } rfl).trans
        (own_acts (f := ownFrame .walkPass 0 [] s) rfl nofun nofun)
    · exact .refl
  · exact .refl

theorem edgeOrder_acts (w : Walk) (s : State) : Acts s0 d s d (edgeOrder w s) := by
  unfold edgeOrder
  split
  · exact queueEvent_acts _ _ _ _
  split
  · exact queueEvent_acts _ _ _ _
  · exact .refl

theorem queueWalkSeen_acts (u n : Nat) (s : State) : Acts s0 d s d (queueWalkSeen u n s) := own_acts rfl nofun nofun

theorem readEdge_acts (w : Walk) (s : State) : Acts s0 d s d (readEdge w s) := by
  unfold readEdge
  have seen : Acts s0 d s d { s with peer.walk := some { w with edgeSeen := true, edgeAdvance := 0 } } :=
    peer_acts { s.peer with walk := _ } rfl
  dsimp only
  split
  · exact seen.trans (queueWalkSeen_acts _ _ _)
  · exact seen.trans ((setNeighbours_acts _ _).trans ((queueWalkSeen_acts _ _ _).trans (edgeOrder_acts _ _)))

theorem walkStep_acts (on : Bool) (s : State) : Acts s0 d s d (walkStep on s) := by
  unfold walkStep
  split
  · exact .refl
  next w _ =>
  split
  · exact .refl
  split
  · exact readEdge_acts w s
  · exact (peer_acts { s.peer with walk := some (walkAdvance on w) } rfl).trans (queueWalkPass_acts _)

theorem beltMoves_acts (on : Bool) (s : State) : Acts s0 d s d (beltMoves on s) :=
  (stepBelt_acts s).trans ((stepGapRun_acts _).trans ((moveHeads_acts _).trans ((sampleEntry_acts on _).trans
    (walkStep_acts on _))))

/-! ### Removals -/

/-- Changes made one after another of a list, each on an active station. -/
theorem foldl_acts_active {α : Type} (g : State → α → State) (hg : ∀ s a, Active s → Acts s0 d s d (g s a)) (l : List α)
    {s : State} (h : Active s) : Acts s0 d s d (l.foldl g s) := by
  induction l generalizing s with
  | nil => exact .refl
  | cons a l ih => exact (hg s a h).trans (ih ((hg s a h).active h))

theorem divertRecord_acts (s : State) (t : Tag) (h : Active s) : Acts s0 d s d (divertRecord s t) := by
  unfold divertRecord
  split
  · exact (removeRecord_acts t h).tail (.counter .diverted nofun)
  · exact .refl

theorem takeWindow_acts (present : List (Tag × UnitKind)) (s : State) (ch : Nat) (h : Active s) :
    Acts s0 d s d (takeWindow present s ch) := by
  unfold takeWindow
  split
  · exact foldl_acts_active _ divertRecord_acts _ h
  · exact .refl

theorem takeWindows_acts (present : List (Tag × UnitKind)) (takes : Nat → Bool) {s : State} (h : Active s) :
    Acts s0 d s d (takeWindows present takes s) :=
  foldl_acts_active _ (takeWindow_acts present) _ h

theorem leaveZone_acts (s : State) (r : UnitRecord) (h : Active s) : Acts s0 d s d (leaveZone s r) := by
  have reported : Acts s0 d s { d with level := true }
      (if s.hasRole .transfer then
        queueEvent .unbagged (decide (r.kind = .bag)).toNat r.tag.toNat (dropRecord r.tag s)
      else dropRecord r.tag s) := by
    split
    · exact (dropRecord_acts _ s).trans (queueEvent_acts _ _ _ _)
    · exact dropRecord_acts _ s
  exact (reported.trans (zoneChanged_acts s.counts (reported.active h))).owe {}

theorem removeAtZoneEnd_acts {s : State} (h : Active s) : Acts s0 d s d (removeAtZoneEnd s) :=
  foldl_acts_active _ leaveZone_acts _ h

/-! ### Packing -/

theorem bagEnters_acts (d : Owed) (t : Tag) (b : Bag) (disposition : Nat) {s : State} (h : Active s) :
    Acts s0 { d with tags := t :: d.tags } s { d with level := true }
      (enterRecord (bagRecord s t b disposition) s) :=
  enterRecord_acts d (bagRecord s t b disposition) h

/-- A bag's close issues one tag, which the bag's record takes into the zone queue. -/
theorem closeBag_acts (disposition : Nat) (b : Bag) {s : State} (h : Active s) (hd : d.tags = []) :
    Acts s0 d s { d with level := true, issued := d.issued + 1 } (closeBag disposition b s) := by
  have closed := Acts.single (s0 := s0) (d := d) (.bags (s := s) none s.packing.nextBag)
  have issued := closed.tail (.issue (s := { s with packing.openBag := none }) hd)
  have reported := issued.trans (queueEvent_acts (s0 := s0) .bagClosed b.number
    (issueTag { s with packing.openBag := none }).1.toNat (issueTag { s with packing.openBag := none }).2)
  have counted := reported.trans (counter_acts .bagsClosed nofun _)
  have given := counted.trans (giveEvent_acts .bagClosed _)
  have entered := given.trans (bagEnters_acts { d with tags := [], issued := d.issued + 1 } _ b disposition
    (given.active h))
  exact entered.owe { tags := hd.symm }

theorem closeOtherLot_acts (lot : Nat) {s : State} (h : Active s) (hd : d.tags = []) :
    Acts s0 d s { d with level := true, issued := d.issued + 1 } (closeOtherLot lot s) := by
  unfold closeOtherLot
  split
  · exact Acts.refl.owe {}
  split
  · exact Acts.refl.owe {}
  · exact closeBag_acts _ _ h hd

theorem openBagFor_acts (lot : Nat) (s : State) : Acts s0 d s d (openBagFor lot s).2 := by
  unfold openBagFor
  split
  · exact .refl
  · exact .single (.bags _ _)

/-- A segment's material joins a bag, which issues two tags at most. -/
theorem bagSegment_acts (u : UnitRecord) {s : State} (h : Active s) (hd : d.tags = []) :
    Acts s0 d s { d with level := true, issued := d.issued + 2 } (bagSegment u s) := by
  have opened := (closeOtherLot_acts u.lot h hd).trans (openBagFor_acts (s0 := s0) u.lot (closeOtherLot u.lot s))
  unfold bagSegment
  dsimp only
  split
  · exact (opened.tail (.bags _ _)).owe { issued := by simp }
  · exact opened.trans (closeBag_acts _ _ (opened.active h) hd)

theorem consumeSegment_acts (u : UnitRecord) {s : State} (h : Active s) (hd : d.tags = []) :
    Acts s0 d s { d with issued := d.issued + 2 } (consumeSegment u s) := by
  have joined := (dropRecord_acts (s0 := s0) (d := d) u.tag s).trans (bagSegment_acts u h hd)
  exact (joined.trans (zoneChanged_acts s.counts (joined.active h))).owe {}

theorem closeCarrier_acts (c : Carrier) {s : State} (h : Active s)
    (room : Packs s0 → s.packing.doorList.length < 4) : Acts s0 d s d (closeCarrier c s) := by
  have listed := (Acts.single (s0 := s0) (d := d)
    (.carriers (s := s) none s.packing.nextCarrier (.inr (.inl rfl)))).tail (.doorMore ⟨c.number, c.disposition⟩ h room)
  exact (listed.trans ((giveEvent_acts .carrierClosed _).trans ((refreshReasons_acts _).trans
    ((evaluateDrive_acts _).trans (doorTest_acts _))))).owe {}

theorem openCarrierFor_acts (lot : Nat) (s : State) : Acts s0 d s d (openCarrierFor lot s).2 := by
  unfold openCarrierFor
  split
  · exact .refl
  · exact .single (.carriers _ _ (.inl rfl))

theorem closeCarrier_blocks (c : Carrier) (s : State) :
    ∃ u, u.station = s.station ∧ u.packing.openCarrier = none ∧ BlocksResponded u (closeCarrier c s) :=
  ⟨{ s with packing.openCarrier := none, packing.doorList := s.packing.doorList ++ [⟨c.number, c.disposition⟩] },
    rfl, rfl, blocksResponded_trans (giveEvent_blocks .carrierClosed { s with
    packing.openCarrier := none, packing.doorList := s.packing.doorList ++ [⟨c.number, c.disposition⟩] })
    (blocksResponded_trans (refreshReasons_blocks _) (blocksResponded_trans (evaluateDrive_blocks _) (doorTest_blocks _)))⟩

theorem closeCarrier_station (c : Carrier) (s : State) : (closeCarrier c s).station = s.station := by
  obtain ⟨u, hu, _, hb⟩ := closeCarrier_blocks c s
  rw [blocksResponded_station hb, hu]

theorem closeCarrier_openCarrier (c : Carrier) (s : State) : (closeCarrier c s).packing.openCarrier = none := by
  obtain ⟨u, _, hu, hb⟩ := closeCarrier_blocks c s
  rw [hb.1]; exact hu

/-- The carrier that a bag of this lot finds open: the list has room for another one where the bag fills it. -/
theorem carrierFor_cases (lot : Nat) (s : State) :
    (closeOtherCarrier lot s = s)
      ∨ ∃ c x, s.packing.openCarrier = some c ∧ closeOtherCarrier lot s = closeCarrier x s := by
  unfold closeOtherCarrier
  split
  · exact .inl rfl
  · next c hc =>
    split
    · exact .inl rfl
    · exact .inr ⟨c, _, hc, rfl⟩

theorem carrierSize_of_station {s t : State} (h : t.station = s.station) : t.carrierSize = s.carrierSize := by
  unfold State.carrierSize State.item State.items
  rw [h]

theorem openCarrierFor_station (lot : Nat) (s : State) : (openCarrierFor lot s).2.station = s.station := by
  unfold openCarrierFor
  split <;> rfl

theorem openCarrierFor_doorList (lot : Nat) (s : State) :
    (openCarrierFor lot s).2.packing.doorList = s.packing.doorList := by
  unfold openCarrierFor
  split <;> rfl

theorem openCarrierFor_fresh {lot : Nat} {s : State} (h : s.packing.openCarrier = none) :
    (openCarrierFor lot s).1.count = 0 := by
  unfold openCarrierFor
  rw [h]

theorem carryBag_acts (u : UnitRecord) {s : State} (profile : s.hasProfile = true)
    (room : Packs s0 → s.packing.doorList.length < 4)
    (size : Packs s0 → ∀ c, s.packing.openCarrier = some c → 1 ≤ c.count ∧ c.count < s.carrierSize) :
    Acts s0 d s d (carryBag u s) := by
  have h : Active s := .inl profile
  have other : Acts s0 d s d (closeOtherCarrier u.lot s) := by
    rcases carrierFor_cases u.lot s with he | ⟨c, x, _, he⟩ <;> rw [he]
    · exact .refl
    · exact closeCarrier_acts x h room
  have station : (openCarrierFor u.lot (closeOtherCarrier u.lot s)).2.station = s.station := by
    rw [openCarrierFor_station]
    rcases carrierFor_cases u.lot s with he | ⟨c, x, _, he⟩ <;> rw [he]
    exact closeCarrier_station x s
  have opened := other.trans (openCarrierFor_acts u.lot _)
  unfold carryBag
  dsimp only
  split
  · next full =>
    refine opened.trans (closeCarrier_acts _ (opened.active h) fun packs => ?_)
    rw [openCarrierFor_doorList]
    rcases carrierFor_cases u.lot s with he | ⟨c, x, hc, he⟩
    · rw [he]; exact room packs
    · obtain ⟨one, less⟩ := size packs c hc
      rw [carrierSize_of_station station, he, openCarrierFor_fresh (closeCarrier_openCarrier x s)] at full
      omega
  · next less =>
    refine opened.tail (.carriers _ _ (.inr (.inr ⟨?_, fun x hx => ?_⟩)))
    · unfold State.hasProfile; rw [station]; exact profile
    · obtain rfl := Option.some.inj hx
      exact ⟨Nat.le_add_left _ _, Nat.lt_of_not_le less⟩

/-- What the changes of a command keep of the packing unit's capacities. -/
structure PacksKept (d : Owed) (s : State) : Prop where
  doorList : s.packing.doorList.length ≤ 4
  openCarrier : ∀ c, s.packing.openCarrier = some c → 1 ≤ c.count ∧ c.count < s.carrierSize
  noCarrierBefore : s.hasProfile = false → s.packing.openCarrier = none
  joiningNoProfile : d.accepting = false → s.mode = .joining → s.station.frozen = none

theorem packsKept_of_blocks {e : Owed} {s t : State} (h : BlocksResponded s t)
    (accepting : e.accepting = false → d.accepting = false) (k : PacksKept d s) : PacksKept e t where
  doorList := by rw [h.1]; exact k.doorList
  openCarrier := by rw [h.1]; exact k.openCarrier
  noCarrierBefore := by rw [h.1]; exact k.noCarrierBefore
  joiningNoProfile ha := by rw [h.1]; exact k.joiningNoProfile (accepting ha)

theorem Act.packs {e : Owed} {s t : State} (h : Act s0 d s e t) (packs : Packs s0) (k : PacksKept d s) :
    PacksKept e t := by
  cases h with
  | owe h => exact ⟨k.1, k.2, k.3, fun he => k.4 (by by_contra hd; simp [h.accepting (by simpa using hd)] at he)⟩
  | frame f _ _ _ => exact packsKept_of_blocks (framesQueued_blocks (queueFrame_framesQueued f s)) id k
  | statusFrame => exact packsKept_of_blocks (framesQueued_blocks (queueStatus_framesQueued s)) (d := d) id k
  | holdFrame => exact packsKept_of_blocks (framesQueued_blocks (queueHold_framesQueued s)) (d := d) id k
  | holdAnswer => exact packsKept_of_blocks (framesQueued_blocks (queueFrame_framesQueued _ s)) (d := d) id k
  | loss n e => exact packsKept_of_blocks (framesQueued_blocks (settleLoss_framesQueued n e s)) id k
  | grant i | defer i | withdraw i | expire i => cases i <;> exact ⟨k.1, k.2, k.3, k.4⟩
  | carriers c n ok =>
    rcases ok with rfl | rfl | ⟨profile, ok⟩
    · exact ⟨k.1, k.2, k.3, k.4⟩
    · exact ⟨k.1, nofun, fun _ => rfl, k.4⟩
    · exact ⟨k.1, ok, fun h => absurd (profile.symm.trans h) nofun, k.4⟩
  | doorMore e _ room =>
    refine ⟨?_, k.2, k.3, k.4⟩
    show (s.packing.doorList ++ [e]).length ≤ 4
    rw [List.length_append]
    exact room packs
  | doorLess l h => exact ⟨h.length_le.trans k.1, k.2, k.3, k.4⟩
  | freeze n mode _ _ fresh =>
    have none : s.packing.openCarrier = none :=
      k.noCarrierBefore (by unfold State.hasProfile; rw [k.joiningNoProfile fresh mode]; rfl)
    exact ⟨k.1, fun c (hc : s.packing.openCarrier = some c) => absurd (none.symm.trans hc) nofun, nofun, nofun⟩
  | mode m _ _ joining _ => exact ⟨k.1, k.2, k.3, fun _ hm => absurd hm joining⟩
  | quiet => exact ⟨k.1, k.2, k.3, fun _ hm => nomatch hm⟩
  | _ => exact ⟨k.1, k.2, k.3, k.4⟩

theorem Acts.packs {e : Owed} {s t : State} (h : Acts s0 d s e t) (packs : Packs s0) (k : PacksKept d s) :
    PacksKept e t := h.keeps (fun a => a.packs packs) k

theorem Act.profileKept {e : Owed} {s t : State} (h : Act s0 d s e t) (p : s.hasProfile = true) : t.hasProfile = true := by
  cases h with
  | frame f _ _ _ => rwa [blocksResponded_hasProfile (framesQueued_blocks (queueFrame_framesQueued f s))]
  | statusFrame => rwa [blocksResponded_hasProfile (framesQueued_blocks (queueStatus_framesQueued s))]
  | holdFrame => rwa [blocksResponded_hasProfile (framesQueued_blocks (queueHold_framesQueued s))]
  | holdAnswer => rwa [blocksResponded_hasProfile (framesQueued_blocks (queueFrame_framesQueued _ s))]
  | loss n e => rwa [blocksResponded_hasProfile (framesQueued_blocks (settleLoss_framesQueued n e s))]
  | grant i | defer i | withdraw i | expire i => cases i <;> exact p
  | freeze => rfl
  | _ => exact p

theorem loadBag_acts (u : UnitRecord) {s : State} (profile : s.hasProfile = true)
    (kept : Packs s0 → PacksKept d s) : Acts s0 d s d (loadBag u s) := by
  unfold loadBag
  split
  · next room =>
    have removed := removeRecord_acts (s0 := s0) (d := d) u.tag (.inl profile : Active s)
    have packing : ∃ door, (removeRecord u.tag s).packing = { s.packing with door := door } :=
      ⟨(removeRecord u.tag s).packing.door, congrArg State.packing (removeRecord_queue u.tag s).1⟩
    obtain ⟨door, hdoor⟩ := packing
    refine removed.trans (carryBag_acts u ?_ (fun _ => ?_) fun packs => ?_)
    · exact removed.keeps (P := fun _ s => s.hasProfile = true) Act.profileKept profile
    · rw [hdoor]; exact room
    · exact (removed.packs packs (kept packs)).openCarrier
  · exact .refl

theorem packRecord_acts (t : Tag) {s : State} (h : Active s) (hd : d.tags = [])
    (kept : Packs s0 → PacksKept d s) :
    Acts s0 d s { d with issued := d.issued + 2 } (packRecord s t) := by
  unfold packRecord
  split
  · exact Acts.refl.owe {}
  split
  · exact consumeSegment_acts _ h hd
  split
  · next role =>
    exact (loadBag_acts _ (hasProfile_of_hasRole (Bool.and_eq_true_iff.1 role).1) kept).owe {}
  · exact Acts.refl.owe {}

theorem packRecords_acts (l : List Tag) {s : State} (h : Active s) (hd : d.tags = [])
    (kept : Packs s0 → PacksKept d s) :
    Acts s0 d s { d with issued := d.issued + 2 * l.length } (l.foldl packRecord s) := by
  induction l generalizing s d with
  | nil => exact .refl
  | cons t l ih =>
    have packed := packRecord_acts (s0 := s0) (d := d) t h hd kept
    refine (packed.trans (ih (packed.active h) hd fun packs => packed.packs packs (kept packs))).owe { issued := ?_ }
    simp only [List.length_cons]; omega

theorem packingTags_length (s : State) : (packingTags s).length ≤ s.tracking.zone.length := by
  unfold packingTags; rw [List.length_map]; exact List.length_filter_le _ _

/-- The windows' and the packing unit's turn issues two tags at most for each record of the queue. -/
theorem divertAndPack_acts {s : State} (h : Active s) (hd : d.tags = []) (kept : Packs s0 → PacksKept d s) :
    Acts s0 d s { d with issued := d.issued + 2 * s.tracking.zone.length } (divertAndPack s) := by
  have few : d.issued + 2 * (packingTags s).length ≤ d.issued + 2 * s.tracking.zone.length := by
    have := packingTags_length s; omega
  unfold divertAndPack
  dsimp only
  split
  · exact (takeWindows_acts _ _ h).owe {}
  split
  · have first := Acts.trans (s0 := s0) (.single (.pins (d := d) s.faultIn s.encoder s.now (s.orderDraws + 1) s.pending))
      (takeWindows_acts (s0 := s0) (presentUnits s) (Config.windowTakesCountFirst s.orderDraws)
        (s := { s with orderDraws := s.orderDraws + 1 }) h)
    have packed := first.trans (packRecords_acts (packingTags s) (first.active h) hd
      fun packs => first.packs packs (kept packs))
    exact (packed.trans (takeWindows_acts _ _ (packed.active h))).owe { issued := few }
  · exact (packRecords_acts _ h hd kept).owe { issued := few }

end Sys2Proof.Changes

/-! PROOFS. The meanings as changes: the handover unit, the dose unit, the cycles and the line link. -/

namespace Sys2Proof.Changes

open Sys2Proof Sys2Proof.Machine Sys2Proof.Safety Sys2Proof.Laws

variable {s0 : State} {d : Owed}

/-! ### Frames handled -/

theorem setPeerEntry_acts (n : Nat) (e : PeerEntry) (s : State) : Acts s0 d s d (s.setPeerEntry n e) := by
  obtain ⟨p, h⟩ := setPeerEntry_eq s n e
  rw [h]
  exact peer_acts { s.peer with peers := p } rfl

/-- What a handled frame leaves to its effect: the station, as what the frame's origin brings about has left it. -/
structure Handled (s : State) (f : Frame) (s1 : State) : Prop where
  acts : ∀ d, Acts s d s d s1
  heard : f ∈ s.link.rxq
  awake : s.mode ≠ .quiet
  blocks : ∃ u, s1.mode = s.mode ∧ s1.station = s.station ∧ BlocksResponded u s1 ∧ u.tracking = s.tracking
  reasons : s1.flow.reasons = s.flow.reasons

theorem requestStart_reasons (i : LimiterId) (s : State) :
    (requestStart i s).1.flow.reasons = s.flow.reasons := by
  unfold requestStart
  split
  · rfl
  · split
    · exact setLimiter_flow_reasons _ _ _
    · rw [framesQueued_flow (queueEvent_framesQueued _ _ _ _)]
      exact setLimiter_flow_reasons _ _ _

theorem withdrawStart_reasons (i : LimiterId) (s : State) : (withdrawStart i s).flow.reasons = s.flow.reasons :=
  setLimiter_flow_reasons _ _ _

theorem evaluateDrive_reasons (s : State) : (evaluateDrive s).flow.reasons = s.flow.reasons := by
  unfold evaluateDrive
  split
  · rfl
  split
  · split
    · rfl
    · exact driveOff_flow_reasons s
  split
  · rfl
  split
  · split
    · rw [driveOff_flow_reasons, withdrawStart_reasons]
    split
    · rfl
    have request := requestStart_reasons .drive s
    split
    · next s1 h => rw [h] at request; exact request
    · next s1 h => rw [h] at request; exact request
  · rw [driveOff_flow_reasons, withdrawStart_reasons]

theorem handDownstream_reasons (b : Option PeerEntry) (s : State) :
    (handDownstream b s).flow.reasons = s.flow.reasons := by
  unfold handDownstream
  split
  · dsimp only
    split
    · rw [framesQueued_flow (revive_framesQueued _)]
      split
      · rfl
      · exact evaluateDrive_reasons s
    · split
      · rfl
      · exact evaluateDrive_reasons s
  · rfl
  · exact evaluateDrive_reasons s
  · exact evaluateDrive_reasons s

theorem takeFrame_some {k : Kind} {s s1 : State} {f : Frame} (h : takeFrame k s = some (f, s1)) :
    ∃ rest, Oldest k f rest s ∧ s1 = taken f rest s := by
  unfold takeFrame at h
  split at h
  · nomatch h
  · next g rest hq =>
    split at h
    · next hk =>
      obtain ⟨rfl, rfl⟩ := Prod.mk.inj (Option.some.inj h)
      exact ⟨rest, ⟨hq, hk⟩, rfl⟩
    · nomatch h

theorem taken_acts {k : Kind} {f : Frame} {rest : List Frame} {s : State} (h : Oldest k f rest s) :
    Acts s0 d s d (taken f rest s) := by
  have less : rest.length ≤ s.link.rxq.length := by rw [h.1, List.length_cons]; exact Nat.le_succ _
  exact (Acts.single (.rxq rest (.inl less) s.link.ackDrive)).trans
    (setPeerEntry_acts _ _ { s with link.rxq := rest })

theorem taken_mode (f : Frame) (rest : List Frame) (s : State) : (taken f rest s).mode = s.mode :=
  setPeerEntry_mode _ _ _

theorem taken_station (f : Frame) (rest : List Frame) (s : State) : (taken f rest s).station = s.station :=
  setPeerEntry_station _ _ _

theorem taken_tracking (f : Frame) (rest : List Frame) (s : State) : (taken f rest s).tracking = s.tracking :=
  setPeerEntry_tracking _ _ _

/-- A frame taken from the buffer, its origin's entry written, and the change handed on. -/
theorem handled_of_entry {k : Kind} {f : Frame} {rest : List Frame} {s : State} (h : Oldest k f rest s)
    (n : Nat) (e : PeerEntry) :
    Handled s f (handDownstream s.downstreamEntry ((taken f rest s).setPeerEntry n e)) where
  acts d := (taken_acts h).trans ((setPeerEntry_acts _ _ _).trans (handDownstream_acts _ _))
  heard := by rw [h.1]; exact List.mem_cons_self
  awake := h.2.2
  blocks := by
    have hb := handDownstream_blocks s.downstreamEntry ((taken f rest s).setPeerEntry n e)
    refine ⟨_, ?_, ?_, hb, ?_⟩
    · rw [blocksResponded_mode hb, setPeerEntry_mode, taken_mode]
    · rw [blocksResponded_station hb, setPeerEntry_station, taken_station]
    · rw [setPeerEntry_tracking, taken_tracking]
  reasons := by
    rw [handDownstream_reasons, setPeerEntry_flow, taken, setPeerEntry_flow]

theorem handled {k : Kind} {s s1 : State} {f : Frame} (h : handleFrame k s = some (f, s1)) : Handled s f s1 := by
  unfold handleFrame at h
  split at h
  · nomatch h
  · next g u hg =>
    obtain ⟨rfl, rfl⟩ := Prod.mk.inj (Option.some.inj h)
    obtain ⟨rest, ho, rfl⟩ := takeFrame_some hg
    have hb := handDownstream_blocks s.downstreamEntry (taken g rest s)
    exact
      { acts := fun d => (taken_acts ho).trans (handDownstream_acts _ _)
        heard := by rw [ho.1]; exact List.mem_cons_self
        awake := ho.2.2
        blocks := ⟨_, (blocksResponded_mode hb).trans (taken_mode _ _ _),
          (blocksResponded_station hb).trans (taken_station _ _ _), hb, taken_tracking _ _ _⟩
        reasons := by rw [handDownstream_reasons, taken, setPeerEntry_flow] }

namespace Handled

variable {s s1 : State} {f : Frame}

theorem mode (h : Handled s f s1) : s1.mode = s.mode := by obtain ⟨_, hm, _⟩ := h.blocks; exact hm

theorem station (h : Handled s f s1) : s1.station = s.station := by obtain ⟨_, _, hs, _⟩ := h.blocks; exact hs

theorem mergeBound (h : Handled s f s1) : s1.tracking.mergeBound = s.tracking.mergeBound := by
  obtain ⟨u, _, _, hb, hu⟩ := h.blocks
  rw [blocksResponded_mergeBound hb, hu]

theorem active (h : Handled s f s1) (a : Active s) : Active s1 := (h.acts .none).active a

end Handled

/-! ### The handover unit -/

theorem answerOffers_acts (s : State) : Acts s0 d s d (answerOffers s) :=
  mapZone_acts _ (fun r => by split <;> rfl) (fun r => by split <;> rfl) s

theorem addArrival_acts (armed : Bool) (m : UnitImage) {f : Frame} {s : State} (room : s.arrivals.length < 4)
    (active : Active s) (merge : s.tracking.mergeBound = s0.tracking.mergeBound) (heard : f ∈ s0.link.rxq)
    (image : m = imageOf f.payload) (zone : s.zoneHolds m.tag = false) (held : s.arrivalsHold m.tag = false)
    (hd : d.tags = []) : Acts s0 d s { d with level := true } (addArrival armed m s) :=
  .single (.arrivalMore ⟨armed, m, s.now, 0⟩ f room active merge heard (congrArg UnitImage.tag image) zone held hd)

/-- The answer to an OFFER. A HOLD alone answers it without a change of the reasons. -/
theorem answerOffer_acts (origin : Nat) {f : Frame} {s : State} (active : Active s)
    (merge : s.tracking.mergeBound = s0.tracking.mergeBound) (heard : f ∈ s0.link.rxq)
    (reasons : s.flow.reasons = s0.flow.reasons) (hd : d.tags = []) :
    ∃ e, Acts s0 d s e (answerOffer origin (imageOf f.payload) s)
      ∧ (e = d ∨ e = { d with answered := true }
          ∧ (answerOffer origin (imageOf f.payload) s).flow.reasons = s0.flow.reasons) := by
  unfold answerOffer
  split
  · exact ⟨d, .refl, .inl rfl⟩
  next zone =>
  split
  · exact ⟨d, own_acts rfl nofun nofun, .inl rfl⟩
  next held =>
  split
  · exact ⟨_, .single .holdAnswer, .inr ⟨rfl, by rw [framesQueued_flow (queueFrame_framesQueued _ _)]; exact reasons⟩⟩
  next room =>
  have added := addArrival_acts (s0 := s0) (d := d) false (imageOf f.payload) (s := s) (by omega) active merge heard rfl
    (Bool.eq_false_iff.2 zone) (Bool.eq_false_iff.2 held) hd
  have told := added.trans (own_acts (s0 := s0)
    (f := takeFrameTo origin (imageOf f.payload).tag (addArrival false (imageOf f.payload) s)) rfl nofun nofun)
  exact ⟨d, (told.trans (zoneChanged_acts s.counts (told.active active))).owe {}, .inl rfl⟩

theorem armArrival_acts (m : UnitImage) (s : State) : Acts s0 d s d (armArrival m s) := by
  refine .single (.arrivals _ ?_)
  rw [List.map_map]
  refine List.map_congr_left fun a _ => ?_
  dsimp only [Function.comp]
  split
  · next h => exact h.symm
  · rfl

theorem acceptPass_acts {f : Frame} {s : State} (active : Active s)
    (merge : s.tracking.mergeBound = s0.tracking.mergeBound) (heard : f ∈ s0.link.rxq) (hd : d.tags = []) :
    Acts s0 d s d (acceptPass (imageOf f.payload) s) := by
  unfold acceptPass
  split
  · exact .refl
  next zone =>
  split
  · exact .refl
  split
  · exact armArrival_acts _ s
  next held =>
  split
  · next room =>
    have added := addArrival_acts (s0 := s0) (d := d) true (imageOf f.payload) (s := s) room active merge heard rfl
      (Bool.eq_false_iff.2 zone) (Bool.eq_false_iff.2 held) hd
    exact (added.trans (zoneChanged_acts s.counts (added.active active))).owe {}
  · exact counter_acts .untakenPass nofun s

theorem markTaken_acts (t : Tag) (s : State) : Acts s0 d s d (markTaken t s) := by
  unfold markTaken
  split
  · exact .refl
  split
  · exact (setHandover_acts _ _ _ s).trans (evaluateDrive_acts _)
  · exact .refl

theorem expireReply_acts (t : Tag) (r : UnitRecord) (s : State) : Acts s0 d s d (expireReply t r s) := by
  unfold expireReply
  dsimp only
  split
  · exact (setHandover_acts _ _ _ s).trans (offer_acts _ _)
  · exact setHandover_acts _ _ _ s

theorem dropArrival_acts (t : Tag) (s : State) : Acts s0 d s { d with level := true } (dropArrival t s) :=
  .single (.arrivalsLess _ List.eraseP_sublist)

theorem missArrival_acts (t : Tag) {s : State} (h : Active s) : Acts s0 d s d (missArrival t s) := by
  have dropped := (dropArrival_acts (s0 := s0) (d := d) t s).trans (counter_acts .arrivalMiss nofun _)
  exact (dropped.trans (zoneChanged_acts s.counts h)).owe {}

theorem placeArrival_acts (m : UnitImage) {s : State} (h : Active s) (known : m.tag ∈ namedTags s0) (hd : d.tags = []) :
    Acts s0 d s d (placeArrival m s) := by
  unfold placeArrival
  split
  · exact missArrival_acts _ h
  have closed : Acts s0 d s d (closeForming enterRecord zoneChanged id s) :=
    closeForming_acts enterRecord_acts (fun _ c _ => zoneChanged_acts c) id h
  have none := closeForming_mergeBound enterRecord enterRecord_mergeBound zoneChanged zoneChanged_mergeBound id s
  dsimp only
  split
  · exact closed.trans (missArrival_acts _ (closed.active h))
  next zone =>
  have gone := closed.tail (.arrivalTaken m.tag known (Bool.eq_false_iff.2 zone) none hd)
  have placed := (gone.trans (gainLoad_acts m.mass _)).trans
    (enterRecord_acts { d with level := true, tags := [] }
      (placedRecord (closeForming enterRecord zoneChanged id s) m) (active_gainLoad _ (closed.active h)))
  exact (placed.trans (zoneChanged_acts _ (placed.active h))).owe { tags := hd.symm }

theorem testArrivals_acts {s : State} (h : Active s) (known : ∀ a ∈ s.arrivals, a.image.tag ∈ namedTags s0)
    (hd : d.tags = []) : Acts s0 d s d (testArrivals s) := by
  have fold : ∀ (l : List Arrival) {s : State}, Active s → (∀ a ∈ l, a.image.tag ∈ namedTags s0) →
      Acts s0 d s d (l.foldl testArrival s) := by
    intro l
    induction l with
    | nil => exact fun _ _ => .refl
    | cons a l ih =>
      intro s h hl
      have tested : Acts s0 d s d (testArrival s a) := by
        unfold testArrival
        split
        · exact missArrival_acts _ h
        · exact placeArrival_acts _ h (hl a List.mem_cons_self) hd
      exact tested.trans (ih (tested.active h) fun b hb => hl b (List.mem_cons_of_mem _ hb))
  exact fold _ h fun a ha => known a (List.mem_filter.1 ha).1

theorem advanceArrivals_acts (s : State) : Acts s0 d s d (advanceArrivals s) := by
  refine .single (.arrivals _ ?_)
  rw [List.map_map]
  refine List.map_congr_left fun a _ => ?_
  dsimp only [Function.comp]
  split <;> rfl

theorem handoverTurn_acts {s : State} (h : Active s) (known : ∀ a ∈ s.arrivals, a.image.tag ∈ namedTags s0)
    (hd : d.tags = []) : Acts s0 d s d (handoverTurn s) := by
  refine (advanceArrivals_acts s).trans ((testArrivals_acts (s := advanceArrivals s) h ?_ hd).trans (examineZone_acts _))
  intro a ha
  obtain ⟨b, hb, rfl⟩ := List.mem_map.1 ha
  split <;> exact known b hb

/-- The tags of arrival entries come from the list at the start, or from frames that waited then. -/
theorem Act.arrivalsKnown {e : Owed} {s t : State} (h : Act s0 d s e t)
    (known : ∀ a ∈ s.arrivals, a.image.tag ∈ namedTags s0) : ∀ a ∈ t.arrivals, a.image.tag ∈ namedTags s0 := by
  have queued : ∀ {u : State}, FramesQueued s u → ∀ a ∈ u.arrivals, a.image.tag ∈ namedTags s0 := by
    intro u hu
    rw [hu.1]; exact known
  cases h with
  | frame f _ _ _ => exact queued (queueFrame_framesQueued f s)
  | statusFrame => exact queued (queueStatus_framesQueued s)
  | holdFrame => exact queued (queueHold_framesQueued s)
  | holdAnswer => exact queued (queueFrame_framesQueued _ s)
  | loss n e => exact queued (settleLoss_framesQueued n e s)
  | grant i | defer i | withdraw i | expire i => cases i <;> exact known
  | arrivals l tags =>
    intro a ha
    have : a.image.tag ∈ s.arrivals.map (·.image.tag) := by rw [← tags]; exact List.mem_map_of_mem ha
    obtain ⟨b, hb, he⟩ := List.mem_map.1 this
    rw [← he]; exact known b hb
  | arrivalsLess l h => exact fun a ha => known a (h.subset ha)
  | arrivalTaken t => exact fun b hb => known b (List.eraseP_sublist.subset hb)
  | arrivalMore a f _ _ _ heard image =>
    intro b hb
    rcases List.mem_append.1 hb with hb | hb
    · exact known b hb
    · rw [List.mem_singleton.1 hb, image]
      exact List.mem_append_right _ (List.mem_map_of_mem heard)
  | _ => exact known

theorem arrivals_named (s : State) : ∀ a ∈ s.arrivals, a.image.tag ∈ namedTags s := fun _ ha =>
  List.mem_append_left _ (List.mem_append_left _ (List.mem_append_right _ (List.mem_map_of_mem ha)))

/-! ### The accepted forward count -/

theorem reportOrphan_acts (t : Tag) (s : State) : Acts s0 d s d (reportOrphan t s) := by
  unfold reportOrphan
  split
  · exact .refl
  · exact (counter_acts .orphans nofun s).trans (queueEvent_acts _ _ _ _)

theorem reportOrphan_framesQueued (t : Tag) (s : State) :
    ∃ u, u.tracking = s.tracking ∧ u.station = s.station ∧ FramesQueued u (reportOrphan t s) := by
  unfold reportOrphan
  split
  · exact ⟨s, rfl, rfl, framesQueued_refl s⟩
  · exact ⟨count .orphans s, rfl, rfl, queueEvent_framesQueued _ _ _ _⟩

theorem startSegment_acts {s : State} (h : Active s) (none : s.tracking.mergeBound = none) (hd : d.tags = []) :
    Acts s0 d s { d with issued := d.issued + 1 } (startSegment s) := by
  have issued := (Acts.single (s0 := s0) (.issue (s := s) hd)).trans (reportOrphan_acts (issueTag s).1 (issueTag s).2)
  obtain ⟨u, hu, hn, hq⟩ := reportOrphan_framesQueued (issueTag s).1 (issueTag s).2
  have length : (reportOrphan (issueTag s).1 (issueTag s).2).tracking.zone.length = s.tracking.zone.length := by
    rw [sameUnits_length hq.2, hu]; rfl
  unfold startSegment
  dsimp only
  split
  · next room =>
    have inserted := issued.tail (.zoneMore (d := { d with issued := d.issued + 1, tags := [] })
      (formedRecord (issueTag s).1 (if s.isHead = true then s.tracking.currentLot else 0)
        (if s.isHead = true then 0 else 7)) (length ▸ room) (issued.active h))
    have examined := inserted.trans (examineZone_acts _)
    exact (examined.trans (zoneChanged_acts s.counts (examined.active h))).owe { tags := hd.symm }
  · have started := issued.tail (.mergeStarts (d := { d with issued := d.issued + 1, tags := [] })
      ⟨(issueTag s).1, if s.isHead = true then s.tracking.currentLot else 0, if s.isHead = true then 0 else 7, 0⟩
      (freeSequence s 2048 s.tracking.tagSeq) ?_ ?_ ?_)
    · exact started.owe { tags := hd.symm }
    · rw [framesQueued_mergeBound hq, hu]; exact none
    · rw [blocksResponded_station (framesQueued_blocks hq), hn]; rfl
    · rw [hq.1]; exact congrArg Tracking.tagSeq hu

theorem startTest_acts (on : Bool) {s : State} (h : Active s) (hd : d.tags = []) :
    Acts s0 d s { d with issued := d.issued + 1 } (startTest on s) := by
  unfold startTest
  split
  · next due =>
    refine startSegment_acts h ?_ hd
    simp only [startDue, State.formingNow, Bool.and_eq_true, Bool.not_eq_true', Bool.or_eq_false_iff] at due
    obtain ⟨⟨⟨⟨_, none, _⟩, _⟩, _⟩, _⟩ := due
    simpa using none
  · exact Acts.refl.owe {}

theorem insertByHead_perm (r : UnitRecord) (z : List UnitRecord) : (insertByHead r z).Perm (r :: z) := by
  induction z with
  | nil => exact .refl _
  | cons x z ih =>
    unfold insertByHead
    split
    · exact (ih.cons x).trans (.swap _ _ _)
    · exact .refl _

theorem insertByHead_length (r : UnitRecord) (z : List UnitRecord) : (insertByHead r z).length = z.length + 1 :=
  (insertByHead_perm r z).length_eq

/-- The zone queue's capacity is kept by every change. -/
theorem Act.zoneLength {e : Owed} {s t : State} (h : Act s0 d s e t) (room : s.tracking.zone.length ≤ 24) :
    t.tracking.zone.length ≤ 24 := by
  have queued : ∀ {u : State}, FramesQueued s u → u.tracking.zone.length ≤ 24 := by
    intro u hu
    rw [sameUnits_length hu.2]; exact room
  cases h with
  | frame f _ _ _ => exact queued (queueFrame_framesQueued f s)
  | statusFrame => exact queued (queueStatus_framesQueued s)
  | holdFrame => exact queued (queueHold_framesQueued s)
  | holdAnswer => exact queued (queueFrame_framesQueued _ s)
  | loss n e => exact queued (settleLoss_framesQueued n e s)
  | grant i | defer i | withdraw i | expire i => cases i <;> exact room
  | zone z tags _ =>
    have := congrArg List.length tags
    simp only [List.length_map] at this
    exact this ▸ room
  | zoneLess z h => exact h.length_le.trans room
  | zoneMore r free _ =>
    show (insertByHead r s.tracking.zone).length ≤ 24
    rw [insertByHead_length]; exact free
  | zoneSwap r h _ =>
    show (insertByHead r s.tracking.zone.dropLast).length ≤ 24
    rw [insertByHead_length, List.length_dropLast]
    have := List.length_pos_iff.2 h
    omega
  | _ => exact room

end Sys2Proof.Changes

/-! PROOFS. The meanings as changes: the count's end, the dose unit, the cycles and the line link. -/

namespace Sys2Proof.Changes

open Sys2Proof Sys2Proof.Machine Sys2Proof.Safety Sys2Proof.Laws

variable {s0 : State} {d : Owed}

/-! ### The accepted forward count -/

/-- An accepted forward count issues one tag, and two more for each record that the packing unit can take. -/
theorem beltAdvance_acts (on : Bool) {s : State} (h : Active s) (known : ∀ a ∈ s.arrivals, a.image.tag ∈ namedTags s0)
    (hd : d.tags = []) (kept : Packs s0 → PacksKept d s) :
    ∃ n, Acts s0 d s { d with issued := n } (beltAdvance on s)
      ∧ (s.tracking.zone.length ≤ 24 → n ≤ d.issued + 49) := by
  have moved := beltMoves_acts (s0 := s0) (d := d) on s
  have judged := moved.trans (closeAndJudge_acts (moved.active h))
  have packed := judged.trans (divertAndPack_acts (judged.active h) hd fun packs => judged.packs packs (kept packs))
  have left := packed.trans (removeAtZoneEnd_acts (packed.active h))
  have turned := left.trans (handoverTurn_acts (left.active h)
    (left.keeps (P := fun _ s => ∀ a ∈ s.arrivals, a.image.tag ∈ namedTags s0) Act.arrivalsKnown known) hd)
  have few : s.tracking.zone.length ≤ 24 → (closeAndJudge (beltMoves on s)).tracking.zone.length ≤ 24 :=
    judged.keeps (P := fun _ s => s.tracking.zone.length ≤ 24) Act.zoneLength
  unfold beltAdvance
  dsimp only
  split
  · exact ⟨_, turned, fun room => by have := few room; omega⟩
  · exact ⟨_, turned.trans (startTest_acts on (turned.active h) hd), fun room => by
      have := few room
      dsimp only
      omega⟩

/-! ### The dose unit -/

theorem setProbe_acts (n : Nat) (p : Probe) (s : State) : Acts s0 d s d (s.setProbe n p) := by
  unfold State.setProbe
  split
  · exact .single (.dose _)
  · exact .refl

theorem sampleProbe_acts (s : State) (reading : Nat × Int) : Acts s0 d s d (sampleProbe s reading) := by
  unfold sampleProbe
  split
  · dsimp only
    split
    · exact (setProbe_acts _ _ s).trans ((counter_acts .probeStale nofun _).trans (queueEvent_acts _ _ _ _))
    · exact setProbe_acts _ _ s
  · exact .refl

/-- An accrual writes the accounts and the disposition alone. -/
theorem accrueRecord_keeps (s : State) (r : UnitRecord) :
    ∃ x y z, accrueRecord s r = { r with dose := x, dwell := y, disposition := z } := by
  have accrued : ∀ t, ∃ x y z, accrue s t r = { r with dose := x, dwell := y, disposition := z } := by
    intro t
    unfold accrue
    split
    · exact ⟨_, r.dwell, r.disposition, rfl⟩
    split
    · exact ⟨r.dose, _, r.disposition, rfl⟩
    · exact ⟨r.dose, r.dwell, r.disposition, rfl⟩
  unfold accrueRecord
  split
  · split
    · exact ⟨r.dose, r.dwell, r.disposition, rfl⟩
    split
    · split
      · exact ⟨r.dose, r.dwell, _, rfl⟩
      · exact accrued _
    · exact ⟨r.dose, r.dwell, _, rfl⟩
  · exact ⟨r.dose, r.dwell, r.disposition, rfl⟩

theorem accrueZone_acts (s : State) : Acts s0 d s d (accrueZone s) := by
  refine mapZone_acts _ (fun r => ?_) (fun r => ?_) s
  · obtain ⟨x, y, z, h⟩ := accrueRecord_keeps s r
    rw [h]
  · obtain ⟨x, y, z, h⟩ := accrueRecord_keeps s r
    rw [h]

theorem stepLoad_acts (s : State) : Acts s0 d s d (stepLoad s) := by
  unfold stepLoad
  split
  · dsimp only
    split
    · exact flow_acts rfl ⟨rfl, rfl⟩ rfl
    · exact (flow_acts (s := s) (f := { s.flow with
        loadFilter := filterNext (s.item 38) s.flow.loadFilter s.flow.loadInput, loadInput := 0,
        loadHigh := loadHighNow { s with
          flow.loadFilter := filterNext (s.item 38) s.flow.loadFilter s.flow.loadInput, flow.loadInput := 0 } })
        rfl ⟨rfl, rfl⟩ rfl).trans ((queueStatus_acts _).trans (evaluateChain_acts _))
  · exact .refl

theorem stepThrottle_acts (s : State) : Acts s0 d s d (stepThrottle s) := by
  have stepped : Acts s0 d s d { s with flow.throttleCount := 0, flow.duty := dutyNext s } :=
    flow_acts rfl ⟨rfl, rfl⟩ rfl
  unfold stepThrottle
  dsimp only
  split
  · exact stepped
  · exact stepped.trans (queueStatus_acts _)

theorem countThrottle_acts (s : State) : Acts s0 d s d (countThrottle s) := by
  unfold countThrottle
  split
  · split
    · exact flow_acts rfl ⟨rfl, rfl⟩ rfl
    · exact stepThrottle_acts s
  · exact .refl

theorem sampleExpires_acts (readings : List (Nat × Int)) (s : State) : Acts s0 d s d (sampleExpires readings s) :=
  (foldl_acts _ sampleProbe_acts readings s).trans
    ((accrueZone_acts _).trans ((stepLoad_acts _).trans (countThrottle_acts _)))

/-! ### Limiters, debt and the defrost cycle -/

theorem useGrant_acts (i : LimiterId) (t : Nat) (s : State) : Acts s0 d s d (useGrant i t s) := by
  unfold useGrant
  split
  · split
    · exact driveOn_acts s
    · exact .refl
  · split
    · exact (openDoor_acts t s).owe {}
    · exact .refl

theorem evaluateWant_acts (s : State) : Acts s0 d s d (evaluateWant s) := by
  unfold evaluateWant
  split
  · exact .refl
  · exact Acts.trans (.single (.defrost s.defrost.intervalElapsed s.defrost.overdueStay (wantAfter s)))
      ((queueStatus_acts _).trans (evaluateChain_acts _))

theorem raiseDebt_acts {s : State} (h : s.defrost.debt < 8) : Acts s0 d s d (raiseDebt s) :=
  Acts.trans (.single (.debtUp h)) ((evaluateWant_acts _).trans ((queueStatus_acts _).trans (defrostTest_acts _)))

theorem intervalExpires_acts (s : State) : Acts s0 d s d (intervalExpires s) := by
  unfold intervalExpires
  split
  · next h => exact raiseDebt_acts h
  split
  · exact .refl
  · exact Acts.trans (.single (.defrost s.defrost.intervalElapsed true s.defrost.want)) (queueEvent_acts _ _ _ _)

theorem completeCycle_acts {s : State} (h : d.lowered = false) :
    Acts s0 d s { d with lowered := true, reasons := true } (completeCycle s) := by
  have repaid := (Acts.single (s0 := s0) (.debtDown (s := s) h)).trans (counter_acts .defrostDone nofun _)
  have wanted := repaid.trans (evaluateWant_acts _)
  unfold completeCycle
  dsimp only
  generalize evaluateWant (count .defrostDone { s with defrost.debt := s.defrost.debt - 1 }) = u at wanted ⊢
  have stayed := wanted.tail
    (.defrost u.defrost.intervalElapsed (u.defrost.overdueStay && decide (8 ≤ u.defrost.debt)) u.defrost.want)
  exact stayed.tail (.cycle none (.inl rfl))

/-! ### The line link -/

theorem dropSending_leaves (q : List TxEntry) : Leaves q (dropSending q) where
  length := List.eraseP_sublist.length_le
  order h := h.sublist List.eraseP_sublist
  frames e h := ⟨e, List.eraseP_sublist.subset h, rfl⟩
  waiting _ _ h := List.eraseP_sublist.subset h
  sending := List.eraseP_sublist.countP_le

theorem stopSending_leaves (n : Nat) (q : List TxEntry) : Leaves q (stopSending n q) where
  length := by unfold stopSending; rw [List.length_map]
  order h := by
    unfold stopSending
    refine List.pairwise_map.2 (h.imp fun {a b} hab => ?_)
    split <;> split <;> exact hab
  frames e h := by
    obtain ⟨x, hx, rfl⟩ := List.mem_map.1 h
    exact ⟨x, hx, by split <;> rfl⟩
  waiting w e h := by
    obtain ⟨x, hx, rfl⟩ := List.mem_map.1 h
    rw [if_neg (by rw [w x hx]; nofun)]
    exact hx
  sending := by
    have none : (stopSending n q).countP (·.sending) = 0 := by
      refine List.countP_eq_zero.2 fun e he => ?_
      obtain ⟨x, _, rfl⟩ := List.mem_map.1 he
      split
      · nofun
      · next h => exact h
    rw [none]; exact Nat.zero_le _

theorem txq_acts {s : State} {q : List TxEntry} (h : Leaves s.link.txq q)
    (reasons : s.flow.reasons = s0.flow.reasons) : Acts s0 d s d (setTxq q s) := .single (.txq q h (.inr reasons))

theorem sends_of_sendingEntry {q : List TxEntry} {e : TxEntry} (h : sendingEntry q = some e) :
    ∃ x ∈ q, x.sending = true := ⟨e, List.mem_of_find?_eq_some h, List.find?_some h⟩

theorem dropEntry_acts {e : TxEntry} {s : State} (sends : ∃ e ∈ s0.link.txq, e.sending = true)
    (reasons : s.flow.reasons = s0.flow.reasons) (hd : d.accepting = false) :
    Acts s0 d s d (dropEntry e s) := by
  have dropped : Acts s0 d s d (count .linkDrop (setTxq (dropSending s.link.txq) s)) :=
    (txq_acts (dropSending_leaves _) reasons).trans (counter_acts .linkDrop nofun _)
  unfold dropEntry
  dsimp only
  split
  · exact (dropped.trans (enterQuiet_acts sends (.inr hd))).owe {}
  · have told : ∀ {u : State}, Acts s0 d u d
        (if e.frame.kind = .event then u else queueEvent .linkDrop (kindCode e.frame.kind) e.frame.target u) := by
      intro u
      split
      · exact .refl
      · exact queueEvent_acts _ _ _ u
    exact (dropped.trans told).tail (.loss 4 e)

theorem failAttempt_acts {e : TxEntry} {s : State} (sends : ∃ e ∈ s0.link.txq, e.sending = true)
    (reasons : s.flow.reasons = s0.flow.reasons) (hd : d.accepting = false) :
    Acts s0 d s d (failAttempt e s) := by
  unfold failAttempt
  split
  · exact txq_acts (dropSending_leaves _) reasons
  split
  · exact dropEntry_acts sends reasons hd
  split
  · exact txq_acts (dropSending_leaves _) reasons
  · exact txq_acts (stopSending_leaves _ _) reasons

theorem completeFrame_acts (f : Frame) (s : State) : Acts s0 d s d (completeFrame f s) := by
  unfold completeFrame
  split
  · refine updateRecord_acts _ _ (fun r => ?_) (fun r => ?_) s
    · split <;> rfl
    · split <;> rfl
  · exact .refl

theorem storeFrame_acts (f : Frame) (s : State) : Acts s0 d s d (storeFrame f s) := by
  unfold storeFrame
  split
  · exact .refl
  split
  · next room =>
    exact .single (.rxq (s.link.rxq ++ [f]) (.inr (by rw [List.length_append]; exact room)) true)
  · exact counter_acts .rxOverrun nofun s

theorem ackDrive_acts (b : Bool) (s : State) : Acts s0 d s d { s with link.ackDrive := b } :=
  .single (.rxq s.link.rxq (.inl le_rfl) b)

end Sys2Proof.Changes

/-! PROOFS. The meanings as changes: station control, and every command. -/

namespace Sys2Proof.Changes

open Sys2Proof Sys2Proof.Machine Sys2Proof.Safety Sys2Proof.Laws

variable {s0 : State} {d : Owed}

/-! ### Station control -/

theorem refuseCommand_acts (reason : Nat) (f : Frame) (s : State) : Acts s0 d s d (refuseCommand reason f s) :=
  queueEvent_acts _ _ _ s

theorem profilePut_keys (p : Profile) (n : Nat) (v : ItemValue) {x : Nat × ItemValue} (h : x ∈ profilePut p n v) :
    x.1 = n ∨ ∃ y ∈ p, y.1 = x.1 := by
  induction p with
  | nil => exact .inl (by rw [List.mem_singleton.1 h])
  | cons m p ih =>
    unfold profilePut at h
    split at h
    · rcases List.mem_cons.1 h with rfl | h
      · exact .inl rfl
      · exact .inr ⟨_, h, rfl⟩
    split at h
    · rcases List.mem_cons.1 h with rfl | h
      · exact .inl rfl
      · exact .inr ⟨_, List.mem_cons_of_mem _ h, rfl⟩
    · rcases List.mem_cons.1 h with rfl | h
      · exact .inr ⟨_, List.mem_cons_self, rfl⟩
      · rcases ih h with h | ⟨y, hy, he⟩
        · exact .inl h
        · exact .inr ⟨y, List.mem_cons_of_mem _ hy, he⟩

/-- The items of a profile in increasing number stay so when a value is stored (R17). -/
theorem profilePut_order (p : Profile) (n : Nat) (v : ItemValue) (h : p.Pairwise (fun a b => a.1 < b.1)) :
    (profilePut p n v).Pairwise (fun a b => a.1 < b.1) := by
  induction p with
  | nil => exact List.pairwise_singleton _ _
  | cons m p ih =>
    obtain ⟨hm, hp⟩ := List.pairwise_cons.1 h
    unfold profilePut
    split
    · next lt =>
      refine List.pairwise_cons.2 ⟨fun x hx => ?_, h⟩
      rcases List.mem_cons.1 hx with rfl | hx
      · exact lt
      · exact lt.trans (hm x hx)
    split
    · next eq => exact List.pairwise_cons.2 ⟨fun x hx => eq ▸ hm x hx, hp⟩
    · next ge ne =>
      refine List.pairwise_cons.2 ⟨fun x hx => ?_, ih hp⟩
      rcases profilePut_keys p n v hx with hx | ⟨y, hy, he⟩
      · dsimp only at ge ne ⊢; omega
      · rw [← he]; exact hm y hy

theorem storeItem_acts (f : Frame) (s : State) : Acts s0 d s d (storeItem f s) := by
  unfold storeItem
  split
  · exact .single (.items _ (profilePut_order _ _ _))
  · exact queueEvent_acts _ _ _ s

theorem refuseProfile_acts (stage item : Nat) (s : State) : Acts s0 d s d (refuseProfile stage item s) :=
  Acts.trans (.single (.items [] fun _ => .nil)) (queueEvent_acts _ _ _ _)

theorem acceptedState_ne (s : State) : acceptedState s ≠ .joining ∧ acceptedState s ≠ .quiet := by
  unfold acceptedState
  split
  · exact ⟨nofun, nofun⟩
  · exact restState_ne s

theorem evaluateWant_mode (s : State) : (evaluateWant s).mode = s.mode := by
  unfold evaluateWant
  split
  · rfl
  · rw [blocksResponded_mode (evaluateChain_blocks _), framesQueued_mode (queueStatus_framesQueued _)]

theorem acceptProfile_acts {n : Nat} {s : State} (mode : s.mode = .joining)
    (passes : profileFailure s.station.pendingProfile n = none) (first : s.flow.reasons = s0.flow.reasons)
    (fresh : d.accepting = false) : Acts s0 d s d (acceptProfile s) := by
  have frozen := Acts.single (s0 := s0) (d := d) (.freeze n mode passes first fresh)
  have wanted : ∀ {e : Owed} (u : State), Acts s0 e u e (if u.hasRole .freeze then evaluateWant u else u) := by
    intro e u
    split
    · exact evaluateWant_acts u
    · exact .refl
  have chained := frozen.trans ((wanted _).trans (evaluateChain_acts _))
  have active := ((wanted (e := d) (freezeProfile s)).trans (evaluateChain_acts _)).active (.inl rfl)
  have awake : (evaluateChain (if (freezeProfile s).hasRole .freeze then evaluateWant (freezeProfile s)
      else freezeProfile s)).mode ≠ .quiet := by
    rw [blocksResponded_mode (evaluateChain_blocks _), apply_ite State.mode, evaluateWant_mode, ite_self]
    show s.mode ≠ .quiet
    rw [mode]; nofun
  unfold acceptProfile
  dsimp only
  generalize evaluateChain (if (freezeProfile s).hasRole .freeze then evaluateWant (freezeProfile s)
      else freezeProfile s) = u at chained active awake ⊢
  have entered := chained.trans (enterState_acts active awake (acceptedState_ne u).1 (acceptedState_ne u).2)
  exact (entered.tail .holdFrame).owe {}

theorem endProfile_acts {f : Frame} {s : State} (first : s.flow.reasons = s0.flow.reasons)
    (fresh : d.accepting = false) : Acts s0 d s d (endProfile f s) := by
  unfold endProfile
  split
  · next mode =>
    split
    · exact refuseProfile_acts _ _ s
    · next passes => exact acceptProfile_acts mode passes first fresh
  · exact queueEvent_acts _ _ _ s

theorem queueHold_of_no_upstream {s : State} (h : s.upstream = 0) : queueHold s = s := by
  unfold queueHold
  rw [if_pos h]

theorem startWalk_acts (f : Frame) {s : State} (mode : s.mode = .profiled ∨ s.mode = .ready) :
    Acts s0 d s d (startWalk f s) := by
  have active : Active s := .inr (by rcases mode with h | h <;> rw [h] <;> nofun)
  have awake : s.mode ≠ .quiet := by rcases mode with h | h <;> rw [h] <;> nofun
  have lone : Acts s0 d s d { s with peer.neighbours := ⟨0, 0, 0⟩, peer.walk := some freshWalk } := by
    have emptied := Acts.single (s0 := s0) (d := d)
      (.upstream (s := s) { s.peer with neighbours := ⟨0, 0, 0⟩, walk := some freshWalk })
    have told := emptied.tail .holdFrame
    rw [queueHold_of_no_upstream rfl] at told
    exact told.owe {}
  unfold startWalk
  dsimp only
  split
  · next none =>
    rw [← List.isEmpty_iff.1 none]
    exact ((lone.trans (enterState_acts (m := .walking) (s := { s with
      peer.neighbours := ⟨0, 0, 0⟩, peer.walk := some freshWalk }) active awake nofun nofun)).trans
      (evaluateChain_acts _)).owe {}
  · have dropped := lone.tail (.arrivalsLess [] (List.nil_sublist _))
    have entered := (dropped.trans (enterState_acts (m := .walking) (s := { s with
      peer.neighbours := ⟨0, 0, 0⟩, peer.walk := some freshWalk, arrivals := [] }) active awake nofun nofun)).trans
      (evaluateChain_acts _)
    exact (entered.trans (queueChanged_acts s.counts (entered.active active))).owe {}

theorem endWalk_acts (f : Frame) {s : State} (mode : s.mode = .walking) : Acts s0 d s d (endWalk f s) := by
  have active : Active s := .inr (by rw [mode]; nofun)
  have ended : Acts s0 d s d { s with peer.walk := none } := peer_acts { s.peer with walk := none } rfl
  exact (ended.trans (enterState_acts (s := { s with peer.walk := none }) active
    (by show s.mode ≠ .quiet; rw [mode]; nofun) (restState_ne s).1 (restState_ne s).2)).owe {}

theorem changeLot_acts (f : Frame) {s : State} (h : Active s) : Acts s0 d s d (changeLot f s) := by
  have closed : Acts s0 d s d (closeForming enterRecord zoneChanged id s) :=
    closeForming_acts enterRecord_acts (fun _ c _ => zoneChanged_acts c) id h
  exact closed.tail (.belt _ _ (payload16 f.payload 0) (.inr rfl) (.inr le_rfl))

theorem clearFault_acts (f : Frame) {s : State} (mode : s.mode = .faulted) : Acts s0 d s d (clearFault f s) := by
  unfold clearFault
  split
  · exact refuseCommand_acts _ _ s
  · have active : Active s := .inr (by rw [mode]; nofun)
    have cleared := Acts.single (s0 := s0) (d := d) (.latch (s := s) false)
    exact (cleared.trans (enterState_acts (s := { s with station.faultLatch := false }) active
      (by show s.mode ≠ .quiet; rw [mode]; nofun) (restState_ne s).1 (restState_ne s).2)).owe {}

theorem storeCarrier_acts (c : DoorEntry) {rest : List DoorEntry} {s : State} (h : s.packing.doorList = c :: rest) :
    Acts s0 d s { d with door := true } (storeCarrier c rest s) := by
  have taken := (Acts.single (s0 := s0) (d := d) (.doorLess rest (h ▸ List.sublist_cons_self c rest))).trans
    (counter_acts .carriersStored nofun _)
  have told := taken.trans (queueEvent_acts .carrierStored c.number c.disposition _)
  unfold storeCarrier
  dsimp only
  generalize queueEvent .carrierStored c.number c.disposition
    (count .carriersStored { s with packing.doorList := rest }) = u at told ⊢
  have stopped := told.tail (.flow { u.flow with doorLimiter.lastStop := some u.now } rfl ⟨rfl, rfl⟩ ⟨rfl, rfl⟩)
  have idle := stopped.tail .doorIdle
  exact (idle.trans ((refreshReasons_acts _).trans (evaluateDrive_acts _))).owe {}

theorem discardCarriers_acts (carrier : Option Carrier) (list : List DoorEntry) (s : State) :
    Acts s0 d s d (discardCarriers carrier list s) := by
  have opened : Acts s0 d s d
      (match carrier with
        | none => s
        | some c => queueEvent .carrierStored c.number (512 + c.disposition) s) := by
    split
    · exact .refl
    · exact queueEvent_acts _ _ _ s
  exact opened.trans (foldl_acts _ (fun u c => queueEvent_acts _ _ _ u) list _)

theorem restartLatch_acts (s : State) : Acts s0 d s d (restartLatch s) := by
  unfold restartLatch
  split
  · split
    · exact .refl
    · exact Acts.trans (.single (.latch true)) (queueEvent_acts _ _ _ _)
  · exact .single (.latch false)

theorem severed_leaves (q : List TxEntry) :
    Leaves q ((q.filter (·.sending)).map (fun e => { e with severed := true })) where
  length := by rw [List.length_map]; exact List.length_filter_le _ _
  order h := List.pairwise_map.2 (h.sublist List.filter_sublist)
  frames e h := by
    obtain ⟨x, hx, rfl⟩ := List.mem_map.1 h
    exact ⟨x, (List.mem_filter.1 hx).1, rfl⟩
  waiting w e h := by
    obtain ⟨x, hx, rfl⟩ := List.mem_map.1 h
    obtain ⟨hm, hs⟩ := List.mem_filter.1 hx
    rw [w x hm] at hs
    nomatch hs
  sending := by
    rw [List.countP_map]
    exact List.filter_sublist.countP_le

/-- The flow unit and the defrost controller as a line restart leaves them (R143, R155). -/
def restartFlow (s : State) : State :=
  { s with
    flow.duty := if s.isHead then s.infeedDuty else 0
    flow.throttleCount := 0
    flow.gapRun := none
    flow.loadInput := 0
    flow.loadFilter := 0
    flow.loadHigh := false
    defrost.intervalElapsed := 0 }

theorem restartFlow_acts (s : State) : Acts s0 d s d (restartFlow s) :=
  (flow_acts (s := s) (f := { s.flow with
    duty := if s.isHead then s.infeedDuty else 0, throttleCount := 0, gapRun := none, loadInput := 0,
    loadFilter := 0, loadHigh := false }) rfl ⟨rfl, rfl⟩ rfl).tail (.defrost 0 s.defrost.overdueStay s.defrost.want)

/-- The link controller and the peer view as a line restart leaves them (R45, R61, R64). -/
def restartLine (s : State) : State :=
  { s with
    link.txq := (s.link.txq.filter (·.sending)).map (fun e => { e with severed := true })
    link.rxq := []
    peer.peers := Vector.replicate 31 unheardPeer
    peer.walk := none }

theorem restartLine_acts {s : State} (first : s.flow.reasons = s0.flow.reasons) :
    Acts s0 d s d (restartLine s) :=
  (((txq_acts (severed_leaves s.link.txq) first).tail (.rxq [] (.inl (Nat.zero_le _)) s.link.ackDrive)).trans
    (peer_acts { s.peer with peers := Vector.replicate 31 unheardPeer, walk := none } rfl))

/-- Tracking and the arrivals list as a line restart leaves them (R86, R106). -/
def restartZone (s : State) : State :=
  { s with
    tracking.zone := []
    tracking.mergeBound := none
    tracking.offRun := 0
    tracking.reverseDebt := 0
    arrivals := [] }

theorem restartZone_acts (s : State) : Acts s0 d s { d with level := true } (restartZone s) := by
  have ended : Acts s0 d s d { s with tracking.mergeBound := none } := by
    cases h : s.tracking.mergeBound with
    | none => rw [← h]; exact .refl
    | some m => exact (Acts.single (.mergeEnds m h)).tail (.tagGone m.tag)
  have emptied := (ended.tail (.zoneLess [] (List.nil_sublist _))).tail
    (.belt 0 0 s.tracking.currentLot (.inl (Nat.zero_le _)) (.inl (Nat.zero_le _)))
  exact emptied.tail (.arrivalsLess [] (List.nil_sublist _))

/-- The packing unit as a line restart leaves it (R186). -/
def restartPacking (s : State) : State :=
  { s with packing.openBag := none, packing.openCarrier := none, packing.doorList := [] }

theorem restartPacking_acts (s : State) : Acts s0 d s { d with reasons := true } (restartPacking s) :=
  ((Acts.single (.bags (s := s) none s.packing.nextBag)).tail
    (.carriers none s.packing.nextCarrier (.inr (.inl rfl)))).tail
    (.doorLess [] (List.nil_sublist _))

theorem restartBlocks_eq (s : State) :
    restartBlocks s = restartPacking (restartFlow (restartZone (restartLine s))) := rfl

theorem restartBlocks_acts {s : State} (first : s.flow.reasons = s0.flow.reasons) :
    Acts s0 d s { d with reasons := true, level := true } (restartBlocks s) := by
  rw [restartBlocks_eq]
  exact (restartLine_acts first).trans ((restartZone_acts _).trans ((restartFlow_acts _).trans (restartPacking_acts _)))

theorem restartLatch_mode (s : State) : (restartLatch s).mode = s.mode := by
  unfold restartLatch
  split
  · split
    · rfl
    · rw [framesQueued_mode (queueEvent_framesQueued _ _ _ _)]
  · rfl

theorem abortDefrost_mode (s : State) : (abortDefrost s).mode = s.mode := by
  unfold abortDefrost
  split <;> rfl

theorem abortDoor_mode (s : State) : (abortDoor s).mode = s.mode := by
  rw [show (abortDoor s).mode = (withdrawDoor s).mode from rfl, blocksResponded_mode (withdrawDoor_blocks s)]

theorem lineRestart_acts (f : Frame) {s : State} (active : Active s) (awake : s.mode ≠ .quiet)
    (first : s.flow.reasons = s0.flow.reasons) :
    Acts s0 d s d (lineRestart f s) := by
  have discarded := (restartBlocks_acts (d := d) first).trans
    (discardCarriers_acts s.packing.openCarrier s.packing.doorList _)
  have aborted := discarded.trans ((abortDefrost_acts _).trans (abortDoor_acts _))
  have chained := aborted.trans ((restartLatch_acts _).trans (evaluateChain_acts _))
  have mode : (evaluateChain (restartLatch (abortDoor (abortDefrost (discardCarriers s.packing.openCarrier
      s.packing.doorList (restartBlocks s)))))).mode = s.mode := by
    rw [blocksResponded_mode (evaluateChain_blocks _), restartLatch_mode, abortDoor_mode, abortDefrost_mode,
      framesQueued_mode (ReverseDebt.discardCarriers_framesQueued _ _ _)]
    rfl
  have stays := chained.active active
  unfold lineRestart
  dsimp only
  generalize evaluateChain (restartLatch (abortDoor (abortDefrost (discardCarriers s.packing.openCarrier
      s.packing.doorList (restartBlocks s))))) = u at chained mode stays ⊢
  have state : (if u.faultIn then StationState.faulted else restState u) ≠ .joining
      ∧ (if u.faultIn then StationState.faulted else restState u) ≠ .quiet := by
    split
    · exact ⟨nofun, nofun⟩
    · exact restState_ne u
  have entered := chained.trans (enterStateAfresh_acts stays (mode ▸ awake) state.1 state.2)
  exact (entered.trans (evaluateLevel_acts (entered.active active))).owe {}

theorem answerReport_acts (f : Frame) (s : State) : Acts s0 d s d (answerReport f s) := by
  unfold answerReport
  dsimp only
  split
  · exact own_acts rfl nofun nofun
  · exact refuseCommand_acts _ _ s

/-- What a command frame comes to: nothing, a refusal, or its effect. -/
theorem takeCommand_cases (k : Kind) (accepted : State → Bool) (effect : Frame → State → State) (s : State) :
    takeCommand k accepted effect s = .next s
      ∨ ∃ f s1, Handled s f s1
          ∧ ((∃ reason, takeCommand k accepted effect s = done (refuseCommand reason f s1))
            ∨ accepted s1 = true ∧ takeCommand k accepted effect s = done (effect f s1)) := by
  unfold takeCommand
  split
  · exact .inl rfl
  · next f s1 h =>
    refine .inr ⟨f, s1, handled h, ?_⟩
    split
    · next reason _ => exact .inl ⟨reason, rfl⟩
    · next passes =>
      refine .inr ⟨?_, rfl⟩
      unfold refusalReason at passes
      split at passes
      · nomatch passes
      split at passes
      · nomatch passes
      split at passes
      · next ha => exact ha
      · nomatch passes

end Sys2Proof.Changes

/-! PROOFS. Every command as changes that leave nothing owed. -/

namespace Sys2Proof.Changes

open Sys2Proof Sys2Proof.Machine Sys2Proof.Safety Sys2Proof.Laws

/-- The outcome of a command that begins in `s`: changes that end the command, or a state in which no more than a pin or
the reverse debt differs. -/
inductive Ends (s : State) (e : Owed) : Host.Outcome State Fault Refusal → State → Prop
  | done {u : State} (h : Acts s .none s e u) : Ends s e (done u) (settle u)
  | next {u : State} (h : Acts s .none s e u) (i : Bool) (p : EncoderPair) (r : Nat)
      (eq : u = { s with faultIn := i, encoder := p, tracking.reverseDebt := r }) : Ends s e (.next u) u

/-- A command that leaves nothing owed, and does nothing that a claim about its end asks for. -/
def Plain (s : State) (o : Host.Outcome State Fault Refusal) : Prop := ∃ t, Ends s .none o t

variable {s : State}

theorem plain_done {u : State} (h : Acts s .none s .none u) : Plain s (done u) := ⟨_, .done h⟩

theorem plain_same : Plain s (.next s) := ⟨s, .next .refl s.faultIn s.encoder s.tracking.reverseDebt rfl⟩

/-- A command in two rows: it acts, or changes nothing. -/
theorem plain_ite {p : Prop} [Decidable p] {u : State} (h : p → Acts s .none s .none u) :
    Plain s (if p then done u else .next s) := by
  split
  · next hp => exact plain_done (h hp)
  · exact plain_same

theorem active_of_acts (h : s.acts = true) : Active s := by
  unfold State.acts at h
  exact .inl (Bool.and_eq_true_iff.1 h).1

theorem active_of_and {b : Bool} (h : (s.acts && b) = true) : Active s := active_of_acts (Bool.and_eq_true_iff.1 h).1

/-! ### Pins and counts -/

theorem pins_acts (i : Bool) (p : EncoderPair) (s0 : State) (d : Owed) (s : State) :
    Acts s0 d s d { s with faultIn := i, encoder := p } :=
  .single (.pins i p s.now s.orderDraws s.pending)

theorem execFaultInput_plain (s : State) : Plain s (execFaultInput s) := by
  have pin := pins_acts true s.encoder s .none s
  have latched := pin.trans (latchFault_acts _)
  unfold execFaultInput
  dsimp only
  split
  · exact ⟨_, .next pin true s.encoder s.tracking.reverseDebt rfl⟩
  next awake =>
  split
  · next state =>
    have active : Active s := .inr (by intro h; rw [h] at state; nomatch state)
    have mode : (latchFault { s with faultIn := true }).mode = s.mode := by
      unfold latchFault
      rw [framesQueued_mode (queueStatus_framesQueued _), framesQueued_mode (queueEvent_framesQueued _ _ _ _)]
    exact plain_done (latched.trans (enterState_acts (latched.active active)
      (by rw [mode]; exact fun h => awake (.inl h)) nofun nofun))
  · exact plain_done latched

theorem execReverseCount_plain (s : State) : Plain s (execReverseCount s) := by
  have pin := pins_acts s.faultIn (encoderReverse s.encoder) s .none s
  unfold execReverseCount
  dsimp only
  split
  · exact ⟨_, .next (pin.tail (.belt s.tracking.offRun (sat16 (s.tracking.reverseDebt + 1)) s.tracking.currentLot
      (.inr rfl) (.inl (Nat.min_le_right _ _)))) _ _ _ rfl⟩
  · exact ⟨_, .next pin _ _ s.tracking.reverseDebt rfl⟩

theorem execForwardCount_ends (on : Bool) (s : State) :
    ∃ n t, Ends s { issued := n } (execForwardCount on s) t ∧ (s.tracking.zone.length ≤ 24 → n ≤ 49) := by
  have pin := pins_acts s.faultIn (encoderForward s.encoder) s .none s
  unfold execForwardCount
  dsimp only
  split
  · next acts =>
    split
    · obtain ⟨n, moved, few⟩ := beltAdvance_acts (s0 := s) (d := .none) on
        (s := { s with encoder := encoderForward s.encoder }) (active_of_acts (s := s) acts) (arrivals_named s) rfl
        fun packs => ⟨packs.1, packs.2, packs.3, fun _ => packs.4⟩
      exact ⟨n, _, .done (pin.trans moved), fun room => (few room).trans (Nat.le_of_eq (Nat.zero_add 49))⟩
    · exact ⟨0, _, .next (pin.tail (.belt s.tracking.offRun (s.tracking.reverseDebt - 1) s.tracking.currentLot
        (.inr rfl) (.inr (Nat.sub_le _ _)))) _ _ _ rfl, fun _ => Nat.zero_le _⟩
  · exact ⟨0, _, .next pin _ _ s.tracking.reverseDebt rfl, fun _ => Nat.zero_le _⟩

theorem execGapClose_plain (s : State) : Plain s (execGapClose s) :=
  plain_ite fun h => closeByGap_acts enterRecord_acts (active_of_and h)

theorem execLengthClose_plain (s : State) : Plain s (execLengthClose s) :=
  plain_ite fun h => closeByLength_acts enterRecord_acts (active_of_and h)

theorem execArrivalAtT_plain (s : State) : Plain s (execArrivalAtT s) :=
  plain_ite fun h => testArrivals_acts (active_of_and h) (arrivals_named s) rfl

theorem execWalkPassQueued_plain (s : State) : Plain s (execWalkPassQueued s) :=
  plain_ite fun _ => queueWalkPass_acts s

theorem execGapRunEnd_plain (s : State) : Plain s (execGapRunEnd s) :=
  plain_ite fun _ => flow_acts rfl ⟨rfl, rfl⟩ rfl

/-! ### The line -/

/-- A command that may write the line condition, and leaves the holding reasons as they were. -/
def Lined (s : State) (o : Host.Outcome State Fault Refusal) : Prop :=
  ∃ t, Ends s .none o t ∨ Ends s { line := true } o t ∧ t.flow.reasons = s.flow.reasons

theorem execTransmitStart_lined (s : State) : Lined s (execTransmitStart s) := by
  unfold execTransmitStart
  split
  · obtain ⟨t, h⟩ := plain_same (s := s)
    exact ⟨t, .inl h⟩
  · next h =>
    have waits : ∀ e ∈ s.link.txq, e.sending = false := by
      intro e he
      by_contra hs
      refine h (.inr ?_)
      unfold sendingEntry
      exact List.find?_isSome.2 ⟨e, he, by simpa using hs⟩
    exact ⟨_, .inr ⟨.done ((Acts.single (.idle (fun hq => h (.inl hq)) waits waits)).trans (ackDrive_acts false _)),
      rfl⟩⟩

theorem execLineBusy_lined (s : State) : Lined s (execLineBusy s) := by
  unfold execLineBusy
  split
  · obtain ⟨t, h⟩ := plain_same (s := s)
    exact ⟨t, .inl h⟩
  · exact ⟨_, .inr ⟨.done ((Acts.single .busy).trans (ackDrive_acts false _)), rfl⟩⟩

theorem execFrameReceived_lined (bits : List Bool) (s : State) : Lined s (execFrameReceived bits s) := by
  unfold execFrameReceived
  split
  · obtain ⟨t, h⟩ := plain_same (s := s)
    exact ⟨t, .inl h⟩
  next h =>
  have busy : Acts s .none s { line := true } { s with link.line := .busy, link.ackDrive := false } :=
    (Acts.single .busy).trans (ackDrive_acts false _)
  dsimp only
  split
  · exact ⟨_, .inr ⟨.done busy, rfl⟩⟩
  split
  · split
    · exact ⟨_, .inr ⟨.done busy, rfl⟩⟩
    · exact ⟨_, .inr ⟨.done (busy.tail (.silence _ fun hq => h (.inl hq))), rfl⟩⟩
  · next f _ _ =>
    refine ⟨_, .inr ⟨.done (busy.trans (storeFrame_acts _ _)), ?_⟩⟩
    show (storeFrame f _).flow.reasons = s.flow.reasons
    unfold storeFrame
    split
    · rfl
    · split <;> rfl

theorem execArbitrationLoss_plain (bit : Nat) (s : State) : Plain s (execArbitrationLoss bit s) := by
  unfold execArbitrationLoss
  split
  · exact plain_same
  split
  · exact plain_same
  split
  · exact plain_done (txq_acts (dropSending_leaves _) rfl)
  · exact plain_done (txq_acts (stopSending_leaves _ _) rfl)

theorem execBitError_plain (bit : Nat) (s : State) : Plain s (execBitError bit s) := by
  unfold execBitError
  split
  · exact plain_same
  · next e he => exact plain_ite fun _ => failAttempt_acts (sends_of_sendingEntry he) rfl rfl

theorem execAcknowledgeSlot_plain (dominant : Bool) (s : State) : Plain s (execAcknowledgeSlot dominant s) := by
  unfold execAcknowledgeSlot
  split
  · exact plain_same
  next e he =>
  split
  · exact plain_same
  split
  · have dropped : Acts s .none s .none (setTxq (dropSending s.link.txq) s) := txq_acts (dropSending_leaves _) rfl
    dsimp only
    split
    · exact plain_done dropped
    split
    · exact plain_done ((dropped.trans (enterQuiet_acts (sends_of_sendingEntry he) (.inr rfl))).owe {})
    · exact plain_done (dropped.trans (completeFrame_acts _ _))
  · exact plain_done (failAttempt_acts (sends_of_sendingEntry he) rfl rfl)

/-! ### Frames -/

/-- A frame row in which the handled frame has its effect. -/
theorem plain_handled {k : Kind} {effect : Frame → State → Host.Outcome State Fault Refusal}
    (h : ∀ f s1, Handled s f s1 → ∃ u, Acts s .none s1 .none u ∧ effect f s1 = done u) :
    Plain s (match handleFrame k s with
      | none => .next s
      | some (f, s1) => effect f s1) := by
  cases hh : handleFrame k s with
  | none => exact plain_same
  | some p =>
    obtain ⟨f, s1⟩ := p
    have hd := handled hh
    obtain ⟨u, hu, he⟩ := h f s1 hd
    show Plain s (effect f s1)
    rw [he]
    exact plain_done ((hd.acts _).trans hu)

theorem execHold_plain (s : State) : Plain s (execHold s) := by
  unfold execHold
  cases ht : takeFrame .hold s with
  | none => exact plain_same
  | some p =>
    obtain ⟨f, s1⟩ := p
    obtain ⟨rest, ho, rfl⟩ := takeFrame_some ht
    dsimp only
    have hd := (handled_of_entry ho f.origin
      { (taken f rest s).peerEntry f.origin with holding := decide (payloadByte f.payload 0 ≠ 0) }).acts .none
    split
    · exact plain_done (hd.trans (answerOffers_acts _))
    · exact plain_done hd

theorem execStatus_plain (s : State) : Plain s (execStatus s) := by
  unfold execStatus
  cases ht : takeFrame .status s with
  | none => exact plain_same
  | some p =>
    obtain ⟨f, s1⟩ := p
    obtain ⟨rest, ho, rfl⟩ := takeFrame_some ht
    dsimp only
    have hd := (handled_of_entry ho f.origin (statusEntry f ((taken f rest s).peerEntry f.origin))).acts .none
    generalize handDownstream s.downstreamEntry
      ((taken f rest s).setPeerEntry f.origin (statusEntry f ((taken f rest s).peerEntry f.origin))) = u at hd ⊢
    have chained : Acts s .none u .none
        (if f.origin = u.downstream then evaluateChain (if statusRevives f s then revive u else u) else u) := by
      split
      · refine Acts.trans ?_ (evaluateChain_acts _)
        split
        · exact revive_acts u
        · exact .refl
      · exact .refl
    generalize (if f.origin = u.downstream then evaluateChain (if statusRevives f s then revive u else u) else u) = v
      at chained ⊢
    split
    · exact plain_done (hd.trans (chained.trans (drainTest_acts _)))
    · exact plain_done (hd.trans chained)

theorem execWalkPass_plain (s : State) : Plain s (execWalkPass s) := by
  unfold execWalkPass
  refine plain_handled (k := .walkPass) fun f s1 h => ?_
  split
  · next w _ =>
    split
    · exact ⟨_, peer_acts { s1.peer with walk := some { w with passOrigin := f.origin, passAdvance := 0 } } rfl, rfl⟩
    · exact ⟨_, .refl, rfl⟩
  · exact ⟨_, .refl, rfl⟩

theorem execWalkSeen_plain (s : State) : Plain s (execWalkSeen s) := by
  unfold execWalkSeen
  refine plain_handled (k := .walkSeen) fun f s1 h => ?_
  dsimp only
  split
  · exact ⟨_, .refl, rfl⟩
  split
  · exact ⟨_, queueEvent_acts _ _ _ _, rfl⟩
  split
  · exact ⟨_, .refl, rfl⟩
  split
  · exact ⟨_, setNeighbours_acts _ _, rfl⟩
  · exact ⟨_, (setNeighbours_acts _ _).trans (queueEvent_acts _ _ _ _), rfl⟩

theorem execEventReceived_plain (s : State) : Plain s (execEventReceived s) :=
  plain_handled (k := .event) fun _ _ _ => ⟨_, .refl, rfl⟩

theorem execReportReceived_plain (s : State) : Plain s (execReportReceived s) :=
  plain_handled (k := .report) fun _ _ _ => ⟨_, .refl, rfl⟩

theorem execOffer_ends (s : State) :
    ∃ e t, Ends s e (execOffer s) t
      ∧ (e = .none ∨ e = { answered := true } ∧ t.flow.reasons = s.flow.reasons) := by
  unfold execOffer
  cases hh : handleFrame .offer s with
  | none => obtain ⟨t, h⟩ := plain_same (s := s); exact ⟨_, t, h, .inl rfl⟩
  | some p =>
    obtain ⟨f, s1⟩ := p
    have hd := handled hh
    dsimp only
    split
    · next act =>
      have active : Active s1 := by
        simp only [actsOnFrame, Bool.and_eq_true] at act
        exact .inl act.1.1.1
      obtain ⟨e, ha, he⟩ := answerOffer_acts (s0 := s) (d := .none) f.origin active hd.mergeBound hd.heard hd.reasons rfl
      refine ⟨e, _, .done ((hd.acts _).trans ha), ?_⟩
      rcases he with rfl | ⟨rfl, hr⟩
      · exact .inl rfl
      · exact .inr ⟨rfl, hr⟩
    · exact ⟨_, _, .done (hd.acts _), .inl rfl⟩

theorem execTake_plain (s : State) : Plain s (execTake s) := by
  unfold execTake
  refine plain_handled (k := .take) fun f s1 h => ?_
  split
  · exact ⟨_, markTaken_acts _ _, rfl⟩
  · exact ⟨_, .refl, rfl⟩

theorem execPass_plain (s : State) : Plain s (execPass s) := by
  unfold execPass
  refine plain_handled (k := .pass) fun f s1 h => ?_
  split
  · next act =>
    have active : Active s1 := by
      simp only [actsOnFrame, Bool.and_eq_true] at act
      exact .inl act.1.1.1
    exact ⟨_, acceptPass_acts active h.mergeBound h.heard rfl, rfl⟩
  · exact ⟨_, .refl, rfl⟩

/-- A command frame's row. -/
theorem plain_command (k : Kind) (accepted : State → Bool) (effect : Frame → State → State)
    (h : ∀ f s1, Handled s f s1 → accepted s1 = true → Acts s .none s1 .none (effect f s1)) :
    Plain s (takeCommand k accepted effect s) := by
  rcases takeCommand_cases k accepted effect s with he | ⟨f, s1, hd, ⟨r, he⟩ | ⟨ha, he⟩⟩ <;> rw [he]
  · exact plain_same
  · exact plain_done ((hd.acts _).trans (refuseCommand_acts _ _ _))
  · exact plain_done ((hd.acts _).trans (h f s1 hd ha))

theorem execProfile_plain (s : State) : Plain s (execProfile s) :=
  plain_command _ _ _ fun f s1 _ _ => storeItem_acts f s1

theorem execProfileEnd_plain (s : State) : Plain s (execProfileEnd s) :=
  plain_command _ _ _ fun _ _ h _ => endProfile_acts h.reasons rfl

theorem execWalkStart_plain (s : State) : Plain s (execWalkStart s) :=
  plain_command _ _ _ fun f _ _ ha => startWalk_acts f (by simpa using ha)

theorem execWalkEnd_plain (s : State) : Plain s (execWalkEnd s) :=
  plain_command _ _ _ fun f _ _ ha => endWalk_acts f (by simpa using ha)

theorem execRun_plain (s : State) : Plain s (execRun s) := by
  refine plain_command _ _ _ fun _ s1 _ ha => ?_
  have mode : s1.mode = .ready ∨ s1.mode = .draining := by simpa using ha
  exact enterState_acts (.inr (by rcases mode with h | h <;> rw [h] <;> nofun))
    (by rcases mode with h | h <;> rw [h] <;> nofun) nofun nofun

theorem execStop_plain (s : State) : Plain s (execStop s) := by
  refine plain_command _ _ _ fun _ s1 _ ha => ?_
  have mode : s1.mode = .running := by simpa using ha
  exact (enterState_acts (m := .draining) (.inr (by rw [mode]; nofun)) (by rw [mode]; nofun) nofun nofun).trans
    (drainTest_acts _)

theorem execLot_plain (s : State) : Plain s (execLot s) := by
  refine plain_command _ _ _ fun f s1 _ ha => changeLot_acts f (.inr fun h => ?_)
  rw [h] at ha
  simp [lotState] at ha

theorem execFaultClear_plain (s : State) : Plain s (execFaultClear s) :=
  plain_command _ _ _ fun f _ _ ha => clearFault_acts f (by simpa using ha)

theorem execRestart_plain (s : State) : Plain s (execRestart s) := by
  refine plain_command _ _ _ fun f s1 hd ha => lineRestart_acts f (.inr fun h => ?_) (fun h => ?_) hd.reasons
  · rw [h] at ha
    simp [restartState] at ha
  · rw [h] at ha
    simp [restartState] at ha

theorem execReportAsk_plain (s : State) : Plain s (execReportAsk s) :=
  plain_command _ _ _ fun f s1 _ _ => answerReport_acts f s1

/-! ### Timers and deadlines -/

theorem execStatusTimerExpiry_plain (s : State) : Plain s (execStatusTimerExpiry s) := by
  unfold execStatusTimerExpiry
  split
  · exact plain_same
  · next t _ =>
    exact plain_ite fun _ =>
      (peer_acts { s.peer with statusTimer := some { t with due := t.due + t.period } } rfl).trans (queueStatus_acts _)

theorem execPeerStale_plain (node : Nat) (s : State) : Plain s (execPeerStale node s) := by
  unfold execPeerStale
  dsimp only
  split
  · have handed : Acts s .none s .none (handDownstream s.downstreamEntry
        (s.setPeerEntry node { s.peerEntry node with stale := true })) :=
      (setPeerEntry_acts _ _ s).trans (handDownstream_acts _ _)
    split
    · exact plain_done (handed.trans (drainTest_acts _))
    · exact plain_done handed
  · exact plain_same

theorem execSampleExpiry_plain (t0 t1 t2 t3 : Int) (s : State) : Plain s (execSampleExpiry t0 t1 t2 t3 s) := by
  unfold execSampleExpiry
  split
  · exact plain_same
  · exact plain_ite fun _ => Acts.trans (.single (.dose _)) (sampleExpires_acts _ _)

theorem execThrottleStep_plain (s : State) : Plain s (execThrottleStep s) := plain_ite fun _ => stepThrottle_acts s

theorem execOfferReplyExpiry_plain (t : Tag) (s : State) : Plain s (execOfferReplyExpiry t s) := by
  unfold execOfferReplyExpiry
  split
  · exact plain_same
  · next r _ => exact plain_ite fun _ => expireReply_acts t r s

theorem execReservationExpiry_plain (t : Tag) (s : State) : Plain s (execReservationExpiry t s) := by
  unfold execReservationExpiry
  split
  · exact plain_same
  · refine plain_ite fun h => ?_
    have dropped := (dropArrival_acts (s0 := s) (d := .none) t s).trans (counter_acts .reserveExpired nofun _)
    exact (dropped.trans (zoneChanged_acts s.counts (active_of_and (s := s) h))).owe {}

theorem execDeferralExpiry_plain (i : LimiterId) (s : State) : Plain s (execDeferralExpiry i s) := by
  unfold execDeferralExpiry
  split
  · exact plain_same
  · next t ht => exact plain_ite fun _ => Acts.trans (.single (.expire i t ht)) (useGrant_acts i t _)

theorem execDoorCycleCompletion_plain (s : State) : Plain s (execDoorCycleCompletion s) := by
  unfold execDoorCycleCompletion
  split
  · next e c rest _ hl =>
    exact plain_ite fun _ => ((storeCarrier_acts c hl).trans (doorTest_acts _)).owe {}
  · exact plain_same

theorem execDefrostIntervalExpiry_plain (s : State) : Plain s (execDefrostIntervalExpiry s) :=
  plain_ite fun _ => Acts.trans (.single (.defrost 0 s.defrost.overdueStay s.defrost.want)) (intervalExpires_acts _)

theorem execDefrostCompletion_ends (s : State) :
    ∃ b t, Ends s { lowered := b } (execDefrostCompletion s) t := by
  unfold execDefrostCompletion
  split
  · obtain ⟨t, h⟩ := plain_same (s := s); exact ⟨false, t, h⟩
  split
  · have completed := (completeCycle_acts (s0 := s) (d := {}) (s := s) rfl).trans (startDueCycle_acts _)
    exact ⟨true, _, .done ((completed.trans ((refreshReasons_acts _).trans (queueStatus_acts _))).owe {})⟩
  · obtain ⟨t, h⟩ := plain_same (s := s); exact ⟨false, t, h⟩

theorem execTimeBaseTick_plain (b : MsBase) (s : State) : Plain s (execTimeBaseTick b s) := by
  unfold execTimeBaseTick
  split
  · exact plain_same
  split
  · exact plain_same
  · refine plain_done (Acts.trans ?_ (baseTakes_acts _ _ _ _))
    cases b <;> exact .single (.channels _)

theorem execOneShotTick_plain (channel : Nat) (s : State) : Plain s (execOneShotTick channel s) := by
  unfold execOneShotTick
  split
  · exact plain_same
  · exact plain_done (mapChannels_acts _ s)

theorem execFaultInputInactive_plain (s : State) : Plain s (execFaultInputInactive s) :=
  ⟨_, .next (pins_acts false s.encoder s .none s) _ _ s.tracking.reverseDebt rfl⟩

end Sys2Proof.Changes

/-! PROOFS. What every command comes to, and what follows of the station's identity, the debt and the line. -/

namespace Sys2Proof.Changes

open Sys2Proof Sys2Proof.Machine Sys2Proof.Safety Sys2Proof.Laws

/-- A command `c` from `s` to `t` that has made its changes leaves nothing owed, and does only what its own row says of
the line, of the debt, of tags and of the answer to an OFFER. -/
structure Meant (c : Instr) (s t : State) (e : Owed) : Prop where
  reasons : e.reasons = false
  level : e.level = false
  status : e.status = false
  hold : e.hold = false
  door : e.door = false
  accepting : e.accepting = false
  tags : e.tags = []
  line : e.line = true → (c = .transmitStart ∨ c = .lineBusy ∨ ∃ bits, c = .frameReceived bits)
    ∧ t.flow.reasons = s.flow.reasons
  lowered : e.lowered = true → c = .defrostCompletion
  answered : e.answered = true → t.flow.reasons = s.flow.reasons
  issued : s.tracking.zone.length ≤ 24 → e.issued ≤ 49

theorem meant_none (c : Instr) (s t : State) : Meant c s t .none :=
  ⟨rfl, rfl, rfl, rfl, rfl, rfl, rfl, nofun, nofun, nofun, fun _ => Nat.zero_le _⟩

theorem meant_line {c : Instr} {s t : State} (hc : c = .transmitStart ∨ c = .lineBusy ∨ ∃ bits, c = .frameReceived bits)
    (h : t.flow.reasons = s.flow.reasons) : Meant c s t { line := true } :=
  ⟨rfl, rfl, rfl, rfl, rfl, rfl, rfl, fun _ => ⟨hc, h⟩, nofun, nofun, fun _ => Nat.zero_le _⟩

/-- Every command but FULL_RESET is a row of changes. -/
theorem exec_ends {c : Instr} (s : State) (hc : ∀ n r, c ≠ .fullReset n r) :
    ∃ e t, Ends s e (exec c s) t ∧ Meant c s t e := by
  have plain : Plain s (exec c s) → ∃ e t, Ends s e (exec c s) t ∧ Meant c s t e :=
    fun ⟨t, h⟩ => ⟨_, t, h, meant_none c s t⟩
  have lined : (c = .transmitStart ∨ c = .lineBusy ∨ ∃ bits, c = .frameReceived bits) → Lined s (exec c s) →
      ∃ e t, Ends s e (exec c s) t ∧ Meant c s t e := by
    rintro hc ⟨t, h | ⟨h, hr⟩⟩
    · exact ⟨_, t, h, meant_none c s t⟩
    · exact ⟨_, t, h, meant_line hc hr⟩
  cases c with
  | fullReset n r => exact absurd rfl (hc n r)
  | faultInput => exact plain (execFaultInput_plain s)
  | forwardCount on =>
    obtain ⟨n, t, h, few⟩ := execForwardCount_ends on s
    exact ⟨_, t, h, rfl, rfl, rfl, rfl, rfl, rfl, rfl, nofun, nofun, nofun, few⟩
  | reverseCount => exact plain (execReverseCount_plain s)
  | gapClose => exact plain (execGapClose_plain s)
  | lengthClose => exact plain (execLengthClose_plain s)
  | arrivalAtT => exact plain (execArrivalAtT_plain s)
  | walkPassQueued => exact plain (execWalkPassQueued_plain s)
  | gapRunEnd => exact plain (execGapRunEnd_plain s)
  | transmitStart => exact lined (.inl rfl) (execTransmitStart_lined s)
  | arbitrationLoss bit => exact plain (execArbitrationLoss_plain bit s)
  | bitError bit => exact plain (execBitError_plain bit s)
  | acknowledgeSlot dominant => exact plain (execAcknowledgeSlot_plain dominant s)
  | frameReceived bits => exact lined (.inr (.inr ⟨bits, rfl⟩)) (execFrameReceived_lined bits s)
  | hold => exact plain (execHold_plain s)
  | status => exact plain (execStatus_plain s)
  | walkPass => exact plain (execWalkPass_plain s)
  | walkSeen => exact plain (execWalkSeen_plain s)
  | offer =>
    obtain ⟨e, t, h, rfl | ⟨rfl, hr⟩⟩ := execOffer_ends s
    · exact ⟨_, t, h, meant_none _ s t⟩
    · exact ⟨_, t, h, rfl, rfl, rfl, rfl, rfl, rfl, rfl, nofun, nofun, fun _ => hr, fun _ => Nat.zero_le _⟩
  | take => exact plain (execTake_plain s)
  | pass => exact plain (execPass_plain s)
  | profile => exact plain (execProfile_plain s)
  | profileEnd => exact plain (execProfileEnd_plain s)
  | walkStart => exact plain (execWalkStart_plain s)
  | walkEnd => exact plain (execWalkEnd_plain s)
  | run => exact plain (execRun_plain s)
  | stop => exact plain (execStop_plain s)
  | lot => exact plain (execLot_plain s)
  | faultClear => exact plain (execFaultClear_plain s)
  | restart => exact plain (execRestart_plain s)
  | reportAsk => exact plain (execReportAsk_plain s)
  | eventReceived => exact plain (execEventReceived_plain s)
  | reportReceived => exact plain (execReportReceived_plain s)
  | statusTimerExpiry => exact plain (execStatusTimerExpiry_plain s)
  | peerStale node => exact plain (execPeerStale_plain node s)
  | sampleExpiry t0 t1 t2 t3 => exact plain (execSampleExpiry_plain t0 t1 t2 t3 s)
  | throttleStep => exact plain (execThrottleStep_plain s)
  | offerReplyExpiry t => exact plain (execOfferReplyExpiry_plain t s)
  | reservationExpiry t => exact plain (execReservationExpiry_plain t s)
  | deferralExpiry i => exact plain (execDeferralExpiry_plain i s)
  | doorCycleCompletion => exact plain (execDoorCycleCompletion_plain s)
  | defrostIntervalExpiry => exact plain (execDefrostIntervalExpiry_plain s)
  | defrostCompletion =>
    obtain ⟨b, t, h⟩ := execDefrostCompletion_ends s
    exact ⟨_, t, h, rfl, rfl, rfl, rfl, rfl, rfl, rfl, nofun, fun _ => rfl, nofun, fun _ => Nat.zero_le _⟩
  | timeBaseTick b => exact plain (execTimeBaseTick_plain b s)
  | oneShotTick ch => exact plain (execOneShotTick_plain ch s)
  | faultInputInactive => exact plain (execFaultInputInactive_plain s)
  | lineBusy => exact lined (.inr (.inl rfl)) (execLineBusy_lined s)

/-- The state that a command leaves, from the state in which its changes have ended. -/
inductive Settled (s u : State) : State → Prop
  | outputs : Settled s u (settle u)
  | none (i : Bool) (p : EncoderPair) (r : Nat) (eq : u = { s with faultIn := i, encoder := p, tracking.reverseDebt := r }) :
      Settled s u u

/-- What a command leaves. -/
theorem next_acts {c : Instr} {s t : State} (h : Next c s t) (hc : ∀ n r, c ≠ .fullReset n r) :
    ∃ e u, Acts s .none s e u ∧ Settled s u t ∧ Meant c s t e := by
  obtain ⟨e, t', he, hm⟩ := exec_ends s hc
  unfold Next at h
  rw [h] at he
  generalize ho : Host.Outcome.next t = o at he
  cases he with
  | @done u ha =>
    obtain rfl := Host.Outcome.next.inj ho
    exact ⟨e, u, ha, .outputs, hm⟩
  | next ha i p r eq =>
    obtain rfl := Host.Outcome.next.inj ho
    exact ⟨e, _, ha, .none i p r eq, hm⟩

/-- The settling writes the transmit queue, the line and the outputs alone. -/
theorem Settled.eq {s u t : State} (h : Settled s u t) :
    t = { u with link := t.link, channels := t.channels } := by
  cases h <;> rfl

/-! ### The station's identity (R2, R22) -/

/-- What the changes of a command that began in `s0` keep of the station's identity. -/
structure SameStation (s0 : State) (s : State) : Prop where
  mode : s.mode = .joining → s0.mode = .joining
  number : s.station.number = s0.station.number
  rate : s.station.rateCode = s0.station.rateCode
  frozen : (s0.mode = .joining → s0.station.frozen = none) → ∀ p, s0.station.frozen = some p → s.station.frozen = some p

variable {s0 : State} {d : Owed}

theorem sameStation_of {s t : State} (k : SameStation s0 s) (hm : t.mode = s.mode) (hs : t.station = s.station) :
    SameStation s0 t :=
  ⟨hm ▸ k.mode, hs ▸ k.number, hs ▸ k.rate, hs ▸ k.frozen⟩

theorem sameStation_of_framesQueued {s t : State} (h : FramesQueued s t) (k : SameStation s0 s) : SameStation s0 t :=
  sameStation_of k (framesQueued_mode h) (blocksResponded_station (framesQueued_blocks h))

theorem Act.sameStation {e : Owed} {s t : State} (h : Act s0 d s e t) (k : SameStation s0 s) : SameStation s0 t := by
  cases h with
  | frame f _ _ _ => exact sameStation_of_framesQueued (queueFrame_framesQueued f s) k
  | statusFrame => exact sameStation_of_framesQueued (queueStatus_framesQueued s) k
  | holdFrame => exact sameStation_of_framesQueued (queueHold_framesQueued s) k
  | holdAnswer => exact sameStation_of_framesQueued (queueFrame_framesQueued _ s) k
  | loss n e => exact sameStation_of_framesQueued (settleLoss_framesQueued n e s) k
  | grant i | defer i | withdraw i | expire i => cases i <;> exact sameStation_of k rfl rfl
  | freeze n mode =>
    refine ⟨k.mode, k.number, k.rate, fun h p hp => ?_⟩
    rw [h (k.mode mode)] at hp
    nomatch hp
  | mode m _ _ joining => exact ⟨fun h => absurd h joining, k.number, k.rate, k.frozen⟩
  | quiet => exact ⟨nofun, k.number, k.rate, k.frozen⟩
  | latch | items => exact ⟨k.mode, k.number, k.rate, k.frozen⟩
  | _ => exact sameStation_of k rfl rfl

theorem sameStation_refl (s : State) : SameStation s s := ⟨id, rfl, rfl, fun _ _ h => h⟩

theorem Acts.sameStation {e : Owed} {s : State} (h : Acts s0 .none s0 e s) : SameStation s0 s :=
  h.keeps (P := fun _ s => SameStation s0 s) Act.sameStation (sameStation_refl s0)

/-- Settles O7: every change of a command keeps number, rate and profile but the freeze of a pending profile, which is a
JOINING station's. -/
theorem identityKept : Obligations.IdentityKept := by
  intro c s t joining hc h
  obtain ⟨e, u, ha, ht, -⟩ := next_acts h hc
  rw [ht.eq]
  exact ⟨ha.sameStation.number, ha.sameStation.rate, ha.sameStation.frozen joining⟩

/-! ### The debt (R145) -/

/-- What the changes of a command that began in `s0`, with a profile held, leave of the debt. -/
structure DebtKept (s0 : State) (d : Owed) (s : State) : Prop where
  mode : s.mode = .joining → s0.mode = .joining
  kept : d.lowered = false → s0.defrost.debt ≤ s.defrost.debt
  lowered : s0.defrost.debt ≤ s.defrost.debt + 1

theorem debtKept_of {e : Owed} {s t : State} (k : DebtKept s0 d s) (hl : e.lowered = d.lowered) (hm : t.mode = s.mode)
    (hd : t.defrost.debt = s.defrost.debt) : DebtKept s0 e t :=
  ⟨hm ▸ k.mode, hl ▸ hd ▸ k.kept, hd ▸ k.lowered⟩

theorem debtKept_of_framesQueued {e : Owed} {s t : State} (h : FramesQueued s t) (hl : e.lowered = d.lowered)
    (k : DebtKept s0 d s) : DebtKept s0 e t :=
  debtKept_of k hl (framesQueued_mode h) (by rw [h.1]; rfl)

theorem Act.debtKept {e : Owed} {s t : State} (joining : s0.mode ≠ .joining) (h : Act s0 d s e t) (k : DebtKept s0 d s) :
    DebtKept s0 e t := by
  cases h with
  | owe l =>
    refine ⟨k.mode, fun he => k.kept ?_, k.lowered⟩
    by_contra hd
    rw [l.lowered (by simpa using hd)] at he
    nomatch he
  | frame f _ _ _ => exact debtKept_of_framesQueued (queueFrame_framesQueued f s) rfl k
  | statusFrame => exact debtKept_of_framesQueued (queueStatus_framesQueued s) (d := d) rfl k
  | holdFrame => exact debtKept_of_framesQueued (queueHold_framesQueued s) (d := d) rfl k
  | holdAnswer => exact debtKept_of_framesQueued (queueFrame_framesQueued _ s) (d := d) rfl k
  | loss n e => exact debtKept_of_framesQueued (settleLoss_framesQueued n e s) rfl k
  | grant i | defer i | withdraw i | expire i => cases i <;> exact debtKept_of k rfl rfl rfl
  | freeze n mode => exact absurd (k.mode mode) joining
  | mode m _ _ hj => exact ⟨fun h => absurd h hj, k.kept, k.lowered⟩
  | quiet => exact ⟨nofun, k.kept, k.lowered⟩
  | debtUp => exact ⟨k.mode, fun h => (k.kept h).trans (Nat.le_succ _), k.lowered.trans (Nat.le_succ _)⟩
  | debtDown h =>
    have := k.kept h
    exact ⟨k.mode, nofun, by show _ ≤ s.defrost.debt - 1 + 1; omega⟩
  | _ => exact debtKept_of k rfl rfl rfl

/-- Settles O8: one change lowers the debt, the completion's, and it is made once. -/
theorem onlyCompletionLowersDebt : Obligations.OnlyCompletionLowersDebt := by
  intro c s t joining hc h profile less
  obtain ⟨e, u, ha, ht, hm⟩ := next_acts h hc
  have notJoining : s.mode ≠ .joining := fun hj => by
    unfold State.hasProfile at profile
    rw [joining hj] at profile
    nomatch profile
  have kept := ha.keeps (P := DebtKept s) (Act.debtKept notJoining) ⟨id, fun _ => le_rfl, Nat.le_succ _⟩
  have debt : t.defrost.debt = u.defrost.debt := by rw [ht.eq]
  rw [debt] at less ⊢
  have lowered : e.lowered = true := by
    by_contra hl
    exact absurd (kept.kept (Bool.eq_false_iff.2 hl)) (Nat.not_le.2 less)
  exact ⟨hm.lowered lowered, Nat.le_antisymm less kept.lowered⟩

end Sys2Proof.Changes

/-! PROOFS. What the transmit queue keeps of what a command leaves in it (R24, R31, R39 to R41). -/

namespace Sys2Proof.Changes

open Sys2Proof Sys2Proof.Machine Sys2Proof.Safety Sys2Proof.Laws

variable {s0 : State} {d : Owed}

/-! ### Handing a frame to the link controller -/

/-- A lost entry's event hands OFFERs of records to the link controller and writes handover states. -/
theorem settleLoss_induction {I : State → Prop} (hand : ∀ s t h n, I s → I (setHandover t h n s))
    (offer : ∀ s r, I s → I (enqueue (offerFrame r s) s).1) : ∀ n e s, I s → I (settleLoss n e s) := by
  intro n
  induction n with
  | zero => exact fun _ _ h => h
  | succ n ih =>
    intro e s h
    unfold settleLoss
    split
    · exact h
    dsimp only
    split
    · exact h
    next r _ =>
    split
    · exact h
    have handed := hand s (imageOf e.frame.payload).tag (nextOffer s r).1.handover (nextOffer s r).1.attempts h
    split
    · have offered := offer _ (nextOffer s r).1 handed
      split
      · next s2 he => rw [he] at offered; exact offered
      · next s2 e' he => rw [he] at offered; exact ih e' s2 offered
    · exact handed

theorem queueFrame_induction {I : State → Prop} {f : Frame} {s : State}
    (hand : ∀ s t h n, I s → I (setHandover t h n s)) (offer : ∀ s r, I s → I (enqueue (offerFrame r s) s).1)
    (first : I (enqueue f s).1) : I (queueFrame f s) := by
  unfold queueFrame
  split
  · next s1 h => rw [h] at first; exact first
  · next s1 e h => rw [h] at first; exact settleLoss_induction hand offer 4 e s1 first

/-- A queue of 8 entries without its last waiting one. -/
theorem dropLastWaiting_sublist (q : List TxEntry) : (dropLastWaiting q).Sublist q := by
  unfold dropLastWaiting
  have := List.reverse_sublist.2 (List.eraseP_sublist (p := fun e : TxEntry => !e.sending) (l := q.reverse))
  rwa [List.reverse_reverse] at this

theorem insertEntry_perm (e : TxEntry) (q : List TxEntry) : (insertEntry e q).Perm (e :: q) := by
  induction q with
  | nil => exact .refl _
  | cons x q ih =>
    unfold insertEntry
    split
    · exact .refl _
    · exact (ih.cons x).trans (.swap _ _ _)

theorem mem_insertEntry {e x : TxEntry} {q : List TxEntry} : x ∈ insertEntry e q ↔ x = e ∨ x ∈ q := by
  rw [(insertEntry_perm e q).mem_iff, List.mem_cons]

/-- What the link controller does with a frame: discards it, merges it, takes it, takes it in the place of the last
waiting entry, or loses it (R15, R39 to R42). -/
theorem enqueue_cases (f : Frame) (s : State) :
    (enqueue f s).1 = s ∧ (s.mode = .quiet ∨ s.link.silencing = true)
      ∨ (s.mode ≠ .quiet ∧ s.link.silencing = false)
        ∧ ((mergingKind f.kind && kindWaits f.kind s.link.txq) = true
              ∧ (enqueue f s).1 = { s with link.txq := replaceWaiting f s.link.txq }
            ∨ s.link.txq.length < 8
              ∧ (enqueue f s).1 = { s with link.txq := insertEntry ⟨f, 0, false, false⟩ s.link.txq }
            ∨ (∃ e, lastWaiting s.link.txq = some e ∧ kindClass f.kind < kindClass e.frame.kind ∧ 8 ≤ s.link.txq.length
              ∧ (enqueue f s).1 = count .txDrop
                  { s with link.txq := insertEntry ⟨f, 0, false, false⟩ (dropLastWaiting s.link.txq) })
            ∨ (∀ e, lastWaiting s.link.txq = some e → kindClass e.frame.kind ≤ kindClass f.kind)
              ∧ (enqueue f s).1 = count .txDrop s) := by
  unfold enqueue
  split
  · next h => exact .inl ⟨rfl, h⟩
  next h =>
  refine .inr ⟨⟨fun hq => h (.inl hq), by simpa using fun hs => h (.inr hs)⟩, ?_⟩
  split
  · next hm => exact .inl ⟨hm, rfl⟩
  split
  · next room => exact .inr (.inl ⟨room, rfl⟩)
  next full =>
  split
  · next e he =>
    split
    · next less => exact .inr (.inr (.inl ⟨e, he, less, by omega, rfl⟩))
    · next le =>
      refine .inr (.inr (.inr ⟨fun x hx => ?_, rfl⟩))
      obtain rfl := Option.some.inj (he.symm.trans hx)
      exact Nat.le_of_not_lt le
  · next he => exact .inr (.inr (.inr ⟨fun x hx => absurd (he.symm.trans hx) nofun, rfl⟩))

/-- What every entry of the queue has, where a new entry has it and a newer frame leaves it, the controller keeps. -/
theorem enqueue_entries {Q : TxEntry → Prop} {f : Frame} (new : Q ⟨f, 0, false, false⟩)
    (newer : ∀ e, e.frame.kind = f.kind → Q e → Q { e with frame := f }) {s : State} (h : ∀ e ∈ s.link.txq, Q e) :
    ∀ e ∈ (enqueue f s).1.link.txq, Q e := by
  rcases enqueue_cases f s with ⟨he, _⟩ | ⟨_, ⟨_, he⟩ | ⟨_, he⟩ | ⟨e, _, _, _, he⟩ | ⟨_, he⟩⟩ <;> rw [he]
  · exact h
  · intro e hm
    obtain ⟨x, hx, rfl⟩ := List.mem_map.1 hm
    split
    · next hk => exact newer x hk.1 (h x hx)
    · exact h x hx
  · intro e hm
    rcases mem_insertEntry.1 hm with rfl | hm
    · exact new
    · exact h e hm
  · intro x hm
    rcases mem_insertEntry.1 hm with rfl | hm
    · exact new
    · exact h x ((dropLastWaiting_sublist _).subset hm)
  · exact h

theorem enqueue_line (f : Frame) (s : State) : (enqueue f s).1.link.line = s.link.line := by
  rcases enqueue_cases f s with ⟨he, _⟩ | ⟨_, ⟨_, he⟩ | ⟨_, he⟩ | ⟨e, _, _, _, he⟩ | ⟨_, he⟩⟩ <;> rw [he] <;> rfl

theorem enqueue_mode (f : Frame) (s : State) : (enqueue f s).1.mode = s.mode :=
  framesQueued_mode (enqueue_framesQueued f s)

/-! ### The frames that a command leaves on an IDLE line (R24, R31) -/

/-- The queue of a command that began in `s0` on an IDLE line, with no frame, and has not written the line condition. -/
structure OnIdleLine (s0 : State) (s : State) : Prop where
  line : s.link.line = .idle
  waiting : ∀ e ∈ s.link.txq, e.sending = false ∧ e.attempts = 0
  quiet : s.mode = .quiet → s.link.txq = []

theorem onIdleLine_of {s t : State} (k : OnIdleLine s0 s) (hl : t.link.line = s.link.line) (hq : t.link.txq = s.link.txq)
    (hm : t.mode = s.mode) : OnIdleLine s0 t :=
  ⟨hl.trans k.line, hq ▸ k.waiting, hq ▸ hm ▸ k.quiet⟩

theorem enqueue_onIdleLine (f : Frame) {s : State} (k : OnIdleLine s0 s) : OnIdleLine s0 (enqueue f s).1 where
  line := (enqueue_line f s).trans k.line
  waiting := enqueue_entries (Q := fun e => e.sending = false ∧ e.attempts = 0) ⟨rfl, rfl⟩ (fun _ _ h => h) k.waiting
  quiet h := by
    have quiet := (enqueue_mode f s).symm.trans h
    unfold enqueue
    rw [if_pos (.inl quiet)]
    exact k.quiet quiet

theorem queueFrame_onIdleLine (f : Frame) {s : State} (k : OnIdleLine s0 s) : OnIdleLine s0 (queueFrame f s) :=
  queueFrame_induction (fun _ _ _ _ k => onIdleLine_of k rfl rfl rfl) (fun _ _ k => enqueue_onIdleLine _ k)
    (enqueue_onIdleLine f k)

theorem queueHold_onIdleLine {s : State} (k : OnIdleLine s0 s) : OnIdleLine s0 (queueHold s) := by
  unfold queueHold
  split
  · exact k
  · exact queueFrame_onIdleLine _ k

theorem Act.onIdleLine {e : Owed} {s t : State} (none : s0.link.txq = []) (h : Act s0 d s e t)
    (k : d.line = false → OnIdleLine s0 s) (hl : e.line = false) : OnIdleLine s0 t := by
  cases h with
  | owe l => exact k (by by_contra hd; rw [l.line (by simpa using hd)] at hl; nomatch hl)
  | frame f _ _ _ => exact queueFrame_onIdleLine f (k hl)
  | statusFrame => exact queueFrame_onIdleLine _ (k hl)
  | holdFrame => exact queueHold_onIdleLine (k hl)
  | holdAnswer => exact queueFrame_onIdleLine _ (k hl)
  | loss n e =>
    exact settleLoss_induction (fun _ _ _ _ k => onIdleLine_of k rfl rfl rfl) (fun _ _ k => enqueue_onIdleLine _ k) n e s
      (k hl)
  | grant i | defer i | withdraw i | expire i => cases i <;> exact onIdleLine_of (k hl) rfl rfl rfl
  | txq q leaves =>
    have := k hl
    refine ⟨this.line, fun e he => ?_, fun hq => ?_⟩
    · exact this.waiting e (leaves.waiting (fun x hx => (this.waiting x hx).1) e he)
    · have := leaves.length
      rw [(k hl).quiet hq] at this
      exact List.length_eq_zero_iff.1 (Nat.le_zero.1 this)
  | silence | busy | idle => nomatch hl
  | mode m _ _ _ quiet => exact ⟨(k hl).line, (k hl).waiting, fun h => absurd h quiet⟩
  | quiet sends =>
    obtain ⟨e, he, _⟩ := sends
    rw [none] at he
    nomatch he
  | _ => exact onIdleLine_of (k hl) rfl rfl rfl

/-- On an IDLE line with an empty queue no command but a FRAME_RECEIVED changes the line and leaves frames too. -/
theorem line_of_idle {c : Instr} {s t : State} (h : Next c s t)
    (hc : c = .transmitStart ∨ c = .lineBusy) (none : s.link.txq = []) : t.link.txq = [] := by
  rcases hc with rfl | rfl
  · replace h : execTransmitStart s = .next t := h
    unfold execTransmitStart at h
    split at h
    · rw [← Host.Outcome.next.inj h]; exact none
    · next hq =>
      rw [← Host.Outcome.next.inj h]
      refine (settle_txq (by exact fun hm => hq (.inl hm))).trans ?_
      show onLine _ s.link.txq = []
      rw [none]; rfl
  · replace h : execLineBusy s = .next t := h
    unfold execLineBusy at h
    split at h
    · rw [← Host.Outcome.next.inj h]; exact none
    · next hq =>
      rw [← Host.Outcome.next.inj h]
      refine (settle_txq (by exact fun hm => hq (.inl hm))).trans ?_
      show onLine _ s.link.txq = []
      rw [none]; rfl

/-- Settles O23: the six rows, of which the last is what `OnIdleLine` and the settling of the line come to. -/
theorem lineConditions : Obligations.LineConditions := by
  refine ⟨fun s e q mode hq waits => ?_, fun s mode hq => ?_, fun s sends => ?_, fun s mode line => ?_, fun s line => ?_, ?_⟩
  · have none : sendingEntry s.link.txq = none := List.find?_eq_none.2 fun x hx => by rw [waits x hx]; nofun
    show execTransmitStart s = _
    unfold execTransmitStart
    rw [if_neg (by rw [none]; simpa using mode)]
    unfold done settle settleLine
    rw [if_neg mode, startIfIdle, if_pos ⟨rfl, by rw [none]; rfl⟩, startHead, hq]
  · show execTransmitStart s = _
    unfold execTransmitStart
    rw [if_neg (by rw [hq]; simpa [sendingEntry] using mode)]
    unfold done settle settleLine
    rw [if_neg mode, startIfIdle, if_pos ⟨rfl, by rw [hq]; rfl⟩, startHead, hq]
  · obtain ⟨x, hx, hs⟩ := sends
    show execTransmitStart s = _
    unfold execTransmitStart
    rw [if_pos (.inr (List.find?_isSome.2 ⟨x, hx, hs⟩))]
  · show execLineBusy s = _
    unfold execLineBusy
    rw [if_neg (by rw [line]; simpa using mode)]
    unfold done settle settleLine
    rw [if_neg mode, startIfIdle, if_neg (fun h => nomatch h.1)]
  · show execLineBusy s = _
    unfold execLineBusy
    rw [if_pos (.inr line)]
  · intro c s t hc hf h idle none some
    obtain ⟨e, u, ha, ht, hm⟩ := next_acts h hc
    have line : e.line = false := by
      by_contra hl
      rcases (hm.line (by simpa using hl)).1 with hcl | hcl | ⟨bits, hcl⟩
      · exact some (line_of_idle h (.inl hcl) none)
      · exact some (line_of_idle h (.inr hcl) none)
      · exact hf bits hcl
    have kept : OnIdleLine s u := ha.keeps (P := fun d s' => d.line = false → OnIdleLine s s')
      (fun a k => a.onIdleLine none k) (fun _ => ⟨idle, by rw [none]; nofun, fun _ => none⟩) line
    cases ht with
    | none i p r eq => subst eq; exact absurd none some
    | outputs =>
      have awake : u.mode ≠ .quiet := fun hq => some (by
        show (settleLine u).link.txq = []
        unfold settleLine
        rw [if_pos hq]; exact kept.quiet hq)
      have waits : sendingEntry u.link.txq = Option.none :=
        List.find?_eq_none.2 fun x hx => by rw [(kept.waiting x hx).1]; nofun
      have link : (settle u).link = startHead u.link := by
        show (settleLine u).link = _
        unfold settleLine
        rw [if_neg awake, startIfIdle, if_pos ⟨kept.line, by rw [waits]; rfl⟩]
      rw [link] at some ⊢
      unfold startHead at some ⊢
      split at some
      · next hq => exact absurd hq some
      · next x rest hq =>
        have all := kept.waiting
        rw [hq] at all
        exact ⟨rfl, _, rest, rfl, rfl, (all x List.mem_cons_self).2,
          fun y hy => (all y (List.mem_cons_of_mem _ hy)).1⟩

end Sys2Proof.Changes

/-! PROOFS. What the four stages grant of a profile that passes them (R18 to R21). -/

namespace Sys2Proof.Stages

open Sys2Proof Sys2Proof.Machine Sys2Proof.Safety Sys2Proof.Laws

/-- What the stages test, item by item: the items that must be held, the range of each held item, and the checks
between items. -/
structure Passes (p : Profile) : Prop where
  held : ∀ n, 1 ≤ n → n ≤ 77 → itemRequired p n = true → itemHeld p n = true
  probes : probeRangeMissing p = false
  ranges : ∀ n, itemHeld p n = true → itemInRange p n = true
  checks : ∀ n, 1 ≤ n → n ≤ 77 → crossCheck p n = true

theorem mem_items {n : Nat} : n ∈ (List.range 77).map (· + 1) ↔ 1 ≤ n ∧ n ≤ 77 := by
  rw [List.mem_map]
  constructor
  · rintro ⟨m, hm, rfl⟩
    rw [List.mem_range] at hm
    omega
  · rintro ⟨h1, h2⟩
    exact ⟨n - 1, List.mem_range.2 (by omega), by omega⟩

/-- An item is held where the profile has a value under its number. -/
theorem itemHeld_iff {p : Profile} {n : Nat} : itemHeld p n = true ↔ ∃ v, (n, v) ∈ p := by
  unfold itemHeld
  induction p with
  | nil => simp [profileFind]
  | cons x p ih =>
    obtain ⟨m, w⟩ := x
    unfold profileFind
    split
    · next h => exact ⟨fun _ => ⟨w, h ▸ List.mem_cons_self⟩, fun _ => rfl⟩
    · next h =>
      rw [ih]
      refine exists_congr fun v => ⟨List.mem_cons_of_mem _, fun hm => ?_⟩
      rcases List.mem_cons.1 hm with he | hm
      · exact absurd (congrArg Prod.fst he).symm h
      · exact hm

theorem requiredFailure_none {p : Profile} (h : requiredFailure p = none) {n : Nat} (h1 : 1 ≤ n) (h2 : n ≤ 77) :
    (itemRequired p n = true → itemHeld p n = true) ∧ (n = 26 → probeRangeMissing p = false) := by
  have := List.find?_eq_none.1 h n (mem_items.2 ⟨h1, h2⟩)
  simp only [Bool.or_eq_true, Bool.and_eq_true, Bool.not_eq_true', decide_eq_true_eq, not_or, not_and] at this
  exact ⟨fun hr => by simpa using this.1 hr, fun hn => by simpa using this.2 hn⟩

/-- The stages' answer, in the order of the stages. -/
theorem profileFailure_eq (p : Profile) (count : Nat) :
    (count ≠ p.length ∧ profileFailure p count = some (1, 0))
      ∨ count = p.length
        ∧ ((∃ n, requiredFailure p = some n ∧ profileFailure p count = some (2, n))
          ∨ (∃ n, rangeFailure p = some n ∧ profileFailure p count = some (3, n))
          ∨ (∃ n, crossFailure p = some n ∧ profileFailure p count = some (4, n))
          ∨ profileFailure p count = none ∧ Passes p) := by
  unfold profileFailure
  split
  · next h => exact .inl ⟨h, rfl⟩
  next h =>
  refine .inr ⟨by simpa using h, ?_⟩
  split
  · next n hn => exact .inl ⟨n, hn, rfl⟩
  next required =>
  split
  · next n hn => exact .inr (.inl ⟨n, hn, rfl⟩)
  next ranges =>
  split
  · next n hn => exact .inr (.inr (.inl ⟨n, hn, rfl⟩))
  next cross =>
  refine .inr (.inr (.inr ⟨rfl, ?_, ?_, ?_, ?_⟩))
  · exact fun n h1 h2 => (requiredFailure_none required h1 h2).1
  · exact (requiredFailure_none required (n := 26) (by decide) (by decide)).2 rfl
  · intro n hn
    obtain ⟨v, hv⟩ := itemHeld_iff.1 hn
    simpa using List.find?_eq_none.1 ranges n (List.mem_map.2 ⟨(n, v), hv, rfl⟩)
  · intro n h1 h2
    simpa using List.find?_eq_none.1 cross n (mem_items.2 ⟨h1, h2⟩)

/-- Every item number has one of these tests. -/
theorem unsignedBounds_tests : ∀ x ∈ unsignedBounds,
    (26 ≤ x.1 && x.1 ≤ 29) = false ∧ (49 ≤ x.1 && x.1 ≤ 54) = false ∧ (55 ≤ x.1 && x.1 ≤ 60) = false
      ∧ signedItem x.1 = false ∧ itemBounds x.1 = some ((x.2.1 : Int), (x.2.2 : Int)) := by
  decide +kernel

theorem itemBounds_known {n : Nat} {b : Int × Int} (h : itemBounds n = some b) : 1 ≤ n ∧ n ≤ 77 := by
  unfold itemBounds at h
  split at h <;> first | omega | nomatch h

theorem itemNat_of_not_held {p : Profile} {n : Nat} (h : itemHeld p n = false) : itemNat p n = 0 := by
  unfold itemHeld at h
  unfold itemNat
  rw [Option.isSome_eq_false_iff, Option.isNone_iff_eq_none] at h
  rw [h]; rfl

theorem held_of_itemNat {p : Profile} {n : Nat} (h : itemNat p n ≠ 0) : itemHeld p n = true := by
  by_contra hn
  exact h (itemNat_of_not_held (by simpa using hn))

theorem profileFind_of_held {p : Profile} {n : Nat} (h : itemHeld p n = true) :
    ∃ v : ItemValue, profileFind p n = some v ∧ itemNat p n = v.toNat := by
  unfold itemHeld at h
  obtain ⟨v, hv⟩ := Option.isSome_iff_exists.1 h
  exact ⟨v, hv, by unfold itemNat; rw [hv]; rfl⟩

theorem itemByte_le {p : Profile} {n i k : Nat} (h : itemHeld p n = true → itemByte p n i ≤ k) : itemByte p n i ≤ k := by
  by_cases hn : itemHeld p n = true
  · exact h hn
  · unfold itemByte
    rw [itemNat_of_not_held (by simpa using hn)]
    simp

theorem held_of_modeField {p : Profile} {ch : Nat} (h : modeField p ch ≠ 0) : itemHeld p (49 + ch) = true := by
  refine held_of_itemNat fun h0 => h ?_
  unfold modeField itemByte
  rw [h0]; simp

namespace Passes

variable {p : Profile}

theorem unsigned (h : Passes p) {n lo hi : Nat} (hb : (n, lo, hi) ∈ unsignedBounds) (hn : itemHeld p n = true) :
    lo ≤ itemNat p n ∧ itemNat p n ≤ hi := by
  obtain ⟨h1, h2, h3, h4, h5⟩ := unsignedBounds_tests _ hb
  have := h.ranges n hn
  unfold itemInRange at this
  rw [if_neg (by rw [h1]; nofun), if_neg (by rw [h2]; nofun), if_neg (by rw [h3]; nofun), h5] at this
  dsimp only at this
  rw [h4] at this
  simpa using this

theorem signed (h : Passes p) {n : Nat} (hs : n = 30 ∨ n = 36 ∨ n = 41) (hn : itemHeld p n = true) :
    -600 ≤ itemInt p n ∧ itemInt p n ≤ 1300 := by
  have := h.ranges n hn
  rcases hs with rfl | rfl | rfl <;> simpa [itemInRange, itemBounds, signedItem] using this

theorem known (h : Passes p) {n : Nat} {v : ItemValue} (hm : (n, v) ∈ p) : 1 ≤ n ∧ n ≤ 77 := by
  have := h.ranges n (itemHeld_iff.2 ⟨v, hm⟩)
  unfold itemInRange at this
  split at this
  · next hn => simp at hn; omega
  split at this
  · next hn => simp at hn; omega
  split at this
  · next hn => simp at hn; omega
  split at this
  · nomatch this
  · next hb => exact itemBounds_known hb

/-! ### Items that every profile holds -/

theorem always (h : Passes p) {n : Nat} (hn : n ∈ [1, 2, 3, 5, 6, 7, 8, 17, 18, 19]) : itemHeld p n = true := by
  refine h.held n ?_ ?_ ?_
  all_goals simp only [List.mem_cons, List.not_mem_nil, or_false] at hn
  · omega
  · omega
  · rcases hn with rfl | rfl | rfl | rfl | rfl | rfl | rfl | rfl | rfl | rfl <;> rfl

theorem role (h : Passes p) : itemNat p 1 ≤ 5 := (h.unsigned (n := 1) (lo := 0) (hi := 5) (by decide) (h.always (by decide))).2

theorem position (h : Passes p) : itemNat p 2 ≤ 3 := (h.unsigned (n := 2) (lo := 0) (hi := 3) (by decide) (h.always (by decide))).2

theorem profileRole_eq (h : Passes p) : profileRole p = roleOf (itemNat p 1) := by
  obtain ⟨v, hv, hn⟩ := profileFind_of_held (h.always (n := 1) (by decide))
  unfold profileRole
  rw [hv, hn]; rfl

theorem positionIs_eq (h : Passes p) (test : Nat → Bool) : positionIs p test = test (itemNat p 2) := by
  obtain ⟨v, hv, hn⟩ := profileFind_of_held (h.always (n := 2) (by decide))
  unfold positionIs profilePosition
  have := h.position
  rw [hn] at this ⊢
  rw [hv, Option.bind_some, if_pos this]
  rfl

theorem roleIn_eq (h : Passes p) (roles : List Role) :
    roleIn p roles = (roleOf (itemNat p 1)).any (fun r => decide (r ∈ roles)) := by
  unfold roleIn
  rw [h.profileRole_eq]

theorem held_of_role (h : Passes p) {n k : Nat} {roles : List Role} (h1 : 1 ≤ n) (h2 : n ≤ 77)
    (hn : itemRequired p n = roleIn p roles) (hk : itemNat p 1 = k)
    (hr : (roleOf k).any (fun r => decide (r ∈ roles)) = true) : itemHeld p n = true :=
  h.held n h1 h2 (by rw [hn, h.roleIn_eq, hk]; exact hr)

theorem held_of_position (h : Passes p) {n k : Nat} {test : Nat → Bool} (h1 : 1 ≤ n) (h2 : n ≤ 77)
    (hn : itemRequired p n = positionIs p test) (hk : itemNat p 2 = k) (ht : test k = true) : itemHeld p n = true :=
  h.held n h1 h2 (by rw [hn, h.positionIs_eq, hk]; exact ht)

/-- The items that the role and the line position require (R19). -/
theorem required (h : Passes p) {n : Nat} (hr : Required p n) : itemHeld p n = true := by
  have role := h.role
  rcases hr with hn | ⟨rfl, hp⟩ | ⟨hn, hr⟩ | ⟨hn, hp⟩ | ⟨h1, h2, hp⟩ | ⟨h1, h2, hr⟩ | ⟨hn, h1, h3⟩ | ⟨hn, hr⟩
    | ⟨h1, h2, hr⟩ | ⟨h1, h2, hr⟩ | ⟨h1, h2, hr⟩
  · exact h.always hn
  · rcases hp with hp | hp <;> exact h.held_of_position (by omega) (by omega) rfl hp rfl
  · have other : (profileRole p).any (fun r => decide (r ≠ .blanch)) = true := by
      rw [h.profileRole_eq]
      generalize itemNat p 1 = k at hr role
      interval_cases k <;> first | exact absurd rfl hr | rfl
    simp only [List.mem_cons, List.not_mem_nil, or_false] at hn
    rcases hn with rfl | rfl <;> exact h.held _ (by omega) (by omega) other
  · simp only [List.mem_cons, List.not_mem_nil, or_false] at hn
    rcases hp with hp | hp <;> rcases hn with rfl | rfl | rfl <;>
      exact h.held_of_position (by omega) (by omega) rfl hp rfl
  · have hn : itemRequired p n = positionIs p isHeadPosition := by interval_cases n <;> rfl
    rcases hp with hp | hp <;> exact h.held_of_position (by omega) (by omega) hn hp rfl
  · have hn : itemRequired p n = roleIn p [.blanch] := by interval_cases n <;> rfl
    exact h.held_of_role (by omega) (by omega) hn hr rfl
  · simp only [List.mem_cons, List.not_mem_nil, or_false] at hn
    have hn' : itemRequired p n = roleIn p thermalRoles := by rcases hn with rfl | rfl <;> rfl
    refine h.held_of_role (by omega) (by omega) hn' rfl ?_
    generalize itemNat p 1 = k at h1 h3
    interval_cases k <;> rfl
  · simp only [List.mem_cons, List.not_mem_nil, or_false] at hn
    have hn' : itemRequired p n = roleIn p [.chill, .freeze] := by rcases hn with rfl | rfl <;> rfl
    rcases hr with hr | hr <;> exact h.held_of_role (by omega) (by omega) hn' hr rfl
  · have hn : itemRequired p n = roleIn p [.freeze] := by interval_cases n <;> rfl
    exact h.held_of_role (by omega) (by omega) hn hr rfl
  · have hn : itemRequired p n = roleIn p [.bag] := by interval_cases n <;> rfl
    exact h.held_of_role (by omega) (by omega) hn hr rfl
  · have hn : itemRequired p n = roleIn p [.transfer] := by interval_cases n <;> rfl
    exact h.held_of_role (by omega) (by omega) hn hr rfl

/-! ### Checks between items (R21) -/

theorem check (h : Passes p) (n : Nat) (h1 : 1 ≤ n := by decide) (h2 : n ≤ 77 := by decide) :
    crossCheck p n = true := h.checks n h1 h2

theorem bounds (h : Passes p) (n : Nat) {lo hi : Nat} (hn : itemHeld p n = true)
    (hb : unsignedBounds.find? (fun x => x.1 == n) = some (n, lo, hi) := by rfl) :
    lo ≤ itemNat p n ∧ itemNat p n ≤ hi := h.unsigned (List.mem_of_find?_eq_some hb) hn

theorem zoneLength (h : Passes p) : 256 ≤ itemNat p 3 ∧ itemNat p 3 ≤ 65535 := h.bounds 3 (h.always (by decide))

/-- The points along the zone (items 4, 34, 69, 72, 73) and the infeed channel's mode. -/
theorem points (h : Passes p) :
    (itemHeld p 4 = true → itemNat p 4 < itemNat p 3) ∧ (itemHeld p 34 = true → itemNat p 34 ≤ itemNat p 3)
    ∧ (itemHeld p 69 = true → itemNat p 19 < itemNat p 69 ∧ itemNat p 69 < itemNat p 3)
    ∧ (itemHeld p 69 = true → itemHeld p 72 = true → itemNat p 69 + itemNat p 72 ≤ itemNat p 3)
    ∧ (itemHeld p 73 = true → itemNat p 73 < itemNat p 3)
    ∧ (itemHeld p 20 = true → itemHeld p (49 + itemNat p 20) = true ∧ modeField p (itemNat p 20) = 6) := by
  have zone := h.zoneLength
  have h3 : itemHeld p 3 = true := h.always (by decide)
  have h19 : itemHeld p 19 = true := h.always (by decide)
  refine ⟨fun hn => ?_, fun hn => ?_, fun hn => ?_, fun hn hm => ?_, fun hn => ?_, fun hn => ?_⟩
  · have := h.check 4
    simp [crossCheck, allHeld, hn, h3] at this
    omega
  · have := h.check 34
    simp [crossCheck, verdictCheck, allHeld, hn, h3] at this
    exact this.1
  · have := h.check 69
    simp [crossCheck, allHeld, hn, h3, h19] at this
    omega
  · have := h.check 72
    simpa [crossCheck, allHeld, hn, hm, h3] using this
  · have := h.check 73
    simp [crossCheck, allHeld, hn, h3] at this
    omega
  · have := h.check 20
    simpa [crossCheck, hn] using this

theorem pairs (h : Passes p) :
    (itemHeld p 21 = true → itemHeld p 23 = true → itemNat p 23 < itemNat p 21)
    ∧ (itemHeld p 32 = true → itemHeld p 33 = true → itemNat p 32 ≤ itemNat p 33)
    ∧ (itemHeld p 39 = true → itemHeld p 40 = true → itemNat p 40 ≤ itemNat p 39)
    ∧ (itemHeld p 43 = true → itemHeld p 44 = true → itemNat p 43 < itemNat p 44)
    ∧ (itemHeld p 44 = true → itemHeld p 45 = true → itemNat p 44 < itemNat p 45)
    ∧ (itemHeld p 43 = true → itemHeld p 44 = true → itemHeld p 46 = true →
        itemNat p 43 ≤ itemNat p 46 ∧ itemNat p 46 ≤ itemNat p 44) := by
  refine ⟨fun h1 h2 => ?_, fun h1 h2 => ?_, fun h1 h2 => ?_, fun h1 h2 => ?_, fun h1 h2 => ?_, fun h1 h2 h3 => ?_⟩
  · simpa [crossCheck, allHeld, h1, h2] using h.check 23
  · simpa [crossCheck, allHeld, h1, h2] using h.check 33
  · simpa [crossCheck, allHeld, h1, h2] using h.check 40
  · simpa [crossCheck, allHeld, h1, h2] using h.check 44
  · simpa [crossCheck, allHeld, h1, h2] using h.check 45
  · simpa [crossCheck, allHeld, h1, h2, h3] using h.check 46

/-- HOLD_LEVEL is at least 2, and above RELEASE_LEVEL. -/
theorem levels (h : Passes p) : 2 ≤ itemNat p 7 ∧ itemNat p 7 ≤ 24 ∧ itemNat p 8 < itemNat p 7 := by
  have h7 : itemHeld p 7 = true := h.always (by decide)
  have h8 : itemHeld p 8 = true := h.always (by decide)
  have bounds := h.bounds 7 h7
  have := h.check 8
  simp [crossCheck, allHeld, h7, h8] at this
  omega

theorem tail (h : Passes p) (hp : itemNat p 2 = 2 ∨ itemNat p 2 = 3) : itemHeld p 13 = false ∧ itemNat p 1 ≠ 1 := by
  have position : positionIs p isTailPosition = true := by
    rw [h.positionIs_eq]; rcases hp with hp | hp <;> rw [hp] <;> rfl
  refine ⟨by simpa [crossCheck, position] using h.check 13, fun hr => ?_⟩
  have blanch : roleIn p [.blanch] = true := by rw [h.roleIn_eq, hr]; rfl
  have h1 : itemHeld p 1 = true := h.always (by decide)
  have h2 : itemHeld p 2 = true := h.always (by decide)
  simpa [crossCheck, allHeld, h1, h2, position, blanch] using h.check 2

theorem head (h : Passes p) (hp : itemNat p 2 = 1 ∨ itemNat p 2 = 3) :
    itemHeld p 12 = false ∧ ∀ n, 20 ≤ n → n ≤ 25 → itemHeld p n = true := by
  have position : positionIs p isHeadPosition = true := by
    rw [h.positionIs_eq]; rcases hp with hp | hp <;> rw [hp] <;> rfl
  refine ⟨by simpa [crossCheck, position] using h.check 12, fun n h1 h2 => h.required ?_⟩
  exact .inr (.inr (.inr (.inr (.inl ⟨h1, h2, hp⟩))))

/-- A thermal station has a used probe range, and room for its verdict before the offer point. -/
theorem thermal (h : Passes p) (h1 : 1 ≤ itemNat p 1) (h3 : itemNat p 1 ≤ 3) :
    (∃ n, 26 ≤ n ∧ n ≤ 29 ∧ itemNat p n ≠ 0) ∧ 1 ≤ itemNat p 35 ∧ itemNat p 35 ≤ 50 ∧ 1 ≤ itemNat p 34
      ∧ (itemNat p 2 = 0 ∨ itemNat p 2 = 1 → itemNat p 34 + itemNat p 18 / 2 < itemNat p 3 - itemNat p 4)
      ∧ (itemNat p 2 = 2 ∨ itemNat p 2 = 3 → itemNat p 34 + itemNat p 18 / 2 < itemNat p 3) := by
  have role : roleIn p thermalRoles = true := by
    rw [h.roleIn_eq]
    generalize itemNat p 1 = k at h1 h3
    interval_cases k <;> rfl
  have held : ∀ n, n ∈ [34, 35] → itemHeld p n = true := fun n hn =>
    h.required (.inr (.inr (.inr (.inr (.inr (.inr (.inl ⟨hn, h1, h3⟩)))))))
  have h34 := held 34 (by decide)
  have bounds := h.bounds 35 (held 35 (by decide))
  have h3' : itemHeld p 3 = true := h.always (by decide)
  have h18 : itemHeld p 18 = true := h.always (by decide)
  have check := h.check 34
  simp only [crossCheck, verdictCheck, allHeld, role] at check
  refine ⟨?_, bounds.1, bounds.2, (h.bounds 34 h34).1, fun hp => ?_, fun hp => ?_⟩
  · have := h.probes
    unfold probeRangeMissing at this
    rw [role, Bool.true_and, List.all_eq_false] at this
    obtain ⟨i, hi, hn⟩ := this
    rw [List.mem_range] at hi
    exact ⟨26 + i, by omega, by omega, by simpa using hn⟩
  · have position : positionIs p isTailPosition = false := by
      rw [h.positionIs_eq]; rcases hp with hp | hp <;> rw [hp] <;> rfl
    have h4 : itemHeld p 4 = true := h.required (.inr (.inl ⟨rfl, hp⟩))
    simp [position, h4, h34, h3', h18] at check
    exact check.2
  · have position : positionIs p isTailPosition = true := by
      rw [h.positionIs_eq]; rcases hp with hp | hp <;> rw [hp] <;> rfl
    simp [position, h34, h3', h18] at check
    exact check.2

/-- The used probe ranges lie in the zone, and no two share a position. -/
theorem probeRanges (h : Passes p) {n : Nat} (h1 : 26 ≤ n) (h2 : n ≤ 29) (hn : itemNat p n ≠ 0) :
    itemHigh p n < itemLow p n ∧ itemLow p n ≤ itemNat p 3
      ∧ ∀ m, 26 ≤ m → m < n → itemNat p m ≠ 0 → itemLow p m ≤ itemHigh p n ∨ itemLow p n ≤ itemHigh p m := by
  have h3 : itemHeld p 3 = true := h.always (by decide)
  have range := h.ranges n (held_of_itemNat hn)
  unfold itemInRange at range
  rw [if_pos (by simp [h1, h2])] at range
  have check : probeRangeCheck p n = true := by
    have := h.check n (by omega) (by omega)
    interval_cases n <;> exact this
  unfold probeRangeCheck at check
  rw [if_neg hn] at check
  simp only [h3, Bool.not_true, Bool.false_or, Bool.and_eq_true, decide_eq_true_eq, List.all_eq_true, List.mem_range,
    Bool.or_eq_true, Bool.not_eq_true'] at check
  refine ⟨by simpa [hn] using range, check.1, fun m hm1 hm2 hm => ?_⟩
  have := check.2 (m - 26) (by omega)
  rw [show 26 + (m - 26) = m by omega] at this
  have share := this.resolve_left hm
  simp only [rangesShare, Bool.and_eq_false_iff, decide_eq_false_iff_not] at share
  omega

/-! ### Channels -/

theorem channelFields (h : Passes p) {ch : Nat} (hc : ch < 6) :
    modeField p ch ≤ 9 ∧ baseField p ch ≤ 2 ∧ sourceField p ch ≤ 6 ∧ flagsField p ch ≤ 3 := by
  have fields : itemHeld p (49 + ch) = true →
      modeField p ch ≤ 9 ∧ baseField p ch ≤ 2 ∧ sourceField p ch ≤ 6 ∧ flagsField p ch ≤ 3 := by
    intro hn
    have := h.ranges (49 + ch) hn
    unfold itemInRange at this
    rw [if_neg (by simp; omega), if_pos (by simp; omega), Nat.add_sub_cancel_left] at this
    simp only [Bool.and_eq_true, decide_eq_true_eq] at this
    exact ⟨this.1.1.1, this.1.1.2, this.1.2, this.2⟩
  exact ⟨itemByte_le fun hn => (fields hn).1, itemByte_le fun hn => (fields hn).2.1,
    itemByte_le fun hn => (fields hn).2.2.1, itemByte_le fun hn => (fields hn).2.2.2⟩

theorem compares (h : Passes p) {ch : Nat} (hc : ch < 6) (h1 : 1 ≤ modeField p ch) (h8 : modeField p ch ≤ 8) :
    itemHeld p (55 + ch) = true := by
  have held := held_of_modeField (p := p) (ch := ch) (by omega)
  refine h.held (55 + ch) (by omega) (by omega) ?_
  have req : itemRequired p (55 + ch)
      = (itemHeld p (49 + ch) && decide (1 ≤ modeField p ch) && decide (modeField p ch ≤ 8)) := by
    interval_cases ch <;> rfl
  rw [req, held]
  simp [h1, h8]

theorem masks (h : Passes p) {ch : Nat} (hc : ch < 6) (h7 : modeField p ch = 7) :
    itemHeld p (61 + ch) = true ∧ itemNat p (61 + ch) ≤ 1023 := by
  have held := held_of_modeField (p := p) (ch := ch) (by omega)
  have mask : itemHeld p (61 + ch) = true := by
    refine h.held (61 + ch) (by omega) (by omega) ?_
    have req : itemRequired p (61 + ch) = (itemHeld p (49 + ch) && decide (modeField p ch = 7)) := by
      interval_cases ch <;> rfl
    rw [req, held]
    simp [h7]
  refine ⟨mask, (h.unsigned (lo := 0) (hi := 1023) ?_ mask).2⟩
  interval_cases ch <;> decide

theorem baseUsed_of (h1 : 1 ≤ modeField p ch) (h6 : modeField p ch ≤ 6) (hc : ch < 6) {base : Nat}
    (hb : baseField p ch = base) : baseUsed p base = true := by
  unfold baseUsed
  refine List.any_eq_true.2 ⟨ch, List.mem_range.2 hc, ?_⟩
  rw [held_of_modeField (by omega)]
  simp [h1, h6, hb]

theorem bases (h : Passes p) {ch : Nat} (hc : ch < 6) (h1 : 1 ≤ modeField p ch) (h6 : modeField p ch ≤ 6) :
    (baseField p ch = 1 → 1 ≤ itemNat p 67 ∧ itemNat p 67 ≤ 65535)
      ∧ (baseField p ch = 2 → 1 ≤ itemNat p 68 ∧ itemNat p 68 ≤ 65535) :=
  ⟨fun hb => h.bounds 67 (h.held 67 (by decide) (by decide) (baseUsed_of h1 h6 hc hb)),
    fun hb => h.bounds 68 (h.held 68 (by decide) (by decide) (baseUsed_of h1 h6 hc hb))⟩

theorem compareCheck_eq (h : Passes p) {ch : Nat} (hc : ch < 6) : compareCheck p ch = true := by
  have := h.check (55 + ch) (by omega) (by omega)
  interval_cases ch <;> exact this

theorem duties (h : Passes p) {ch : Nat} (hc : ch < 6) (h6 : modeField p ch = 6) :
    baseField p ch ≠ 0
    ∧ (¬ ((itemNat p 2 = 1 ∨ itemNat p 2 = 3) ∧ itemNat p 20 = ch) →
        1 ≤ itemHigh p (55 + ch) ∧ itemHigh p (55 + ch) ≤ 64) := by
  have held := held_of_modeField (p := p) (ch := ch) (by omega)
  have compare := h.compares hc (by omega) (by omega)
  refine ⟨fun hb => ?_, fun infeed => ?_⟩
  · have check := h.check (49 + ch) (by omega) (by omega)
    have eq : crossCheck p (49 + ch)
        = (!itemHeld p (49 + ch) || !(decide (modeField p ch = 6) && decide (baseField p ch = 0))) := by
      interval_cases ch <;> rfl
    rw [eq, held, h6, hb] at check
    nomatch check
  · have check := h.compareCheck_eq hc
    have other : (positionIs p isHeadPosition && itemHeld p 20 && decide (itemNat p 20 = ch)) = false := by
      rw [h.positionIs_eq]
      by_contra hn
      simp only [Bool.not_eq_false, Bool.and_eq_true, isHeadPosition, Bool.or_eq_true, decide_eq_true_eq] at hn
      exact infeed ⟨hn.1.1, hn.2⟩
    unfold compareCheck at check
    simpa [allHeld, held, compare, h6, other] using check

theorem windows (h : Passes p) {ch : Nat} (hc : ch < 6) (h7 : modeField p ch = 7)
    (flag : (flagsField p ch).testBit 0 = true) : itemNat p 19 < itemLow p (55 + ch) := by
  have held := held_of_modeField (p := p) (ch := ch) (by omega)
  have compare := h.compares hc (by omega) (by omega)
  have h19 : itemHeld p 19 = true := h.always (by decide)
  have check := h.compareCheck_eq hc
  unfold compareCheck at check
  simpa [allHeld, held, compare, h7, flag, h19] using check

/-! ### What a role and a position come to -/

theorem roleItems (h : Passes p) {k : Nat} (hr : itemNat p 1 = k) :
    (k = 1 → ∀ n, 30 ≤ n → n ≤ 33 → itemHeld p n = true)
    ∧ (k = 2 ∨ k = 3 → ∀ n, n ∈ [36, 37] → itemHeld p n = true)
    ∧ (k = 3 → ∀ n, 38 ≤ n → n ≤ 48 → itemHeld p n = true)
    ∧ (k = 4 → ∀ n, 69 ≤ n → n ≤ 72 → itemHeld p n = true)
    ∧ (k = 5 → ∀ n, 73 ≤ n → n ≤ 77 → itemHeld p n = true) := by
  subst hr
  refine ⟨fun hk n h1 h2 => h.required ?_, fun hk n hn => h.required ?_, fun hk n h1 h2 => h.required ?_,
    fun hk n h1 h2 => h.required ?_, fun hk n h1 h2 => h.required ?_⟩
  · exact .inr (.inr (.inr (.inr (.inr (.inl ⟨h1, h2, hk⟩)))))
  · exact .inr (.inr (.inr (.inr (.inr (.inr (.inr (.inl ⟨hn, hk⟩)))))))
  · exact .inr (.inr (.inr (.inr (.inr (.inr (.inr (.inr (.inl ⟨h1, h2, hk⟩))))))))
  · exact .inr (.inr (.inr (.inr (.inr (.inr (.inr (.inr (.inr (.inl ⟨h1, h2, hk⟩)))))))))
  · exact .inr (.inr (.inr (.inr (.inr (.inr (.inr (.inr (.inr (.inr ⟨h1, h2, hk⟩)))))))))

/-- A FREEZE profile's debt starts at 8 at most. -/
theorem freezeDebt (h : Passes p) (hr : itemNat p 1 = 3) : itemNat p 48 ≤ 8 :=
  (h.bounds 48 ((h.roleItems rfl).2.2.1 hr 48 (by decide) (by decide))).2

theorem fits (h : Passes p) : ProfileFits p where
  required _ := h.required
  unsigned _ _ _ := h.unsigned
  signed _ := h.signed
  points := h.points
  pairs := h.pairs
  known _ _ := h.known
  role := ⟨h.always (by decide), h.role⟩
  position := ⟨h.always (by decide), h.position⟩
  zoneLength := h.zoneLength
  periods := by
    have b5 := h.bounds 5 (h.always (by decide))
    have b6 := h.bounds 6 (h.always (by decide))
    exact ⟨b5.1, b5.2, b6.1, b6.2⟩
  levels := h.levels
  formation := by
    have b17 := h.bounds 17 (h.always (by decide))
    have b18 := h.bounds 18 (h.always (by decide))
    have b19 := h.bounds 19 (h.always (by decide))
    exact ⟨b17.1, b17.2, b18.1, b18.2, b19.1, b19.2⟩
  offerLead hp := by
    have h4 : itemHeld p 4 = true := h.required (.inr (.inl ⟨rfl, hp⟩))
    exact ⟨(h.bounds 4 h4).1, h.points.1 h4⟩
  tail := h.tail
  arrivals hp := by
    have held : ∀ n, n ∈ [11, 15, 16] → itemHeld p n = true := fun n hn =>
      h.required (.inr (.inr (.inr (.inl ⟨hn, hp⟩))))
    have b11 := h.bounds 11 (held 11 (by decide))
    have b15 := h.bounds 15 (held 15 (by decide))
    have b16 := h.bounds 16 (held 16 (by decide))
    exact ⟨b11.1, b11.2, b15.1, b15.2, b16.1, b16.2⟩
  head hp := by
    obtain ⟨h12, held⟩ := h.head hp
    have h20 := held 20 (by decide) (by decide)
    have h21 := held 21 (by decide) (by decide)
    have h23 := held 23 (by decide) (by decide)
    have b22 := h.bounds 22 (held 22 (by decide) (by decide))
    have b24 := h.bounds 24 (held 24 (by decide) (by decide))
    have b25 := h.bounds 25 (held 25 (by decide) (by decide))
    exact ⟨h12, (h.bounds 20 h20).2, (h.points.2.2.2.2.2 h20).2, h.pairs.1 h21 h23, (h.bounds 21 h21).2, b22.1, b22.2,
      b24.1, b24.2, b25.1, b25.2⟩
  distance h14 := by simpa [crossCheck, h14] using h.check 14
  stoppable hr := by
    have held : ∀ n, n ∈ [9, 10] → itemHeld p n = true := fun n hn => h.required (.inr (.inr (.inl ⟨hn, hr⟩)))
    have h9 := held 9 (by decide)
    have h10 := held 10 (by decide)
    exact ⟨h9, (h.bounds 9 h9).2, h10, (h.bounds 10 h10).2⟩
  thermal := h.thermal
  probes _ := h.probeRanges
  blanch hr := by
    have held := (h.roleItems hr).1 rfl
    have b30 := h.signed (.inl rfl) (held 30 (by decide) (by decide))
    have b31 := h.bounds 31 (held 31 (by decide) (by decide))
    have h32 := held 32 (by decide) (by decide)
    have h33 := held 33 (by decide) (by decide)
    exact ⟨b30.1, b30.2, b31.1, b31.2, (h.bounds 32 h32).1, h.pairs.2.1 h32 h33, (h.bounds 33 h33).2⟩
  dwell hr := by
    have held := (h.roleItems rfl).2.1 hr
    have b36 := h.signed (.inr (.inl rfl)) (held 36 (by decide))
    have b37 := h.bounds 37 (held 37 (by decide))
    exact ⟨b36.1, b36.2, b37.1, b37.2⟩
  freeze hr := by
    have held := (h.roleItems hr).2.2.1 rfl
    obtain ⟨_, _, p40, p44, p45, p46⟩ := h.pairs
    have h39 := held 39 (by decide) (by decide)
    have h40 := held 40 (by decide) (by decide)
    have h43 := held 43 (by decide) (by decide)
    have h44 := held 44 (by decide) (by decide)
    have h45 := held 45 (by decide) (by decide)
    have h46 := held 46 (by decide) (by decide)
    have b41 := h.signed (.inr (.inr rfl)) (held 41 (by decide) (by decide))
    have b42 := h.bounds 42 (held 42 (by decide) (by decide))
    have b47 := h.bounds 47 (held 47 (by decide) (by decide))
    exact ⟨(h.bounds 38 (held 38 (by decide) (by decide))).2, (h.bounds 40 h40).1, p40 h39 h40, (h.bounds 39 h39).2,
      b41.1, b41.2, b42.1, b42.2, (h.bounds 43 h43).1, p44 h43 h44, p45 h44 h45, (h.bounds 45 h45).2,
      (p46 h43 h44 h46).1, (p46 h43 h44 h46).2, b47.1, b47.2, h.freezeDebt hr⟩
  channelFields _ := h.channelFields
  compares _ := h.compares
  masks _ := h.masks
  bases _ := h.bases
  duties _ := h.duties
  windows _ := h.windows
  bag hr := by
    have held := (h.roleItems hr).2.2.2.1 rfl
    have h69 := held 69 (by decide) (by decide)
    have h72 := held 72 (by decide) (by decide)
    have b70 := h.bounds 70 (held 70 (by decide) (by decide))
    have b72 := h.bounds 72 h72
    exact ⟨(h.points.2.2.1 h69).1, h.points.2.2.2.1 h69 h72, b70.1, b70.2,
      (h.bounds 71 (held 71 (by decide) (by decide))).2, b72.1, b72.2⟩
  transfer hr := by
    have held := (h.roleItems hr).2.2.2.2 rfl
    have h73 := held 73 (by decide) (by decide)
    have b74 := h.bounds 74 (held 74 (by decide) (by decide))
    have b75 := h.bounds 75 (held 75 (by decide) (by decide))
    have h76 := held 76 (by decide) (by decide)
    have h77 := held 77 (by decide) (by decide)
    exact ⟨(h.bounds 73 h73).1, h.points.2.2.2.2.1 h73, b74.1, b74.2, b75.1, b75.2, h76, (h.bounds 76 h76).2, h77,
      (h.bounds 77 h77).2⟩

end Passes

/-- A profile that fails no stage has what the stages test. -/
theorem passes_of_none {p : Profile} {count : Nat} (h : profileFailure p count = none) : Passes p := by
  rcases profileFailure_eq p count with ⟨_, he⟩ | ⟨_, ⟨n, _, he⟩ | ⟨n, _, he⟩ | ⟨n, _, he⟩ | ⟨_, hp⟩⟩
  · nomatch he.symm.trans h
  · nomatch he.symm.trans h
  · nomatch he.symm.trans h
  · nomatch he.symm.trans h
  · exact hp

/-! ### The end of a profile (R22) -/

theorem exec_profileEnd {f : Frame} {rest : List Frame} {s : State} (ho : Oldest .profileEnd f rest s)
    (ha : Admitted f s) :
    exec .profileEnd s = done (endProfile f (handDownstream s.downstreamEntry (taken f rest s))) :=
  takeCommand_admitted (k := .profileEnd) rfl ho ha

/-- The event of a refused profile, as this station's frame. -/
theorem refuseProfile_eq (stage item : Nat) (s : State) :
    refuseProfile stage item s
      = queueFrame (eventOf s 2 (256 * stage + item) s.station.pendingProfile.length)
          { s with station.pendingProfile := [] } := rfl

theorem gives_queueFrame (f : Frame) (s : State) : GivesFrame f s (settle (queueFrame f s)) :=
  ⟨⟨_, queueFrame_framesQueued f s, rfl⟩, fun h => by rw [queueFrame_accepts h]⟩

theorem pendingProfile_blocks {s t : State} (h : BlocksResponded s t) (p : Profile) :
    BlocksResponded { s with station.pendingProfile := p } { t with station.pendingProfile := p } :=
  blocksResponded_update h (fun s => { s with station.pendingProfile := p }) rfl (fun _ => rfl) (fun _ => rfl)

/-- Settles O20: the first clause is the refusal's event, the others are what each stage tests. -/
theorem profileRefused : Obligations.ProfileRefused := by
  refine ⟨fun f rest s stage item ho ha mode fails => ?_, fun p count => ⟨fun h => ?_, fun hc h1 => ?_, ?_, fun h => ?_⟩⟩
  · have hb := handDownstream_taken_blocks f rest s
    have station : (handDownstream s.downstreamEntry (taken f rest s)).station = s.station :=
      (blocksResponded_station hb).trans (Changes.taken_station f rest s)
    have refused : endProfile f (handDownstream s.downstreamEntry (taken f rest s))
        = refuseProfile stage item (handDownstream s.downstreamEntry (taken f rest s)) := by
      unfold endProfile
      rw [if_pos ((blocksResponded_mode hb).trans ((Changes.taken_mode f rest s).trans mode)), station, fails]
    refine next_of_done (exec_profileEnd ho ha) ⟨?_, fun other => ?_⟩
    · rw [refused, refuseProfile_eq]
      exact blocksResponded_trans (pendingProfile_blocks hb [])
        (blocksResponded_trans (framesQueued_blocks (queueFrame_framesQueued _ _)) (settle_blocks _))
    · rw [refused, handDownstream_taken other, refuseProfile_eq]
      have event : eventOf (taken f rest s) 2 (256 * stage + item) (taken f rest s).station.pendingProfile.length
          = eventOf s 2 (256 * stage + item) s.station.pendingProfile.length := by
        unfold eventOf
        rw [Changes.taken_station]
      rw [event]
      exact gives_queueFrame _ _
  · rcases profileFailure_eq p count with ⟨_, he⟩ | ⟨hc, _⟩
    · exact he
    · exact absurd hc h
  · unfold profileFailure
    rw [if_neg (by simpa using hc)]
    have first : requiredFailure p = some 1 := by
      unfold requiredFailure
      rw [show (List.range 77).map (· + 1) = 1 :: ((List.range 76).map (· + 2)) from rfl]
      exact List.find?_cons_of_pos (by rw [h1]; rfl)
    rw [first]
  · intro stage item h
    rcases profileFailure_eq p count with ⟨hc, he⟩ | ⟨hc, ⟨n, hn, he⟩ | ⟨n, hn, he⟩ | ⟨n, hn, he⟩ | ⟨he, _⟩⟩
    · obtain ⟨rfl, rfl⟩ := Prod.mk.inj (Option.some.inj (he.symm.trans h))
      exact .inl ⟨rfl, rfl, hc⟩
    · obtain ⟨rfl, rfl⟩ := Prod.mk.inj (Option.some.inj (he.symm.trans h))
      obtain ⟨low, high⟩ := mem_items.1 (List.mem_of_find?_eq_some hn)
      refine .inr (.inl ⟨rfl, hc, low, high, ?_⟩)
      have test := List.find?_some hn
      simp only [Bool.or_eq_true, Bool.and_eq_true, Bool.not_eq_true', decide_eq_true_eq] at test
      rcases test with ⟨_, free⟩ | ⟨rfl, missing⟩
      · exact .inl free
      · refine .inr ⟨rfl, fun m hm1 hm2 => ?_⟩
        unfold probeRangeMissing at missing
        have := List.all_eq_true.1 (Bool.and_eq_true_iff.1 missing).2 (m - 26) (List.mem_range.2 (by omega))
        rwa [decide_eq_true_eq, show 26 + (m - 26) = m by omega] at this
    · obtain ⟨rfl, rfl⟩ := Prod.mk.inj (Option.some.inj (he.symm.trans h))
      obtain ⟨⟨m, v⟩, hm, rfl⟩ := List.mem_map.1 (List.mem_of_find?_eq_some hn)
      exact .inr (.inr (.inl ⟨rfl, hc, v, hm⟩))
    · obtain ⟨rfl, rfl⟩ := Prod.mk.inj (Option.some.inj (he.symm.trans h))
      obtain ⟨low, high⟩ := mem_items.1 (List.mem_of_find?_eq_some hn)
      exact .inr (.inr (.inr ⟨rfl, hc, low, high⟩))
    · nomatch he.symm.trans h
  · refine ⟨?_, (passes_of_none h).fits⟩
    rcases profileFailure_eq p count with ⟨_, he⟩ | ⟨hc, _⟩
    · nomatch he.symm.trans h
    · exact hc

end Sys2Proof.Stages

/-! PROOFS. The capacities, ranges and orders that every command keeps (section 0.1). -/

namespace Sys2Proof.Changes

open Sys2Proof Sys2Proof.Machine Sys2Proof.Safety Sys2Proof.Laws

variable {s0 : State} {d : Owed}

/-- The frame acts, each from what the link controller keeps of a frame that this station sends. -/
theorem frames_induction {I : State → Prop} (hand : ∀ s t h n, I s → I (setHandover t h n s))
    (enqueue : ∀ s f, f.origin = s.station.number → I s → I (enqueue f s).1) {s : State} (k : I s) :
    (∀ f : Frame, f.origin = s.station.number → I (queueFrame f s)) ∧ I (queueStatus s) ∧ I (queueHold s)
      ∧ I (queueFrame (Machine.holdAnswer s) s) ∧ ∀ n e, I (settleLoss n e s) := by
  have offer : ∀ s r, I s → I (Machine.enqueue (offerFrame r s) s).1 := fun s r k => enqueue s _ rfl k
  have frame : ∀ f : Frame, f.origin = s.station.number → I (queueFrame f s) :=
    fun f h => queueFrame_induction hand offer (enqueue s f h k)
  refine ⟨frame, frame _ rfl, ?_, frame _ rfl, fun n e => settleLoss_induction hand offer n e s k⟩
  unfold queueHold
  split
  · exact k
  · exact frame _ rfl

/-! ### The link controller -/

/-- What the changes of a command that began in `s0` keep of the link controller. -/
structure LinkKept (s0 : State) (s : State) : Prop where
  length : s.link.txq.length ≤ 8
  order : s.link.txq.Pairwise (fun a b => arbitration a.frame ≤ arbitration b.frame)
  own : ∀ e ∈ s.link.txq, e.frame.origin = s.station.number
  buffer : s.link.rxq.length ≤ 4
  waits : s.link.line = .idle → ∀ e ∈ s.link.txq, e.sending = false
  first : s.link.line = .idle → ∀ e ∈ s0.link.txq, e.sending = false
  quiet : s.mode = .quiet → s.link.line = .idle → s.link.txq = []

theorem insertEntry_order {e : TxEntry} {q : List TxEntry}
    (h : q.Pairwise (fun a b => arbitration a.frame ≤ arbitration b.frame)) :
    (insertEntry e q).Pairwise (fun a b => arbitration a.frame ≤ arbitration b.frame) := by
  induction q with
  | nil => exact List.pairwise_singleton _ _
  | cons x q ih =>
    obtain ⟨hx, hq⟩ := List.pairwise_cons.1 h
    unfold insertEntry
    split
    · next less =>
      refine List.pairwise_cons.2 ⟨fun y hy => ?_, h⟩
      rcases List.mem_cons.1 hy with rfl | hy
      · exact less.le
      · exact less.le.trans (hx y hy)
    · next le =>
      refine List.pairwise_cons.2 ⟨fun y hy => ?_, ih hq⟩
      rcases mem_insertEntry.1 hy with rfl | hy
      · exact Nat.le_of_not_lt le
      · exact hx y hy

/-- A newer STATUS or HOLD of the same origin has the arbitration value of the one it replaces. -/
theorem replaceWaiting_order {f : Frame} {q : List TxEntry} {n : Nat} (own : ∀ e ∈ q, e.frame.origin = n)
    (hf : f.origin = n) (h : q.Pairwise (fun a b => arbitration a.frame ≤ arbitration b.frame)) :
    (replaceWaiting f q).Pairwise (fun a b => arbitration a.frame ≤ arbitration b.frame) := by
  have same : ∀ e ∈ q, arbitration (if e.frame.kind = f.kind ∧ e.sending = false then { e with frame := f } else e).frame
      = arbitration e.frame := by
    intro e he
    split
    · next hk =>
      show arbitration f = arbitration e.frame
      unfold arbitration
      rw [hk.1, hf, own e he]
    · rfl
  unfold replaceWaiting
  exact List.pairwise_map.2 (h.imp_of_mem fun {a b} ha hb hab => by rw [same a ha, same b hb]; exact hab)

theorem dropLastWaiting_length {q : List TxEntry} {e : TxEntry} (h : lastWaiting q = some e) :
    (dropLastWaiting q).length + 1 = q.length := by
  have hm := List.mem_of_find?_eq_some h
  have hw := List.find?_some h
  unfold dropLastWaiting
  rw [List.length_reverse, List.length_eraseP_of_mem hm hw, List.length_reverse]
  have := List.length_pos_of_mem hm
  rw [List.length_reverse] at this
  omega

theorem enqueue_length (f : Frame) {s : State} (h : s.link.txq.length ≤ 8) :
    (enqueue f s).1.link.txq.length ≤ 8 := by
  rcases enqueue_cases f s with ⟨he, _⟩ | ⟨_, ⟨_, he⟩ | ⟨room, he⟩ | ⟨e, last, _, _, he⟩ | ⟨_, he⟩⟩ <;> rw [he]
  · exact h
  · show (replaceWaiting f s.link.txq).length ≤ 8
    unfold replaceWaiting
    rwa [List.length_map]
  · show (insertEntry _ s.link.txq).length ≤ 8
    rw [(insertEntry_perm _ _).length_eq]
    exact room
  · show (insertEntry _ (dropLastWaiting s.link.txq)).length ≤ 8
    rw [(insertEntry_perm _ _).length_eq, List.length_cons, dropLastWaiting_length last]
    exact h
  · exact h

theorem enqueue_order {f : Frame} {s : State} (hf : f.origin = s.station.number)
    (own : ∀ e ∈ s.link.txq, e.frame.origin = s.station.number)
    (h : s.link.txq.Pairwise (fun a b => arbitration a.frame ≤ arbitration b.frame)) :
    (enqueue f s).1.link.txq.Pairwise (fun a b => arbitration a.frame ≤ arbitration b.frame) := by
  rcases enqueue_cases f s with ⟨he, _⟩ | ⟨_, ⟨_, he⟩ | ⟨_, he⟩ | ⟨e, _, _, _, he⟩ | ⟨_, he⟩⟩ <;> rw [he]
  · exact h
  · exact replaceWaiting_order own hf h
  · exact insertEntry_order h
  · exact insertEntry_order (h.sublist (dropLastWaiting_sublist _))
  · exact h

theorem enqueue_station (f : Frame) (s : State) : (enqueue f s).1.station = s.station :=
  blocksResponded_station (framesQueued_blocks (enqueue_framesQueued f s))

theorem enqueue_linkKept {f : Frame} {s : State} (hf : f.origin = s.station.number) (k : LinkKept s0 s) :
    LinkKept s0 (enqueue f s).1 where
  length := enqueue_length f k.length
  order := enqueue_order hf k.own k.order
  own := by
    rw [enqueue_station]
    exact enqueue_entries (Q := fun e => e.frame.origin = s.station.number) hf (fun _ _ _ => hf) k.own
  buffer := by rw [(enqueue_framesQueued f s).1]; exact k.buffer
  waits h := enqueue_entries (Q := fun e => e.sending = false) rfl (fun _ _ h => h)
    (k.waits ((enqueue_line f s).symm.trans h))
  first h := k.first ((enqueue_line f s).symm.trans h)
  quiet hq h := by
    have quiet := (enqueue_mode f s).symm.trans hq
    unfold enqueue at h ⊢
    rw [if_pos (.inl quiet)] at h ⊢
    exact k.quiet quiet h

theorem linkKept_of {s t : State} (k : LinkKept s0 s) (hl : t.link = s.link) (hs : t.station.number = s.station.number)
    (hm : t.mode = s.mode) : LinkKept s0 t := by
  refine ⟨?_, ?_, ?_, ?_, ?_, ?_, ?_⟩
  · rw [hl]; exact k.length
  · rw [hl]; exact k.order
  · rw [hl, hs]; exact k.own
  · rw [hl]; exact k.buffer
  · rw [hl]; exact k.waits
  · rw [hl]; exact k.first
  · rw [hl, hm]; exact k.quiet

theorem Act.linkKept {e : Owed} {s t : State} (h : Act s0 d s e t)
    (k : LinkKept s0 s) : LinkKept s0 t := by
  obtain ⟨frame, status, hold, answer, loss⟩ := frames_induction (I := LinkKept s0)
    (fun s t h n k => linkKept_of k rfl rfl rfl) (fun s f hf k => enqueue_linkKept hf k) k
  cases h with
  | frame f origin _ _ => exact frame f origin
  | statusFrame => exact status
  | holdFrame => exact hold
  | holdAnswer => exact answer
  | loss n e => exact loss n e
  | grant i | defer i | withdraw i | expire i => cases i <;> exact linkKept_of k rfl rfl rfl
  | rxq l h => exact ⟨k.1, k.2, k.3, h.elim (fun h => h.trans k.4) id, k.5, k.6, k.7⟩
  | txq q leaves =>
    refine ⟨leaves.length.trans k.length, leaves.order k.order, fun e he => ?_, k.buffer, fun hi e he => ?_, k.first,
      fun hq hi => ?_⟩
    · obtain ⟨x, hx, hf⟩ := leaves.frames e he
      rw [← hf]; exact k.own x hx
    · exact k.waits hi e (leaves.waiting (k.waits hi) e he)
    · have := leaves.length
      rw [k.quiet hq hi] at this
      exact List.length_eq_zero_iff.1 (Nat.le_zero.1 this)
  | silence kind awake =>
    refine ⟨show 1 ≤ 8 by decide, List.pairwise_singleton _ _, fun e he => ?_, Nat.zero_le _, fun _ e he => ?_, k.first,
      fun hq => absurd hq awake⟩
    · rw [List.mem_singleton.1 he]; rfl
    · rw [List.mem_singleton.1 he]
  | busy => exact ⟨k.1, k.2, k.3, k.4, nofun, nofun, fun _ h => nomatch h⟩
  | idle awake h first => exact ⟨k.1, k.2, k.3, k.4, fun _ => h, fun _ => first, fun hq => absurd hq awake⟩
  | freeze => exact linkKept_of k rfl rfl rfl
  | mode m _ _ _ quiet => exact ⟨k.1, k.2, k.3, k.4, k.5, k.6, fun hq => absurd hq quiet⟩
  | quiet sends =>
    refine ⟨k.1, k.2, k.3, k.4, k.5, k.6, fun _ hi => ?_⟩
    obtain ⟨e, he, hs⟩ := sends
    exact absurd (hs.symm.trans (k.first hi e he)) nofun
  | _ => exact linkKept_of k rfl rfl rfl

/-! ### Counters -/

def CountersKept (s : State) : Prop := ∀ c, counterOf s.counters c ≤ 65535

theorem countersKept_count (c : CounterName) {s : State} (k : CountersKept s) : CountersKept (count c s) := by
  intro x
  by_cases h : x = c
  · rw [h, count_counters, counterOf_bump]; exact Nat.min_le_right _ _
  · rw [count_counters, counterOf_bump_ne _ h]; exact k x

theorem Act.countersKept {e : Owed} {s t : State} (h : Act s0 d s e t) (k : CountersKept s) : CountersKept t := by
  obtain ⟨frame, status, hold, answer, loss⟩ := frames_induction (I := CountersKept)
    (fun s t h n k => k) (fun s f _ k => by
      rcases enqueue_cases f s with ⟨he, _⟩ | ⟨_, ⟨_, he⟩ | ⟨_, he⟩ | ⟨e, _, _, _, he⟩ | ⟨_, he⟩⟩ <;> rw [he]
      · exact k
      · exact k
      · exact k
      · exact countersKept_count _ (s := { s with link.txq := _ }) k
      · exact countersKept_count _ k) k
  cases h with
  | frame f origin _ _ => exact frame f origin
  | statusFrame => exact status
  | holdFrame => exact hold
  | holdAnswer => exact answer
  | loss n e => exact loss n e
  | counter c _ => exact countersKept_count c k
  | grant i | defer i | withdraw i | expire i => cases i <;> exact k
  | _ => exact k

/-! ### Tracking and the arrivals list -/

/-- What the changes of a command keep of tracking and of the arrivals list. -/
structure TrackingKept (s : State) : Prop where
  zone : s.tracking.zone.length ≤ 24
  order : Ordered s.tracking.zone
  arrivals : s.arrivals.length ≤ 4
  offRun : s.tracking.offRun ≤ 65535
  reverseDebt : s.tracking.reverseDebt ≤ 65535
  tagSequence : s.tracking.tagSeq < 2048

theorem sameUnits_heads {z z' : List UnitRecord} (h : SameUnits z z') : z'.map (·.head) = z.map (·.head) := by
  have := congrArg (List.map (·.head)) h
  simpa only [List.map_map, Function.comp_def, withoutHandover] using this

theorem ordered_of_heads {z z' : List UnitRecord} (h : z'.map (·.head) = z.map (·.head)) (ho : Ordered z) : Ordered z' := by
  have := (List.pairwise_map (f := UnitRecord.head) (R := fun a b => b ≤ a)).2 ho
  rw [← h] at this
  exact List.pairwise_map.1 this

theorem trackingKept_of_framesQueued {s t : State} (h : FramesQueued s t) (k : TrackingKept s) : TrackingKept t where
  zone := by rw [sameUnits_length h.2]; exact k.zone
  order := ordered_of_heads (sameUnits_heads h.2) k.order
  arrivals := by rw [h.1]; exact k.arrivals
  offRun := by rw [h.1]; exact k.offRun
  reverseDebt := by rw [h.1]; exact k.reverseDebt
  tagSequence := by rw [h.1]; exact k.tagSequence

/-- The entering record stands behind every record whose head is at least its own (R71). -/
theorem insertByHead_order (r : UnitRecord) {z : List UnitRecord} (h : Ordered z) : Ordered (insertByHead r z) := by
  induction z with
  | nil => exact List.pairwise_singleton _ _
  | cons x z ih =>
    obtain ⟨hx, hz⟩ := List.pairwise_cons.1 h
    unfold insertByHead
    split
    · next le =>
      refine List.pairwise_cons.2 ⟨fun y hy => ?_, ih hz⟩
      rcases List.mem_cons.1 ((insertByHead_perm r z).mem_iff.1 hy) with rfl | hy
      · exact le
      · exact hx y hy
    · next less =>
      refine List.pairwise_cons.2 ⟨fun y hy => ?_, h⟩
      rcases List.mem_cons.1 hy with rfl | hy
      · omega
      · have := hx y hy
        omega

theorem Act.trackingKept {e : Owed} {s t : State} (h : Act s0 d s e t) (k : TrackingKept s) : TrackingKept t := by
  have zone := h.zoneLength k.zone
  cases h with
  | frame f _ _ _ => exact trackingKept_of_framesQueued (queueFrame_framesQueued f s) k
  | statusFrame => exact trackingKept_of_framesQueued (queueStatus_framesQueued s) k
  | holdFrame => exact trackingKept_of_framesQueued (queueHold_framesQueued s) k
  | holdAnswer => exact trackingKept_of_framesQueued (queueFrame_framesQueued _ s) k
  | loss n e => exact trackingKept_of_framesQueued (settleLoss_framesQueued n e s) k
  | grant i | defer i | withdraw i | expire i => cases i <;> exact ⟨k.1, k.2, k.3, k.4, k.5, k.6⟩
  | zone z _ order => exact ⟨zone, order k.order, k.3, k.4, k.5, k.6⟩
  | zoneLess z h => exact ⟨zone, k.order.sublist h, k.3, k.4, k.5, k.6⟩
  | zoneMore r => exact ⟨zone, insertByHead_order r k.order, k.3, k.4, k.5, k.6⟩
  | zoneSwap r => exact ⟨zone, insertByHead_order r (k.order.sublist (List.dropLast_sublist _)), k.3, k.4, k.5, k.6⟩
  | belt offRun debt lot run paid =>
    exact ⟨k.1, k.2, k.3, run.elim id (fun h => h ▸ k.4), paid.elim id (fun h => h.trans k.5), k.6⟩
  | issue => exact ⟨k.1, k.2, k.3, k.4, k.5, Nat.mod_lt _ (by decide)⟩
  | arrivals l tags =>
    have := congrArg List.length tags
    simp only [List.length_map] at this
    exact ⟨k.1, k.2, this ▸ k.3, k.4, k.5, k.6⟩
  | arrivalsLess l h => exact ⟨k.1, k.2, h.length_le.trans k.3, k.4, k.5, k.6⟩
  | arrivalTaken t => exact ⟨k.1, k.2, List.eraseP_sublist.length_le.trans k.3, k.4, k.5, k.6⟩
  | arrivalMore a f room =>
    refine ⟨k.1, k.2, ?_, k.4, k.5, k.6⟩
    show (s.arrivals ++ [a]).length ≤ 4
    rw [List.length_append]
    exact room
  | _ => exact ⟨k.1, k.2, k.3, k.4, k.5, k.6⟩

/-! ### Limiters (R131, R132) -/

/-- A limiter holds at most 4 grants, and the one that it defers leaves at most 4. -/
structure LimiterKept (window : Nat) (l : Limiter) : Prop where
  history : l.history.length ≤ 4
  deferral : ∀ d, l.deferred = some d → window ≠ 0 → (l.history.filter (fun e => decide (d - e ≤ window))).length < 4

theorem pruneHistory_length (window t : Nat) (h : List Nat) : (pruneHistory window t h).length ≤ h.length :=
  List.length_filter_le _ _

theorem limiterAnswer_granted {window stop t : Nat} {l l' : Limiter} (h : limiterAnswer window stop t l = .granted l') :
    l' = { l with history := if window = 0 then pruneHistory window t l.history
        else pruneHistory window t l.history ++ [t] }
      ∧ (window = 0 ∨ (pruneHistory window t l.history).length < 4) := by
  unfold limiterAnswer at h
  dsimp only at h
  split at h
  · next ok =>
    obtain rfl := LimiterAnswer.granted.inj h
    simp only [Bool.and_eq_true, Bool.or_eq_true, decide_eq_true_eq] at ok
    exact ⟨rfl, ok.1⟩
  · nomatch h

/-- A deferral names a time at which the oldest of 4 grants has left the window. -/
theorem limiterAnswer_deferred {window stop t failing length : Nat} {l l' : Limiter}
    (h : limiterAnswer window stop t l = .deferred l' failing length) :
    ∃ expiry, l' = { l with history := pruneHistory window t l.history, deferred := some expiry }
      ∧ (window = 0 ∨ (pruneHistory window t l.history).length < 4
        ∨ (pruneHistory window t l.history).headD 0 + window + 1 ≤ expiry) := by
  unfold limiterAnswer at h
  dsimp only at h
  split at h
  · nomatch h
  · obtain ⟨rfl, _, _⟩ := LimiterAnswer.deferred.inj h
    refine ⟨_, rfl, ?_⟩
    by_cases ok : (decide (window = 0) || decide ((pruneHistory window t l.history).length < 4)) = true
    · simp only [Bool.or_eq_true, decide_eq_true_eq] at ok
      exact ok.elim .inl fun h => .inr (.inl h)
    · rw [if_neg ok]
      exact .inr (.inr (le_max_left _ _))

theorem filter_lt_of_head {p : Nat → Bool} {h : List Nat} (four : h.length ≤ 4) (head : h.length = 4 → p (h.headD 0) = false) :
    (h.filter p).length < 4 := by
  cases h with
  | nil => exact Nat.zero_lt_succ _
  | cons x h =>
    have le := List.length_filter_le p h
    simp only [List.length_cons] at four head
    by_cases hx : p x = true
    · have : h.length + 1 ≠ 4 := fun h4 => by
        have := head h4
        rw [List.headD_cons, hx] at this
        nomatch this
      rw [List.filter_cons_of_pos hx, List.length_cons]
      omega
    · rw [List.filter_cons_of_neg hx]
      omega

theorem limiterKept_granted {window stop t : Nat} {l l' : Limiter} (free : l.deferred = none)
    (h : limiterAnswer window stop t l = .granted l') (k : LimiterKept window l) : LimiterKept window l' := by
  obtain ⟨rfl, room⟩ := limiterAnswer_granted h
  have pruned := (pruneHistory_length window t l.history).trans k.history
  refine ⟨?_, fun d hd => nomatch free.symm.trans hd⟩
  dsimp only
  split
  · exact pruned
  · next hw =>
    rw [List.length_append]
    exact room.resolve_left hw

theorem limiterKept_deferred {window stop t failing length : Nat} {l l' : Limiter}
    (h : limiterAnswer window stop t l = .deferred l' failing length) (k : LimiterKept window l) :
    LimiterKept window l' := by
  obtain ⟨expiry, rfl, late⟩ := limiterAnswer_deferred h
  have pruned := (pruneHistory_length window t l.history).trans k.history
  refine ⟨pruned, fun d hd hw => ?_⟩
  obtain rfl := Option.some.inj hd
  refine filter_lt_of_head pruned fun h4 => ?_
  rcases late with h0 | less | late
  · exact absurd h0 hw
  · dsimp only at h4; omega
  · rw [decide_eq_false_iff_not]
    dsimp only
    omega

theorem limiterKept_expire {window t : Nat} {l : Limiter} (h : l.deferred = some t) (k : LimiterKept window l) :
    LimiterKept window (limiterExpire window t l) := by
  have pruned := (pruneHistory_length window t l.history).trans k.history
  unfold limiterExpire
  refine ⟨?_, nofun⟩
  dsimp only
  split
  · exact pruned
  · next hw =>
    rw [List.length_append]
    exact k.deferral t h hw

/-- What the changes of a command keep of the limiters, of the debt and of the pending profile. -/
structure StationKept (d : Owed) (s : State) : Prop where
  drive : LimiterKept (s.item 9) s.flow.driveLimiter
  door : LimiterKept (s.item 76) s.flow.doorLimiter
  before : s.hasProfile = false → s.flow.driveLimiter.deferred = none ∧ s.flow.doorLimiter.deferred = none
  debt : s.defrost.debt ≤ 8
  pending : s.station.pendingProfile.Pairwise (fun a b => a.1 < b.1)
  joining : d.accepting = false → s.mode = .joining → s.station.frozen = none

theorem stationKept_of {e : Owed} {s t : State} (k : StationKept d s)
    (accepting : e.accepting = false → d.accepting = false) (hs : t.station.frozen = s.station.frozen)
    (hp : t.station.pendingProfile = s.station.pendingProfile) (hm : t.mode = s.mode)
    (hdr : t.flow.driveLimiter.history = s.flow.driveLimiter.history
      ∧ t.flow.driveLimiter.deferred = s.flow.driveLimiter.deferred)
    (hdo : t.flow.doorLimiter.history = s.flow.doorLimiter.history
      ∧ t.flow.doorLimiter.deferred = s.flow.doorLimiter.deferred)
    (hd : t.defrost.debt = s.defrost.debt) : StationKept e t := by
  have item : ∀ n, t.item n = s.item n := fun n => by unfold State.item State.items; rw [hs]
  have profile : t.hasProfile = s.hasProfile := by unfold State.hasProfile; rw [hs]
  refine ⟨⟨?_, ?_⟩, ⟨?_, ?_⟩, ?_, ?_, ?_, fun ha => ?_⟩
  · rw [hdr.1]; exact k.drive.1
  · rw [hdr.1, hdr.2, item]; exact k.drive.2
  · rw [hdo.1]; exact k.door.1
  · rw [hdo.1, hdo.2, item]; exact k.door.2
  · rw [profile, hdr.2, hdo.2]; exact k.before
  · rw [hd]; exact k.debt
  · rw [hp]; exact k.pending
  · rw [hm, hs]; exact k.joining (accepting ha)

theorem stationKept_of_framesQueued {e : Owed} {s t : State} (h : FramesQueued s t) (k : StationKept d s)
    (accepting : e.accepting = false → d.accepting = false) : StationKept e t := by
  have hs : t.station = s.station := blocksResponded_station (framesQueued_blocks h)
  have hf := framesQueued_flow h
  exact stationKept_of k accepting (by rw [hs]) (by rw [hs]) (framesQueued_mode h) (by rw [hf]; exact ⟨rfl, rfl⟩)
    (by rw [hf]; exact ⟨rfl, rfl⟩) (by rw [h.1]; rfl)

theorem limiterKept_of {w : Nat} {l : Limiter} (k : LimiterKept w l) : LimiterKept w { l with deferred := none } :=
  ⟨k.history, nofun⟩

theorem Act.stationKept {e : Owed} {s t : State} (h : Act s0 d s e t) (k : StationKept d s) : StationKept e t := by
  cases h with
  | owe l =>
    refine ⟨k.1, k.2, k.3, k.4, k.5, fun he => k.joining ?_⟩
    by_contra hd
    rw [l.accepting (by simpa using hd)] at he
    nomatch he
  | frame f _ _ _ => exact stationKept_of_framesQueued (queueFrame_framesQueued f s) k id
  | statusFrame => exact stationKept_of_framesQueued (queueStatus_framesQueued s) k id
  | holdFrame => exact stationKept_of_framesQueued (queueHold_framesQueued s) k id
  | holdAnswer => exact stationKept_of_framesQueued (queueFrame_framesQueued _ s) k id
  | loss n e => exact stationKept_of_framesQueued (settleLoss_framesQueued n e s) k id
  | flow f _ drive door => exact stationKept_of k id rfl rfl rfl drive door rfl
  | grant i l free h =>
    cases i with
    | drive =>
      refine ⟨limiterKept_granted free h k.drive, k.2, fun hp => ?_, k.4, k.5, k.6⟩
      obtain ⟨rfl, _⟩ := limiterAnswer_granted h
      exact k.before hp
    | door =>
      refine ⟨k.1, limiterKept_granted free h k.door, fun hp => ?_, k.4, k.5, k.6⟩
      obtain ⟨rfl, _⟩ := limiterAnswer_granted h
      exact k.before hp
  | defer i l failing length profile h =>
    cases i with
    | drive =>
      exact ⟨limiterKept_deferred h k.drive, k.2, fun hp => absurd (profile.symm.trans hp) nofun, k.4, k.5, k.6⟩
    | door =>
      exact ⟨k.1, limiterKept_deferred h k.door, fun hp => absurd (profile.symm.trans hp) nofun, k.4, k.5, k.6⟩
  | withdraw i =>
    cases i with
    | drive => exact ⟨limiterKept_of k.drive, k.2, fun hp => ⟨rfl, (k.before hp).2⟩, k.4, k.5, k.6⟩
    | door => exact ⟨k.1, limiterKept_of k.door, fun hp => ⟨(k.before hp).1, rfl⟩, k.4, k.5, k.6⟩
  | expire i t h =>
    cases i with
    | drive => exact ⟨limiterKept_expire h k.drive, k.2, fun hp => ⟨rfl, (k.before hp).2⟩, k.4, k.5, k.6⟩
    | door => exact ⟨k.1, limiterKept_expire h k.door, fun hp => ⟨(k.before hp).1, rfl⟩, k.4, k.5, k.6⟩
  | debtUp h => exact ⟨k.1, k.2, k.3, h, k.5, k.6⟩
  | debtDown => exact ⟨k.1, k.2, k.3, (Nat.sub_le _ _).trans k.4, k.5, k.6⟩
  | items p order => exact ⟨k.1, k.2, k.3, k.4, order k.pending, k.6⟩
  | freeze n mode passes _ fresh =>
    have none : s.hasProfile = false := by unfold State.hasProfile; rw [k.joining fresh mode]; rfl
    obtain ⟨drive, door⟩ := k.before none
    refine ⟨⟨k.drive.1, fun d hd => nomatch drive.symm.trans hd⟩, ⟨k.door.1, fun d hd => nomatch door.symm.trans hd⟩,
      nofun, ?_, .nil, nofun⟩
    have ok := Stages.passes_of_none passes
    show (if (freezeProfile s).hasRole .freeze then itemNat s.station.pendingProfile 48 else 0) ≤ 8
    split
    · next role =>
      refine ok.freezeDebt ?_
      have role : profileRole s.station.pendingProfile = some .freeze  := of_decide_eq_true role
      rw [ok.profileRole_eq] at role
      have := ok.role
      generalize itemNat s.station.pendingProfile 1 = r at role this
      interval_cases r <;> first | rfl | nomatch role
    · exact Nat.zero_le _
  | mode m _ _ joining _ => exact ⟨k.1, k.2, k.3, k.4, k.5, fun _ hm => absurd hm joining⟩
  | quiet => exact ⟨k.1, k.2, k.3, k.4, k.5, fun _ hm => nomatch hm⟩
  | _ => exact stationKept_of k id rfl rfl rfl ⟨rfl, rfl⟩ ⟨rfl, rfl⟩ rfl

/-! ### Every step -/

theorem packs_of_capacities {s : State} (h : Capacities s) : Packs s :=
  ⟨h.doorList, h.openCarrier, h.noCarrierBefore, h.joiningNoProfile⟩

/-- The settled line: an IDLE one with a frame has started it. -/
theorem settle_idle {s0 s : State} (k : LinkKept s0 s) (h : (settle s).link.line = .idle) :
    (settle s).link.txq = [] := by
  by_cases hq : s.mode = .quiet
  · have link : (settle s).link = s.link := by
      show (settleLine s).link = _
      unfold settleLine
      rw [if_pos hq]
    rw [link] at h ⊢
    exact k.quiet hq h
  · have link : (settle s).link = startIfIdle s.link := by
      show (settleLine s).link = _
      unfold settleLine
      rw [if_neg hq]
    rw [link] at h ⊢
    rcases startIfIdle_cases s.link with he | ⟨e, rest, _, _, _, he⟩
    · rw [he] at h ⊢
      by_contra hne
      have waits : sendingEntry s.link.txq = none :=
        List.find?_eq_none.2 fun x hx => by rw [k.waits h x hx]; nofun
      unfold startIfIdle at he
      rw [if_pos ⟨h, by rw [waits]; rfl⟩] at he
      obtain ⟨x, rest, hx⟩ := List.exists_cons_of_ne_nil hne
      unfold startHead at he
      rw [hx] at he
      have := congrArg Link.line he
      rw [h] at this
      nomatch this
    · rw [he] at h
      nomatch h

/-- The settling changes no frame of the queue. -/
theorem settle_frames (s : State) : (settle s).link.txq.map (·.frame) = s.link.txq.map (·.frame) := by
  show (settleLine s).link.txq.map (·.frame) = _
  rcases settleLine_cases s with he | ⟨e, rest, _, _, _, hq, he⟩
  · rw [he]
  · rw [he, hq]; rfl

theorem settle_rxq (s : State) : (settle s).link.rxq = s.link.rxq := by
  show (settleLine s).link.rxq = _
  rcases settleLine_cases s with he | ⟨e, rest, _, _, _, hq, he⟩ <;> rw [he]

theorem capacities_of_kept {s0 u : State} {e : Owed} (link : LinkKept s0 u) (counters : CountersKept u)
    (tracking : TrackingKept u) (station : StationKept e u) (packs : PacksKept e u) (he : e.accepting = false) :
    Capacities (settle u) where
  transmitQueue := by
    rw [← List.length_map (f := TxEntry.frame), settle_frames, List.length_map]; exact link.length
  transmitOrder := by
    have := (List.pairwise_map (f := TxEntry.frame) (R := fun a b => arbitration a ≤ arbitration b)).2 link.order
    rw [← settle_frames] at this
    exact (List.pairwise_map (f := TxEntry.frame) (R := fun a b => arbitration a ≤ arbitration b)).1 this
  ownFrames x hx := by
    have : x.frame ∈ u.link.txq.map (·.frame) := by rw [← settle_frames]; exact List.mem_map_of_mem hx
    obtain ⟨y, hy, hf⟩ := List.mem_map.1 this
    rw [← hf]; exact link.own y hy
  receiveBuffer := by rw [settle_rxq]; exact link.buffer
  zoneQueue := tracking.zone
  arrivalsList := tracking.arrivals
  doorList := packs.doorList
  openCarrier := packs.openCarrier
  joiningNoProfile := station.joining he
  noCarrierBefore := packs.noCarrierBefore
  offRun := tracking.offRun
  reverseDebt := tracking.reverseDebt
  tagSequence := tracking.tagSequence
  counters := counters
  zoneOrder := tracking.order
  debt := station.debt
  pendingOrder := station.pending
  driveHistory := station.drive.history
  doorHistory := station.door.history
  driveDeferral := station.drive.deferral
  doorDeferral := station.door.deferral
  noDeferralBefore := station.before
  idleLine := settle_idle link

theorem linkKept_of_capacities {s : State} (h : Capacities s) : LinkKept s s :=
  ⟨h.transmitQueue, h.transmitOrder, h.ownFrames, h.receiveBuffer, fun hi => by rw [h.idleLine hi]; nofun,
    fun hi => by rw [h.idleLine hi]; nofun, fun _ => h.idleLine⟩

theorem trackingKept_of_capacities {s : State} (h : Capacities s) : TrackingKept s :=
  ⟨h.zoneQueue, h.zoneOrder, h.arrivalsList, h.offRun, h.reverseDebt, h.tagSequence⟩

theorem stationKept_of_capacities {s : State} (h : Capacities s) (d : Owed) : StationKept d s :=
  ⟨⟨h.driveHistory, h.driveDeferral⟩, ⟨h.doorHistory, h.doorDeferral⟩, h.noDeferralBefore, h.debt, h.pendingOrder,
    fun _ => h.joiningNoProfile⟩

theorem packsKept_of_packs {s : State} (h : Packs s) (d : Owed) : PacksKept d s := ⟨h.1, h.2, h.3, fun _ => h.4⟩

/-- Every command but FULL_RESET keeps the capacities. -/
theorem next_capacities {c : Instr} {s t : State} (h : Next c s t) (hc : ∀ n r, c ≠ .fullReset n r) (k : Capacities s) :
    Capacities t := by
  obtain ⟨e, u, ha, ht, hm⟩ := next_acts h hc
  have packs := packs_of_capacities k
  have link := ha.keeps (P := fun _ u => LinkKept s u) Act.linkKept (linkKept_of_capacities k)
  have counters := ha.keeps (P := fun _ u => CountersKept u) Act.countersKept k.counters
  have tracking := ha.keeps (P := fun _ u => TrackingKept u) Act.trackingKept (trackingKept_of_capacities k)
  have station := ha.keeps (P := StationKept) Act.stationKept (stationKept_of_capacities k _)
  have packing := ha.packs packs (packsKept_of_packs packs _)
  cases ht with
  | outputs => exact capacities_of_kept link counters tracking station packing hm.accepting
  | none i p r eq =>
    subst eq
    exact
      { k with
        reverseDebt := tracking.reverseDebt }

end Sys2Proof.Changes


/-! PROOFS. A QUIET station (R15), and the command frames: what their refusal and the admitted PROFILE, STOP, WALK_END and
FAULT_CLEAR leave (R8 to R13, R17). -/

namespace Sys2Proof.Commands

open Sys2Proof Sys2Proof.Machine Sys2Proof.Safety Sys2Proof.Laws

/-! ### In QUIET -/

/-- The answer changes at most the levels of the input pins. -/
def PinsAlone (s : State) (o : Host.Outcome State Fault Refusal) : Prop :=
  ∃ (i : Bool) (e : EncoderPair), o = .next { s with faultIn := i, encoder := e }

theorem pinsAlone_same (s : State) : PinsAlone s (.next s) := ⟨s.faultIn, s.encoder, rfl⟩

/-- A choice between doing nothing and an answer whose condition fails in QUIET. -/
theorem pinsAlone_ite {s : State} {p : Prop} [Decidable p] {o : Host.Outcome State Fault Refusal} (h : ¬ p) :
    PinsAlone s (if p then o else .next s) := by
  rw [if_neg h]
  exact pinsAlone_same s

theorem pinsAlone_ite_pos {s : State} {p : Prop} [Decidable p] {o : Host.Outcome State Fault Refusal} (h : p) :
    PinsAlone s (if p then .next s else o) := by
  rw [if_pos h]
  exact pinsAlone_same s

section Quiet

variable {s : State} (quiet : s.mode = .quiet)

include quiet

theorem acts_quiet : s.acts = false := by
  simp [State.acts, quiet]

theorem takeFrame_quiet (k : Kind) : takeFrame k s = none := by
  unfold takeFrame
  split
  · rfl
  · simp [quiet]

theorem handleFrame_quiet (k : Kind) : handleFrame k s = none := by
  simp [handleFrame, takeFrame_quiet quiet k]

theorem takeCommand_quiet (k : Kind) (accepted : State → Bool) (effect : Frame → State → State) :
    PinsAlone s (takeCommand k accepted effect s) := by
  unfold takeCommand
  rw [handleFrame_quiet quiet]
  exact pinsAlone_same s

theorem exec_quiet (c : Instr) (h : ∀ n r, c ≠ .fullReset n r) : PinsAlone s (exec c s) := by
  have idle := acts_quiet quiet
  cases c with
  | fullReset n r => exact absurd rfl (h n r)
  | faultInput =>
    show PinsAlone s (execFaultInput s)
    unfold execFaultInput
    rw [if_pos (.inl quiet)]
    exact ⟨true, s.encoder, rfl⟩
  | faultInputInactive => exact ⟨false, s.encoder, rfl⟩
  | forwardCount on =>
    show PinsAlone s (execForwardCount on s)
    unfold execForwardCount
    rw [if_neg (by simpa [State.acts, State.hasProfile] using fun _ => quiet)]
    exact ⟨s.faultIn, _, rfl⟩
  | reverseCount =>
    show PinsAlone s (execReverseCount s)
    unfold execReverseCount
    rw [if_neg (by simpa [State.acts, State.hasProfile] using fun _ => quiet)]
    exact ⟨s.faultIn, _, rfl⟩
  | gapClose => exact pinsAlone_ite (by simp [idle])
  | lengthClose => exact pinsAlone_ite (by simp [idle])
  | arrivalAtT => exact pinsAlone_ite (by simp [idle])
  | walkPassQueued => exact pinsAlone_ite (by simp [quiet])
  | gapRunEnd => exact pinsAlone_ite (by simp [idle])
  | throttleStep => exact pinsAlone_ite (by simp [idle])
  | defrostIntervalExpiry => exact pinsAlone_ite (by simp [intervalRuns, quiet])
  | transmitStart => exact pinsAlone_ite_pos (.inl quiet)
  | frameReceived bits => exact pinsAlone_ite_pos (.inl quiet)
  | lineBusy => exact pinsAlone_ite_pos (.inl quiet)
  | oneShotTick ch => exact pinsAlone_ite_pos quiet
  | arbitrationLoss bit =>
    show PinsAlone s (execArbitrationLoss bit s)
    unfold execArbitrationLoss
    split
    · exact pinsAlone_same s
    · exact pinsAlone_ite_pos (.inl quiet)
  | bitError bit =>
    show PinsAlone s (execBitError bit s)
    unfold execBitError
    split
    · exact pinsAlone_same s
    · exact pinsAlone_ite (by simp [quiet])
  | acknowledgeSlot dominant =>
    show PinsAlone s (execAcknowledgeSlot dominant s)
    unfold execAcknowledgeSlot
    split
    · exact pinsAlone_same s
    · exact pinsAlone_ite_pos quiet
  | timeBaseTick b =>
    show PinsAlone s (execTimeBaseTick b s)
    unfold execTimeBaseTick
    split
    · exact pinsAlone_same s
    · exact pinsAlone_ite_pos quiet
  | hold =>
    show PinsAlone s (execHold s)
    rw [execHold, takeFrame_quiet quiet]
    exact pinsAlone_same s
  | status =>
    show PinsAlone s (execStatus s)
    rw [execStatus, takeFrame_quiet quiet]
    exact pinsAlone_same s
  | walkPass =>
    show PinsAlone s (execWalkPass s)
    rw [execWalkPass, handleFrame_quiet quiet]
    exact pinsAlone_same s
  | walkSeen =>
    show PinsAlone s (execWalkSeen s)
    rw [execWalkSeen, handleFrame_quiet quiet]
    exact pinsAlone_same s
  | offer =>
    show PinsAlone s (execOffer s)
    rw [execOffer, handleFrame_quiet quiet]
    exact pinsAlone_same s
  | take =>
    show PinsAlone s (execTake s)
    rw [execTake, handleFrame_quiet quiet]
    exact pinsAlone_same s
  | pass =>
    show PinsAlone s (execPass s)
    rw [execPass, handleFrame_quiet quiet]
    exact pinsAlone_same s
  | eventReceived =>
    show PinsAlone s (execEventReceived s)
    rw [execEventReceived, handleFrame_quiet quiet]
    exact pinsAlone_same s
  | reportReceived =>
    show PinsAlone s (execReportReceived s)
    rw [execReportReceived, handleFrame_quiet quiet]
    exact pinsAlone_same s
  | profile | profileEnd | walkStart | walkEnd | run | stop | lot | faultClear | restart | reportAsk =>
    exact takeCommand_quiet quiet _ _ _
  | statusTimerExpiry =>
    show PinsAlone s (execStatusTimerExpiry s)
    unfold execStatusTimerExpiry
    split
    · exact pinsAlone_same s
    · exact pinsAlone_ite (by simp [quiet])
  | peerStale node => exact pinsAlone_ite (by simp [quiet])
  | sampleExpiry t0 t1 t2 t3 =>
    show PinsAlone s (execSampleExpiry t0 t1 t2 t3 s)
    unfold execSampleExpiry
    split
    · exact pinsAlone_same s
    · exact pinsAlone_ite (by simp [idle])
  | offerReplyExpiry t =>
    show PinsAlone s (execOfferReplyExpiry t s)
    unfold execOfferReplyExpiry
    split
    · exact pinsAlone_same s
    · exact pinsAlone_ite (by simp [idle])
  | reservationExpiry t =>
    show PinsAlone s (execReservationExpiry t s)
    unfold execReservationExpiry
    split
    · exact pinsAlone_same s
    · exact pinsAlone_ite (by simp [idle])
  | deferralExpiry i =>
    show PinsAlone s (execDeferralExpiry i s)
    unfold execDeferralExpiry
    split
    · exact pinsAlone_same s
    · exact pinsAlone_ite (by simp [idle])
  | doorCycleCompletion =>
    show PinsAlone s (execDoorCycleCompletion s)
    unfold execDoorCycleCompletion
    split
    · exact pinsAlone_ite (by simp [idle])
    · exact pinsAlone_same s
  | defrostCompletion =>
    show PinsAlone s (execDefrostCompletion s)
    unfold execDefrostCompletion
    split
    · exact pinsAlone_same s
    · exact pinsAlone_ite (by simp [idle])

end Quiet

/-- Settles O6: every command finds the frame handler closed, the part not acting, or the state itself in its way. -/
theorem quietActsOnNothing : Obligations.QuietActsOnNothing :=
  fun c _ quiet h => exec_quiet quiet c h

/-! ### A handled frame -/

/-- The station with its oldest frame taken, and what that hands on. -/
def handed (f : Frame) (rest : List Frame) (s : State) : State := handDownstream s.downstreamEntry (taken f rest s)

section Handed

variable (f : Frame) (rest : List Frame) (s : State)

theorem handed_blocks : BlocksResponded (taken f rest s) (handed f rest s) := handDownstream_taken_blocks f rest s

@[simp] theorem handed_mode : (handed f rest s).mode = s.mode :=
  (blocksResponded_mode (handed_blocks f rest s)).trans (Changes.taken_mode f rest s)

@[simp] theorem handed_station : (handed f rest s).station = s.station :=
  (blocksResponded_station (handed_blocks f rest s)).trans (Changes.taken_station f rest s)

theorem complete_handed : Complete (handed f rest s) ↔ Complete s :=
  (complete_blocksResponded (handed_blocks f rest s)).trans (complete_taken f rest s)

theorem handed_of_other (other : f.origin ≠ s.downstream) : handed f rest s = taken f rest s :=
  handDownstream_taken other

theorem eventOf_taken (code datum tag : Nat) : eventOf (taken f rest s) code datum tag = eventOf s code datum tag := by
  unfold eventOf
  rw [Changes.taken_station]

end Handed

/-- A frame handed to the link controller at a command's end, after responses. -/
theorem queueFrame_blocks {s t : State} (f : Frame) (h : BlocksResponded s t) :
    BlocksResponded s (settle (queueFrame f t)) :=
  blocksResponded_trans h (blocksResponded_trans (framesQueued_blocks (queueFrame_framesQueued f t)) (settle_blocks _))

/-- Of a handled frame an event is reported: responses alone, and the event's entry where nothing is handed on. -/
theorem event_of_handled (f : Frame) (rest : List Frame) (s : State) (n : EventName) (datum tag : Nat) :
    BlocksResponded (taken f rest s) (settle (queueEvent n datum tag (handed f rest s)))
      ∧ (f.origin ≠ s.downstream →
          GivesFrame (eventOf s (eventCode n) datum tag) (taken f rest s)
            (settle (queueEvent n datum tag (handed f rest s)))) := by
  refine ⟨queueFrame_blocks _ (handed_blocks f rest s), fun other => ?_⟩
  rw [handed_of_other f rest s other, ← eventOf_taken f rest s]
  exact Stages.gives_queueFrame _ _

/-! ### PROFILE (R17) -/

theorem mem_profilePut {p : Profile} (order : p.Pairwise (fun a b => a.1 < b.1)) (k : Nat) (w : ItemValue) (n : Nat)
    (v : ItemValue) :
    (n, v) ∈ profilePut p k w ↔ (n = k ∧ v = w) ∨ (n ≠ k ∧ (n, v) ∈ p) := by
  induction p with
  | nil => simp [profilePut]
  | cons m p ih =>
    obtain ⟨first, order⟩ := List.pairwise_cons.1 order
    have after : (n, v) ∈ p → m.1 < n := fun h => first _ h
    have head : (n, v) = m ↔ n = m.1 ∧ v = m.2 := Prod.mk_inj
    unfold profilePut
    split
    · simp only [List.mem_cons, Prod.mk_inj, head]
      constructor
      · rintro (h | ⟨rfl, rfl⟩ | h)
        · exact .inl h
        · exact .inr ⟨by omega, .inl ⟨rfl, rfl⟩⟩
        · have := after h
          exact .inr ⟨by omega, .inr h⟩
      · rintro (h | ⟨_, h | h⟩)
        · exact .inl h
        · exact .inr (.inl h)
        · exact .inr (.inr h)
    · split
      · next _ same =>
        simp only [List.mem_cons, Prod.mk_inj, head]
        constructor
        · rintro (h | h)
          · exact .inl h
          · have := after h
            exact .inr ⟨by omega, .inr h⟩
        · rintro (h | ⟨ne, h | h⟩)
          · exact .inl h
          · exact absurd h.1 (by omega)
          · exact .inr h
      · next ge ne =>
        simp only [List.mem_cons, ih order, head]
        constructor
        · rintro (h | h | h)
          · exact .inr ⟨by omega, .inl h⟩
          · exact .inl h
          · exact .inr ⟨h.1, .inr h.2⟩
        · rintro (h | ⟨hn, h | h⟩)
          · exact .inr (.inl h)
          · exact .inl h
          · exact .inr (.inr ⟨hn, h⟩)

theorem exec_profile {f : Frame} {rest : List Frame} {s : State} (ho : Oldest .profile f rest s) (ha : Admitted f s) :
    exec .profile s = done (storeItem f (handed f rest s)) :=
  takeCommand_admitted (k := .profile) rfl ho ha

theorem exec_profileEnd {f : Frame} {rest : List Frame} {s : State} (ho : Oldest .profileEnd f rest s)
    (ha : Admitted f s) : exec .profileEnd s = done (endProfile f (handed f rest s)) :=
  Stages.exec_profileEnd ho ha

/-- Settles O12: a refusal and a locked profile frame are one event each, and `profilePut` is the stored value. -/
theorem commandRefused : Obligations.CommandRefused := by
  refine ⟨fun c f rest s reason hc ho hr => ?_, fun c f rest s kinds ho ha mode => ?_,
    fun f rest s ho ha mode order => ?_⟩
  · obtain ⟨eff, he⟩ := exec_command hc
    have hk : (commandOf f.kind).isSome := by rw [hc]; rfl
    have answer : exec c s = done (refuseCommand reason f (handed f rest s)) := by
      rw [he, takeCommand_oldest ho, refusalReason_refused hk hr]
      rfl
    exact next_of_done answer (event_of_handled f rest s .commandRefused _ _)
  · have joined : (handed f rest s).mode ≠ .joining := by rwa [handed_mode]
    have answer : exec c s = done (profileLocked f (handed f rest s)) := by
      rcases kinds with ⟨rfl, kind⟩ | ⟨rfl, kind⟩ <;> rw [kind] at ho
      · rw [exec_profile ho ha, storeItem, if_neg joined]
      · rw [exec_profileEnd ho ha, endProfile, if_neg joined]
    exact next_of_done answer (event_of_handled f rest s .profileLocked _ _)
  · have joined : (handed f rest s).mode = .joining := by rwa [handed_mode]
    have held : (handed f rest s).station.pendingProfile = s.station.pendingProfile := by rw [handed_station]
    have stored : storeItem f (handed f rest s)
        = { handed f rest s with
            station.pendingProfile :=
              profilePut s.station.pendingProfile (payloadByte f.payload 0) (payloadValue f.payload 1) } := by
      rw [storeItem, if_pos joined, held]
    refine ⟨profilePut s.station.pendingProfile (payloadByte f.payload 0) (payloadValue f.payload 1),
      next_of_done (exec_profile ho ha) ⟨?_, fun other => ?_, Changes.profilePut_order _ _ _ order,
        mem_profilePut order _ _⟩⟩
    · rw [stored]
      exact blocksResponded_trans (Stages.pendingProfile_blocks (handed_blocks f rest s) _) (settle_blocks _)
    · rw [stored, handed_of_other f rest s other]

end Sys2Proof.Commands


/-! PROOFS. STOP, WALK_END and FAULT_CLEAR: the states that they enter (R10 to R13). -/

namespace Sys2Proof.Commands

open Sys2Proof Sys2Proof.Machine Sys2Proof.Safety Sys2Proof.Laws

/-! ### Entering READY and PROFILED -/

/-- Entering a state that is not FAULTED, by a change that ends no formation. -/
theorem enterState_unended (new : StationState) {s : State} (hf : new ≠ .faulted)
    (h : endsFormation s.mode new = false) : BlocksResponded { s with mode := new } (enterState new s) := by
  have posture := changePosture_blocks s.mode { s with mode := new }
  unfold enterState
  have entered : (changePosture s.mode { s with mode := new }).mode = new := blocksResponded_mode posture
  generalize changePosture s.mode { s with mode := new } = u at posture entered
  refine blocksResponded_trans posture ?_
  unfold respondToState
  dsimp only
  rw [entered, h, if_neg Bool.false_ne_true]
  have walk : discardWalk s.mode u = u := by
    unfold discardWalk
    rw [if_neg (by simp [entered, hf])]
  have aborts : BlocksResponded u (stateAborts (discardWalk s.mode u)) := by
    rw [walk]
    unfold stateAborts
    rw [if_neg (by simp [entered, hf])]
    split
    · exact withdrawDoor_blocks _
    · exact blocksResponded_refl _
  exact blocksResponded_trans aborts (ReverseDebt.stateTests_blocks _)

/-- Entering READY or PROFILED after responses ends formation, and nothing else. -/
theorem enterState_formationEnded {s0 s : State} (new : StationState) (hf : new ≠ .faulted) (hd : new ≠ .draining)
    (h : BlocksResponded s0 s) :
    (settle (enterState new s)).mode = new
      ∧ FormationEnded { s0 with mode := new } (settle (enterState new s)) := by
  have whole : QueueWritten { s0 with mode := new } (settle (enterState new s)) :=
    queueWritten_trans (blocksResponded_queue (blocksResponded_setMode h new))
      (queueWritten_trans (enterState_queue new s hf hd) (blocksResponded_queue (settle_blocks _)))
  have mode : (settle (enterState new s)).mode = new := by
    rcases whole.2.1 with h | h
    · exact h
    · exact absurd h.1 hd
  refine ⟨mode, whole, fun none => ?_⟩
  rw [mode]
  exact blocksResponded_trans (blocksResponded_setMode h new)
    (blocksResponded_trans (enterState_none new hf ((formingNow_blocksResponded h).trans none)) (settle_blocks _))

theorem restState_complete {s : State} (h : Complete s) : restState s = .ready :=
  if_pos ((neighboursComplete_iff s).2 h)

theorem restState_incomplete {s : State} (h : ¬ Complete s) : restState s = .profiled :=
  if_neg (mt (neighboursComplete_iff s).1 h)

theorem restState_cases (s : State) : restState s = .ready ∨ restState s = .profiled := by
  unfold restState
  split
  · exact .inl rfl
  · exact .inr rfl

/-! ### STOP -/

theorem exec_stop {f : Frame} {rest : List Frame} {s : State} (ho : Oldest .stop f rest s) (ha : Admitted f s) :
    exec .stop s = done (drainTest (enterState .draining (handed f rest s))) :=
  takeCommand_admitted (k := .stop) rfl ho ha

/-- Settles O14: entry to DRAINING is responses alone, and the drain test sees the drain as the command found it. -/
theorem stopDrains : Obligations.StopDrains := by
  intro f rest s ho ha
  refine next_of_done (exec_stop ho ha) ?_
  have handedOn := handed_blocks f rest s
  have running : (handed f rest s).mode = .running := by
    rw [handed_mode]
    simpa [StateAccepts, ho.2.1] using ha.2.2
  generalize taken f rest s = u at handedOn ⊢
  generalize handed f rest s = v at handedOn running ⊢
  have entered : BlocksResponded { u with mode := .draining } (enterState .draining v) :=
    blocksResponded_trans (blocksResponded_setMode handedOn _) (enterState_unended .draining nofun (by rw [running]; rfl))
  have drained : Drained (enterState .draining v) ↔ Drained u := (drained_blocksResponded entered).trans Iff.rfl
  refine ⟨queueResponded_settle (drainTest_responded entered), fun complete => ?_, fun incomplete => ?_⟩
  · rw [settle_mode]
    exact drainTest_drained (blocksResponded_mode entered) (drained.2 complete)
  · rw [drainTest_undrained (mt drained.1 incomplete)]
    exact blocksResponded_trans entered (settle_blocks _)

/-! ### WALK_END -/

theorem exec_walkEnd {f : Frame} {rest : List Frame} {s : State} (ho : Oldest .walkEnd f rest s) (ha : Admitted f s) :
    exec .walkEnd s = done (endWalk f (handed f rest s)) :=
  takeCommand_admitted (k := .walkEnd) rfl ho ha

theorem endWalk_eq (f : Frame) (s : State) :
    endWalk f s = enterState (restState s) { s with peer.walk := none } := rfl

theorem walk_blocks {s t : State} (h : BlocksResponded s t) (w : Option Walk) :
    BlocksResponded { s with peer.walk := w } { t with peer.walk := w } :=
  blocksResponded_update h (fun s => { s with peer.walk := w }) rfl (fun _ => rfl) (fun _ => rfl)

/-- Settles O16: the record decides the state, and leaving WALKING ends formation. -/
theorem walkEndLeaves : Obligations.WalkEndLeaves := by
  intro f rest s ho ha
  refine next_of_done (exec_walkEnd ho ha) ?_
  have handedOn := walk_blocks (handed_blocks f rest s) none
  have complete := complete_handed f rest s
  have walking : (handed f rest s).mode = .walking := by
    rw [handed_mode]
    simpa [StateAccepts, ho.2.1] using ha.2.2
  generalize taken f rest s = u at handedOn ⊢
  generalize handed f rest s = v at handedOn complete walking ⊢
  rw [endWalk_eq]
  refine ⟨fun yes => ?_, fun no => ?_, respondToState_mergeBound _ _ (.inr ?_)⟩
  · rw [restState_complete (complete.2 yes)]
    exact enterState_formationEnded .ready nofun nofun handedOn
  · rw [restState_incomplete (mt complete.1 no)]
    exact enterState_formationEnded .profiled nofun nofun handedOn
  · rw [blocksResponded_mode (changePosture_blocks _ _)]
    show endsFormation v.mode (restState v) = true
    rw [walking]
    rcases restState_cases v with h | h <;> rw [h] <;> rfl

/-! ### FAULT_CLEAR -/

theorem exec_faultClear {f : Frame} {rest : List Frame} {s : State} (ho : Oldest .faultClear f rest s)
    (ha : Admitted f s) : exec .faultClear s = done (clearFault f (handed f rest s)) :=
  takeCommand_admitted (k := .faultClear) rfl ho ha

theorem blocksResponded_faultIn {s t : State} (h : BlocksResponded s t) : t.faultIn = s.faultIn := by
  have e := congrArg State.faultIn h.1
  exact e

@[simp] theorem taken_faultIn (f : Frame) (rest : List Frame) (s : State) : (taken f rest s).faultIn = s.faultIn := by
  obtain ⟨p, h⟩ := taken_eq f rest s
  rw [h]

theorem faultLatch_blocks {s t : State} (h : BlocksResponded s t) (b : Bool) :
    BlocksResponded { s with station.faultLatch := b } { t with station.faultLatch := b } :=
  blocksResponded_update h (fun s => { s with station.faultLatch := b }) rfl (fun _ => rfl) (fun _ => rfl)

/-- Settles O18: from FAULTED no formation ends, so the entered state's responses are all that follows. -/
theorem faultClearLeaves : Obligations.FaultClearLeaves := by
  intro f rest s ho ha
  refine next_of_done (exec_faultClear ho ha) ?_
  have faulted : (handed f rest s).mode = .faulted := by
    rw [handed_mode]
    simpa [StateAccepts, ho.2.1] using ha.2.2
  have refused := refuseCommand_taken (f := f) (rest := rest) (s := s) (r := 4)
  rw [ho.2.1, show handDownstream s.downstreamEntry (taken f rest s) = handed f rest s from rfl] at refused
  have input : (handed f rest s).faultIn = s.faultIn :=
    (blocksResponded_faultIn (handed_blocks f rest s)).trans (taken_faultIn f rest s)
  have handedOn := faultLatch_blocks (handed_blocks f rest s) false
  have complete := complete_handed f rest s
  generalize taken f rest s = u at handedOn refused ⊢
  generalize handed f rest s = v at handedOn faulted input complete refused ⊢
  have enters : ∀ new : StationState, new ≠ .faulted →
      BlocksResponded { u with mode := new, station.faultLatch := false }
        (settle (enterState new { v with station.faultLatch := false })) :=
    fun new hn => blocksResponded_trans (blocksResponded_setMode handedOn new)
      (blocksResponded_trans (enterState_unended new hn (by show endsFormation v.mode new = false; rw [faulted]; rfl))
        (settle_blocks _))
  refine ⟨fun inactive yes => ?_, fun inactive no => ?_, fun active => ?_⟩
  · rw [clearFault, if_neg (by rw [input, inactive]; exact Bool.false_ne_true), restState_complete (complete.2 yes)]
    exact enters .ready nofun
  · rw [clearFault, if_neg (by rw [input, inactive]; exact Bool.false_ne_true), restState_incomplete (mt complete.1 no)]
    exact enters .profiled nofun
  · rw [clearFault, if_pos (input.trans active)]
    exact refused

end Sys2Proof.Commands


/-! PROOFS. Closes of a forming and of a merge-bound segment, merges at a full queue (R78, R81, R82), and LOT (R80). -/

namespace Sys2Proof.Zone

open Sys2Proof Sys2Proof.Machine Sys2Proof.Safety Sys2Proof.Laws

/-! ### The same units -/

theorem sameUnits_concat {a b : List UnitRecord} {x y : UnitRecord} (h : SameUnits a b)
    (hxy : withoutHandover y = withoutHandover x) : SameUnits (a ++ [x]) (b ++ [y]) := by
  unfold SameUnits at h ⊢
  simp [h, hxy]

/-- The same units as a queue with a last record. -/
theorem sameUnits_last {zone z : List UnitRecord} {r : UnitRecord} (h : SameUnits (zone ++ [r]) z) :
    ∃ zone' r', z = zone' ++ [r'] ∧ SameUnits zone zone' ∧ withoutHandover r' = withoutHandover r := by
  obtain ⟨zone', last, rfl, same, lastSame⟩ := List.map_eq_append_iff.1 (h.trans (by simp : _ = zone.map withoutHandover ++ [withoutHandover r]))
  obtain ⟨r', rest, rfl, hr, none⟩ := List.map_eq_cons_iff.1 lastSame
  rw [List.map_eq_nil_iff.1 none]
  exact ⟨zone', r', rfl, same, hr⟩

theorem sameUnits_cons {z z' : List UnitRecord} {x : UnitRecord} (h : SameUnits (x :: z) z') :
    ∃ x' rest, z' = x' :: rest ∧ withoutHandover x' = withoutHandover x ∧ SameUnits z rest :=
  List.map_eq_cons_iff.1 h

theorem withoutHandover_head {x y : UnitRecord} (h : withoutHandover y = withoutHandover x) : y.head = x.head := by
  have e := congrArg UnitRecord.head h
  exact e

theorem withoutHandover_forming {x y : UnitRecord} (h : withoutHandover y = withoutHandover x) :
    y.forming = x.forming := by
  have e := congrArg UnitRecord.forming h
  exact e

/-- The place of a record in the queue does not look at handover. -/
theorem sameUnits_insertByHead (r : UnitRecord) {z z' : List UnitRecord} (h : SameUnits z z') :
    SameUnits (insertByHead r z) (insertByHead r z') := by
  induction z generalizing z' with
  | nil =>
    rw [(sameUnits_nil h).1 rfl]
    exact sameUnits_refl _
  | cons x z ih =>
    obtain ⟨x', rest, rfl, hx, same⟩ := sameUnits_cons h
    unfold insertByHead
    rw [withoutHandover_head hx]
    split
    · have := ih same
      unfold SameUnits at this ⊢
      simp [this, hx]
    · unfold SameUnits at same ⊢
      simp [same, hx]

theorem withoutHandover_absorb {x y : UnitRecord} (r : UnitRecord) (h : withoutHandover y = withoutHandover x) :
    withoutHandover (absorb y r) = withoutHandover (absorb x r) := by
  have e := congrArg (absorb · r) h
  exact e

theorem withoutHandover_closed {x y : UnitRecord} (length mass : Nat) (h : withoutHandover y = withoutHandover x) :
    withoutHandover { y with length := length, mass := mass, forming := false }
      = withoutHandover { x with length := length, mass := mass, forming := false } := by
  have e := congrArg (fun r : UnitRecord => { r with length := length, mass := mass, forming := false }) h
  exact e

/-! ### Entering at a full queue (R82) -/

/-- What the handover unit does at an insertion: responses, and PASSes that count. -/
def Examines (examine : State → State) : Prop :=
  ∀ s, ∃ n, BlocksResponded { s with counters.untakenPass := n } (examine s)

theorem examines_zone : Examines examineZone := examineZone_blocks

theorem examines_id : Examines id := fun s => ⟨s.counters.untakenPass, blocksResponded_refl s⟩

/-- Below 24 records the record joins, and the queue is examined. -/
theorem enterVia_joins {examine : State → State} {r : UnitRecord} {s : State} (h : s.tracking.zone.length < 24) :
    enterVia examine r s = examine (insertRecord r s) :=
  if_pos h

/-- At 24 records, the last of them closed, the last one absorbs the record. -/
theorem enterVia_merges {examine : State → State} {r last : UnitRecord} {zone : List UnitRecord} {s : State}
    (hz : s.tracking.zone = zone ++ [last]) (full : s.tracking.zone.length = 24) (closed : last.forming = false) :
    enterVia examine r s = mergeInto last r s := by
  have hl : s.tracking.zone.getLast? = some last := by rw [hz]; simp
  unfold enterVia
  rw [if_neg (by omega), hl]
  simp [closed]

/-- The state that a merge leaves before its event. -/
def mergedState (zone : List UnitRecord) (last r : UnitRecord) (s : State) : State :=
  { s with
    tracking.zone := zone ++ [absorb last r]
    counters.merged := min (s.counters.merged + 1) 65535 }

theorem mergeInto_eq {r last : UnitRecord} {zone : List UnitRecord} {s : State} (hz : s.tracking.zone = zone ++ [last]) :
    mergeInto last r s
      = queueFrame (eventOf s 7 r.tag.toNat last.tag.toNat) (mergedState zone last r s) := by
  unfold mergeInto replaceLast
  rw [hz, List.dropLast_concat]
  rfl

theorem mergeInto_framesQueued {r last : UnitRecord} {zone : List UnitRecord} {s : State}
    (hz : s.tracking.zone = zone ++ [last]) :
    FramesQueued (mergedState zone last r s) (mergeInto last r s) := by
  rw [mergeInto_eq hz]
  exact queueFrame_framesQueued _ _

theorem mem_queued {e : TxEntry} {f : Frame} {q : List TxEntry} :
    e ∈ queued f q ↔ e = ⟨f, 0, false, false⟩ ∨ e ∈ q :=
  Changes.mem_insertEntry

theorem framesQueued_merged {s t : State} (h : FramesQueued s t) : t.counters.merged = s.counters.merged := by
  have e := congrArg (fun s => s.counters.merged) h.1
  exact e

/-- Settles O40: at 24 records `enterVia` is `mergeInto`, whose event is one frame. -/
theorem fullQueueMerges : Obligations.FullQueueMerges := by
  intro s zone last r hz full closed
  have merges : enterRecord r s = mergeInto last r s := enterVia_merges hz full closed
  have queued := mergeInto_framesQueued (r := r) hz
  rw [merges]
  refine ⟨queued.2, framesQueued_merged queued, fun awake loud room => ?_⟩
  have accepts : Accepts (eventOf s 7 r.tag.toNat last.tag.toNat).kind (mergedState zone last r s) :=
    ⟨awake, loud, room, rfl⟩
  rw [mergeInto_eq hz, queueFrame_accepts accepts]
  exact ⟨_, mem_queued.2 (.inl rfl), rfl⟩

/-! ### The close of a merge-bound segment (R81) -/

theorem closeForming_merge {enter : UnitRecord → State → State} {changed : Nat × Nat → State → State} {f : Nat → Nat}
    {s : State} {m : MergeBound} (hm : s.tracking.mergeBound = some m) (h : f m.length ≠ 0) :
    closeForming enter changed f s
      = changed s.counts (enter (mergeBoundRecord s m (f m.length))
          (gainLoad (massOf s (f m.length)) { s with tracking.mergeBound := none })) := by
  unfold closeForming
  rw [hm]
  exact if_neg h

/-- A merge-bound segment of length 0 is discarded. -/
theorem closeForming_discard {enter : UnitRecord → State → State} {changed : Nat × Nat → State → State} {f : Nat → Nat}
    {s : State} {m : MergeBound} (hm : s.tracking.mergeBound = some m) (h : f m.length = 0) :
    closeForming enter changed f s = { s with tracking.mergeBound := none } := by
  unfold closeForming
  rw [hm]
  exact if_pos h

theorem mergeRecord_eq (s : State) (m : MergeBound) (length : Nat) :
    mergeRecord s m length = mergeBoundRecord s m length := rfl

theorem insertByHead_place (r : UnitRecord) (before after : List UnitRecord) (hb : ∀ x ∈ before, r.head ≤ x.head)
    (ha : ∀ x ∈ after, x.head < r.head) : insertByHead r (before ++ after) = before ++ r :: after := by
  induction before with
  | nil =>
    cases after with
    | nil => rfl
    | cons x rest => exact if_neg (by have := ha x List.mem_cons_self; omega)
  | cons x before ih =>
    rw [List.cons_append, List.cons_append, insertByHead, if_pos (hb x List.mem_cons_self),
      ih fun y hy => hb y (List.mem_cons_of_mem _ hy)]

/-- The zone that `MergeClosed` names, by the two ways of entering. -/
theorem mergeClosed_cases {s : State} {zone z : List UnitRecord} {m : MergeBound} {length : Nat}
    (h : MergeClosed s zone m length z) :
    (zone.length < 24 ∧ z = insertByHead (mergeBoundRecord s m length) zone)
      ∨ ∃ before last, zone = before ++ [last] ∧ zone.length = 24 ∧ last.forming = false
          ∧ z = before ++ [absorb last (mergeBoundRecord s m length)] := by
  rcases h with ⟨full, before, last, hz, closed, rfl⟩ | ⟨room, before, after, hz, hb, ha, rfl⟩
  · exact .inr ⟨before, last, hz, full, closed, rfl⟩
  · refine .inl ⟨room, ?_⟩
    rw [hz, insertByHead_place _ before after hb ha, mergeRecord_eq]

theorem blocksResponded_merged {s t : State} (h : BlocksResponded s t) : t.counters.merged = s.counters.merged := by
  have e := congrArg (fun s => s.counters.merged) h.1
  exact e

theorem blocksResponded_loadInput {s t : State} (h : BlocksResponded s t) : t.flow.loadInput = s.flow.loadInput := by
  have e := congrArg (fun s => s.flow.loadInput) h.1
  exact e

/-- What a merge-bound segment's record leaves at its entry: the zone of `MergeClosed`, and MERGED. -/
theorem enterVia_mergeClosed {examine : State → State} (hx : Examines examine) {s0 s : State}
    {zone z : List UnitRecord} {m : MergeBound} {length : Nat} (same : SameUnits zone s.tracking.zone)
    (h : MergeClosed s0 zone m length z) :
    ∃ u, BlocksResponded u (enterVia examine (mergeBoundRecord s0 m length) s) ∧ SameUnits z u.tracking.zone
      ∧ u.tracking.zone ≠ []
      ∧ u = { s with tracking.zone := u.tracking.zone, counters := u.counters }
      ∧ u.counters.merged = (if zone.length = 24 then min (s.counters.merged + 1) 65535 else s.counters.merged) := by
  have lengths := sameUnits_length same
  rcases mergeClosed_cases h with ⟨room, rfl⟩ | ⟨before, last, rfl, full, closed, rfl⟩
  · obtain ⟨n, hn⟩ := hx (insertRecord (mergeBoundRecord s0 m length) s)
    rw [enterVia_joins (by omega)]
    refine ⟨_, hn, sameUnits_insertByHead _ same, ?_, rfl, ?_⟩
    · exact List.ne_nil_of_length_eq_add_one (Changes.insertByHead_length _ _)
    · rw [if_neg (by omega)]
      rfl
  · obtain ⟨before', last', hz, hb, hl⟩ := sameUnits_last same
    rw [enterVia_merges hz (by omega) ((withoutHandover_forming hl).trans closed)]
    refine ⟨_, framesQueued_blocks (mergeInto_framesQueued hz), ?_, ?_, rfl, ?_⟩
    · exact sameUnits_concat hb (withoutHandover_absorb _ hl)
    · simp [mergedState]
    · rw [if_pos full]
      rfl

/-- With a record in the queue no drain is complete. -/
theorem zoneChanged_occupied (c : Nat × Nat) {s : State} (h : s.tracking.zone ≠ []) :
    zoneChanged c s = queueChanged c s := by
  refine drainTest_undrained fun drained => h ?_
  exact ((drained_blocksResponded (queueChanged_blocks c s)).1 drained).1

/-! ### LOT (R80) -/

theorem queueWritten_update {s t : State} (h : QueueWritten s t) (g : State → State)
    (hg : g (withQueue s t) = withQueue (g s) (g t)) (hm : ∀ s, (g s).mode = s.mode)
    (hl : ∀ s, (g s).link.line = s.link.line) : QueueWritten (g s) (g t) := by
  refine ⟨(congrArg g h.1).trans hg, ?_, ?_⟩
  · rw [hm, hm]
    exact h.2.1
  · unfold LineKept
    rw [hl, hl]
    exact h.2.2

/-- The station with another current lot. -/
def withLot (lot : Nat) (s : State) : State := { s with tracking.currentLot := lot }

theorem lot_blocks {s t : State} (h : BlocksResponded s t) (lot : Nat) :
    BlocksResponded (withLot lot s) (withLot lot t) :=
  blocksResponded_update h (withLot lot) rfl (fun _ => rfl) (fun _ => rfl)

theorem lot_queue {s t : State} (h : QueueWritten s t) (lot : Nat) : QueueWritten (withLot lot s) (withLot lot t) :=
  queueWritten_update h (withLot lot) rfl (fun _ => rfl) (fun _ => rfl)

theorem settle_sameUnits (s : State) : SameUnits s.tracking.zone (settle s).tracking.zone := (settle_blocks s).2.1

theorem blocksResponded_loading {s t : State} (h : BlocksResponded s t) : t.loading = s.loading := by
  have e := congrArg State.loading h.1
  exact e

/-- A close with no segment to close, or with one, after responses to `s0`: what LOT leaves. -/
theorem changeLot_formationEnded {s0 s : State} (h : BlocksResponded s0 s) (f : Frame) :
    FormationEnded (withLot (payload16 f.payload 0) s0) (settle (changeLot f s)) := by
  have closes : QueueWritten s0 (closeForming enterRecord zoneChanged id s) :=
    queueWritten_trans (blocksResponded_queue h) (closeForming_queue _ enterRecord_queue _ zoneChanged_queue id s)
  refine ⟨queueWritten_trans (lot_queue closes _) (blocksResponded_queue (settle_blocks _)), fun none => ?_⟩
  have nothing : closeForming enterRecord zoneChanged id s = s :=
    closeForming_none _ _ _ ((formingNow_blocksResponded h).trans none)
  have lot : changeLot f s = withLot (payload16 f.payload 0) s := by rw [changeLot, nothing]; rfl
  have mode : s.mode = s0.mode := blocksResponded_mode h
  rw [lot, settle_mode, show (withLot (payload16 f.payload 0) s).mode = s0.mode from mode]
  exact blocksResponded_trans (lot_blocks h _) (settle_blocks _)

/-- LOT closes a forming segment at its head. -/
theorem changeLot_closes {s0 s : State} (h : BlocksResponded s0 s) (f : Frame) {zone : List UnitRecord} {r : UnitRecord}
    (merge : s0.tracking.mergeBound = none) (hz : s0.tracking.zone = zone ++ [r]) (forming : r.forming = true)
    (pos : 0 < r.head) :
    SameUnits
      (zone ++ [{ r with
        length := r.head, mass := min (roundDiv (r.head * s0.loading) 256) 65535, forming := false }])
      (settle (changeLot f s)).tracking.zone := by
  obtain ⟨zone', r', hz', same, hr⟩ := sameUnits_last (hz ▸ h.2.1)
  have head := withoutHandover_head hr
  obtain ⟨load, hc⟩ := closeForming_last enterRecord zoneChanged id s zone' r'
    ((blocksResponded_mergeBound h).trans merge) hz' ((withoutHandover_forming hr).trans forming)
    (by show r'.head ≠ 0; omega)
  have closed : (changeLot f s).tracking.zone
      = zone' ++ [{ r' with
          length := r.head, mass := min (roundDiv (r.head * s0.loading) 256) 65535, forming := false }] := by
    rw [changeLot, hc, ← head, ← blocksResponded_loading h]
    rfl
  refine sameUnits_trans ?_ (settle_sameUnits _)
  rw [closed]
  exact sameUnits_concat same (withoutHandover_closed _ _ hr)

/-- LOT closes a merge-bound segment with its length. -/
theorem changeLot_merges {s0 s : State} (h : BlocksResponded s0 s) (f : Frame) {m : MergeBound}
    (merge : s0.tracking.mergeBound = some m) :
    (m.length = 0 → SameUnits s0.tracking.zone (settle (changeLot f s)).tracking.zone)
      ∧ (0 < m.length → ∀ z, MergeClosed s0 s0.tracking.zone m m.length z →
          SameUnits z (settle (changeLot f s)).tracking.zone) := by
  have merge' : s.tracking.mergeBound = some m := (blocksResponded_mergeBound h).trans merge
  refine ⟨fun zero => ?_, fun pos z closed => ?_⟩
  · refine sameUnits_trans h.2.1 (sameUnits_trans ?_ (settle_sameUnits _))
    rw [changeLot, closeForming_discard merge' (f := id) zero]
    exact sameUnits_refl _
  · have record : mergeBoundRecord s m m.length = mergeBoundRecord s0 m m.length := by
      unfold mergeBoundRecord massOf
      rw [blocksResponded_loading h]
    have gained : (gainLoad (massOf s m.length) { s with tracking.mergeBound := none }).tracking.zone
        = s.tracking.zone := by rw [gainLoad_tracking]
    obtain ⟨u, blocks, zoneSame, occupied, _⟩ := enterVia_mergeClosed examines_zone
      (s := gainLoad (massOf s m.length) { s with tracking.mergeBound := none }) (by rw [gained]; exact h.2.1) closed
    have still : (enterRecord (mergeBoundRecord s0 m m.length)
        (gainLoad (massOf s m.length) { s with tracking.mergeBound := none })).tracking.zone ≠ [] :=
      fun hn => occupied ((sameUnits_nil blocks.2.1).2 hn)
    refine sameUnits_trans zoneSame (sameUnits_trans blocks.2.1 (sameUnits_trans ?_ (settle_sameUnits _)))
    have lot : (changeLot f s).tracking.zone = (closeForming enterRecord zoneChanged id s).tracking.zone := rfl
    have close := closeForming_merge (enter := enterRecord) (changed := zoneChanged) (f := id) merge' pos.ne'
    simp only [id_eq] at close
    rw [lot, close, record, zoneChanged_occupied _ still]
    exact (queueChanged_blocks _ _).2.1

theorem exec_lot {f : Frame} {rest : List Frame} {s : State} (ho : Oldest .lot f rest s) (ha : Admitted f s) :
    exec .lot s = done (changeLot f (Commands.handed f rest s)) :=
  takeCommand_admitted (k := .lot) rfl ho ha

theorem changeLot_mergeBound (f : Frame) (s : State) : (changeLot f s).tracking.mergeBound = none :=
  closeForming_mergeBound _ enterRecord_mergeBound _ zoneChanged_mergeBound id s

@[simp] theorem taken_loading (f : Frame) (rest : List Frame) (s : State) : (taken f rest s).loading = s.loading := by
  obtain ⟨p, h⟩ := taken_eq f rest s
  rw [h]
  rfl

/-- Settles O17: LOT is `closeForming` at the head it finds, and the new lot. -/
theorem lotSetsCurrentLot : Obligations.LotSetsCurrentLot := by
  intro f rest s ho ha
  refine next_of_done (exec_lot ho ha) ?_
  have blocks := Commands.handed_blocks f rest s
  have tracking := Changes.taken_tracking f rest s
  have loading := taken_loading f rest s
  generalize taken f rest s = u at blocks tracking loading ⊢
  generalize Commands.handed f rest s = v at blocks ⊢
  refine ⟨changeLot_formationEnded blocks f, changeLot_mergeBound f v, fun zone r merge hz forming pos => ?_,
    fun m z merge => ?_⟩
  · rw [← loading]
    exact changeLot_closes blocks f (by rw [tracking, merge]) (by rw [tracking, hz]) forming pos
  · obtain ⟨discards, merges⟩ := changeLot_merges blocks f (m := m) (by rw [tracking, merge])
    rw [tracking] at discards merges
    refine ⟨discards, fun pos closed => merges pos z ?_⟩
    unfold MergeClosed mergeRecord massAt at closed ⊢
    rw [loading]
    exact closed

end Sys2Proof.Zone


/-! PROOFS. The line link's events: arbitration loss, failed attempts, the acknowledge slot and received frames (R32 to
R37, R42). -/

namespace Sys2Proof.Line

open Sys2Proof Sys2Proof.Machine Sys2Proof.Safety Sys2Proof.Laws

/-- On a BUSY line a command ends with its outputs alone. -/
theorem settle_busy {s : State} (h : s.link.line = .busy) : settle s = settleOutputs s := by
  have line : settleLine s = s := by
    unfold settleLine startIfIdle
    rw [h]
    simp
  rw [settle, line]

theorem sendingEntry_none {q : List TxEntry} (h : ∀ x ∈ q, x.sending = false) : sendingEntry q = none :=
  List.find?_eq_none.2 fun x hx => by simp [h x hx]

/-- A queue with one entry in transmission. -/
structure Transmits (before after : List TxEntry) (e : TxEntry) (s : State) : Prop where
  queue : s.link.txq = before ++ e :: after
  sends : e.sending = true
  others : ∀ x ∈ before ++ after, x.sending = false

namespace Transmits

variable {before after : List TxEntry} {e : TxEntry} {s : State} (h : Transmits before after e s)

include h

theorem entry : sendingEntry s.link.txq = some e := by
  rw [h.queue]
  exact sendingEntry_eq h.sends h.others

theorem dropped : setTxq (dropSending s.link.txq) s = { s with link.txq := before ++ after } := by
  rw [h.queue, dropSending_eq h.sends h.others]
  rfl

theorem stopped (n : Nat) :
    setTxq (stopSending n s.link.txq) s
      = { s with link.txq := before ++ { e with sending := false, attempts := n } :: after } := by
  rw [h.queue, stopSending_eq n h.sends h.others]
  rfl

theorem rest_length : (before ++ after).length + 1 = s.link.txq.length := by
  rw [h.queue]
  simp only [List.length_append, List.length_cons]
  omega

end Transmits

/-! ### Arbitration loss (R32) -/

/-- Settles O24: the entry leaves where R40 or R45 takes it, and waits otherwise. -/
theorem arbitrationLossKeeps : Obligations.ArbitrationLossKeeps := by
  intro s before after e bit awake queue sends others lost
  have h : Transmits before after e s := ⟨queue, sends, others⟩
  have exec : execArbitrationLoss bit s
      = if leavesUncounted e s.link.txq then done (setTxq (dropSending s.link.txq) s)
        else done (setTxq (stopSending e.attempts s.link.txq) s) := by
    unfold execArbitrationLoss
    rw [h.entry]
    exact if_neg (by simp [awake, lost])
  refine ⟨fun whole old => ?_, fun leaves => ?_⟩
  · show execArbitrationLoss bit s = _
    rw [exec, if_neg (by simp [leavesUncounted, newerWaits, whole, old]), h.stopped]
    rfl
  · show execArbitrationLoss bit s = _
    rw [exec, if_pos (by simpa [leavesUncounted, newerWaits] using leaves), h.dropped]
    rfl

/-! ### Failed attempts (R33 to R35) -/

/-- The eighth failure of an entry that was not an OFFER, outside silencing: the count and, but for an EVENT, the
report. -/
theorem dropEntry_eq {e : TxEntry} {s : State} (loud : s.link.silencing = false) (kind : e.frame.kind ≠ .offer) :
    dropEntry e s
      = if e.frame.kind = .event then count .linkDrop (setTxq (dropSending s.link.txq) s)
        else queueEvent .linkDrop (kindCode e.frame.kind) e.frame.target
          (count .linkDrop (setTxq (dropSending s.link.txq) s)) := by
  unfold dropEntry settleLoss
  rw [if_neg (by rw [loud]; exact Bool.false_ne_true)]
  exact if_pos kind

/-- Settles O25: the failed attempt is counted in the entry, and at the eighth `dropEntry` takes it out. -/
theorem failedAttempts : Obligations.FailedAttempts := by
  intro s before after e c awake queue sends others whole loud failed
  have h : Transmits before after e s := ⟨queue, sends, others⟩
  have exec : exec c s = done (failAttempt e s) := exec_failedAttempt awake h.entry failed
  have notSevered : ¬ e.severed = true := by rw [whole]; exact Bool.false_ne_true
  refine ⟨fun few old => ?_, fun many event => ?_, fun many event offer full => ?_⟩
  · have waits : failAttempt e s = setTxq (stopSending (e.attempts + 1) s.link.txq) s := by
      unfold failAttempt newerWaits
      rw [if_neg notSevered, if_neg (by omega), if_neg (by rw [old]; exact Bool.false_ne_true)]
    show Machine.exec c s = _
    rw [exec, waits, h.stopped]
    rfl
  · have drops : failAttempt e s = count .linkDrop (setTxq (dropSending s.link.txq) s) := by
      unfold failAttempt
      rw [if_neg notSevered, if_pos (by omega), dropEntry_eq loud (by rw [event]; nofun), if_pos event]
    show Machine.exec c s = _
    rw [exec, drops, h.dropped]
    rfl
  · have drops : failAttempt e s = queueEvent .linkDrop (kindCode e.frame.kind) e.frame.target
        (count .linkDrop (setTxq (dropSending s.link.txq) s)) := by
      unfold failAttempt
      rw [if_neg notSevered, if_pos (by omega), dropEntry_eq loud offer, if_neg event]
    have room := h.rest_length
    have accepts : Accepts Kind.event (count .linkDrop { s with link.txq := before ++ after }) :=
      ⟨awake, loud, by show (before ++ after).length < 8; omega, rfl⟩
    show Machine.exec c s = _
    rw [exec, drops, h.dropped, queueEvent, queueFrame_accepts accepts]
    rfl

/-! ### The acknowledge slot (R34) -/

theorem exec_acknowledged {before after : List TxEntry} {e : TxEntry} {s : State} (h : Transmits before after e s)
    (awake : s.mode ≠ .quiet) (whole : e.severed = false) :
    exec (.acknowledgeSlot true) s
      = if s.link.silencing then done (enterQuiet { s with link.txq := before ++ after })
        else done (completeFrame e.frame { s with link.txq := before ++ after }) := by
  show execAcknowledgeSlot true s = _
  unfold execAcknowledgeSlot
  rw [h.entry]
  dsimp only
  rw [if_neg awake, h.dropped, if_pos rfl, if_neg (by rw [whole]; exact Bool.false_ne_true)]

theorem completeFrame_other {f : Frame} (h : f.kind ≠ .offer) (s : State) : completeFrame f s = s := if_neg h

/-- A completed OFFER gives its SENDING record the deadline. -/
theorem completeFrame_offer {f : Frame} (h : f.kind = .offer) (s : State) :
    completeFrame f s
      = { s with
          tracking.zone := s.tracking.zone.map (fun r =>
            if r.tag = (imageOf f.payload).tag ∧ r.handover = .offered .sending then
              { r with handover := .offered (.waiting (s.now + 40)) }
            else r) } := by
  have fold : (fun r : UnitRecord =>
        if r.tag = (imageOf f.payload).tag then
          if r.handover = .offered .sending then { r with handover := .offered (.waiting (s.now + 40)) } else r
        else r)
      = fun r => if r.tag = (imageOf f.payload).tag ∧ r.handover = .offered .sending then
          { r with handover := .offered (.waiting (s.now + 40)) } else r := by
    funext r
    by_cases tag : r.tag = (imageOf f.payload).tag <;> simp [tag]
  unfold completeFrame updateRecord
  rw [if_pos h, fold]

/-! ### Entry to QUIET (R15) -/

theorem settle_quiet {s : State} (h : s.mode = .quiet) : settle s = settleOutputs s := by
  have line : settleLine s = s := by
    unfold settleLine
    rw [if_pos h]
  rw [settle, line]

/-- Outside the live states a fresh posture stops every channel. -/
theorem freshPosture_stops {s : State} (h : liveState s.mode = false) :
    freshPosture s
      = { s with
          channels :=
            ⟨mapChannels (fun _ c => { stoppedChannel with out := c.out }) s.channels.chans, none, none, none⟩ } := by
  unfold freshPosture
  rw [if_neg (by rw [h]; exact Bool.false_ne_true)]
  rfl

theorem settleOutputs_out (s : State) (ch : Nat) (h : ch < 6) :
    (settleOutputs s).channels.chans[ch] = { s.channels.chans[ch] with out := channelOutput s ch s.channels.chans[ch] } :=
  mapChannels_get _ _ ch h

/-- A channel that is not RUNNING shows an inactive output. -/
theorem channelOutput_stopped (s : State) (ch : Nat) {c : Channel} (h : c.run ≠ .running) :
    channelOutput s ch c = false :=
  if_pos h

@[simp] theorem driveOff_drive (s : State) : (driveOff s).flow.drive = false := by
  unfold driveOff
  split
  · rfl
  · next h => exact Bool.eq_false_iff.2 h

@[simp] theorem driveOff_link (s : State) : (driveOff s).link = s.link := by
  unfold driveOff
  split <;> rfl

@[simp] theorem driveOff_peer (s : State) : (driveOff s).peer = s.peer := by
  unfold driveOff
  split <;> rfl

@[simp] theorem driveOff_mode (s : State) : (driveOff s).mode = s.mode := by
  unfold driveOff
  split <;> rfl

@[simp] theorem withdrawDoor_link (s : State) : (withdrawDoor s).link = s.link := by
  unfold withdrawDoor
  split <;> rfl

@[simp] theorem withdrawDoor_peer (s : State) : (withdrawDoor s).peer = s.peer := by
  unfold withdrawDoor
  split <;> rfl

@[simp] theorem withdrawDoor_mode (s : State) : (withdrawDoor s).mode = s.mode := by
  unfold withdrawDoor
  split <;> rfl

/-- What entry to QUIET leaves. -/
structure Silent (q : List TxEntry) (u : State) : Prop where
  mode : u.mode = .quiet
  drive : u.flow.drive = false
  timer : u.peer.statusTimer = none
  silencing : u.link.silencing = false
  queue : u.link.txq = q
  stopped : ∀ ch (h : ch < 6), u.channels.chans[ch].run = .stopped

theorem enterQuiet_silent (s : State) : Silent s.link.txq (enterQuiet s) := by
  unfold enterQuiet
  rw [freshPosture_stops (by simp [withdrawStart, setLimiter]; rfl)]
  exact
    { mode := by simp [withdrawStart, setLimiter]
      drive := by simp
      timer := by simp [withdrawStart, setLimiter]
      silencing := by simp [withdrawStart, setLimiter]
      queue := by simp [withdrawStart, setLimiter]
      stopped := fun ch h => by
        show (mapChannels _ _)[ch].run = _
        rw [mapChannels_get _ _ ch h]
        rfl }

/-- Settles O26: success removes the entry, and completes it or ends silencing. -/
theorem acknowledgedFrames : Obligations.AcknowledgedFrames := by
  intro s before after e awake queue sends others whole
  have h : Transmits before after e s := ⟨queue, sends, others⟩
  have exec := exec_acknowledged h awake whole
  refine ⟨fun loud kind => ?_, fun loud kind => ?_, fun silencing => ?_⟩
  · show Machine.exec _ s = _
    rw [exec, if_neg (by rw [loud]; exact Bool.false_ne_true), completeFrame_other kind]
    rfl
  · show Machine.exec _ s = _
    rw [exec, if_neg (by rw [loud]; exact Bool.false_ne_true), completeFrame_offer kind]
    rfl
  · rw [if_pos silencing] at exec
    have silent := enterQuiet_silent { s with link.txq := before ++ after }
    generalize enterQuiet { s with link.txq := before ++ after } = u at exec silent
    refine next_of_done exec ?_
    rw [settle_quiet silent.mode]
    refine ⟨silent.mode, silent.drive, silent.timer, silent.silencing, silent.queue, fun ch h => ?_⟩
    rw [settleOutputs_out u ch h]
    exact channelOutput_stopped u ch (by rw [silent.stopped ch h]; nofun)

/-! ### Received frames (R36, R37, R42) -/

/-- The line as a frame of another node leaves it. -/
def heard (s : State) : State := { s with link.line := .busy, link.ackDrive := false }

theorem exec_frameReceived {s : State} {bits : List Bool} (awake : s.mode ≠ .quiet)
    (none : ∀ x ∈ s.link.txq, x.sending = false) :
    exec (.frameReceived bits) s
      = match formedFrame bits with
        | .none => done (heard s)
        | some f =>
          if f.origin = s.station.number then
            if s.link.silencing then done (heard s) else done (detectDuplicate f.kind (heard s))
          else done (storeFrame f (heard s)) := by
  show execFrameReceived bits s = _
  unfold execFrameReceived
  rw [if_neg (by simp [awake, sendingEntry_none none])]
  cases formedFrame bits <;> rfl

/-- The frame is not for the receive buffer: no valid origin, another's target, or silencing (R36, R42). -/
def Passed (f : Frame) (s : State) : Prop :=
  f.origin = 0 ∨ (f.target ≠ 0 ∧ f.target ≠ s.station.number) ∨ s.link.silencing = true

theorem not_passed {f : Frame} {s : State} (origin : f.origin ≠ 0)
    (target : f.target = 0 ∨ f.target = s.station.number) (loud : s.link.silencing = false) : ¬ Passed f s := by
  rintro (h | ⟨h0, h1⟩ | h)
  · exact origin h
  · exact target.elim h0 h1
  · rw [loud] at h
    exact Bool.false_ne_true h

theorem storeFrame_passed {f : Frame} {s : State} (h : Passed f s) : storeFrame f (heard s) = heard s := if_pos h

theorem storeFrame_stored {f : Frame} {s : State} (h : ¬ Passed f s) (room : s.link.rxq.length < 4) :
    storeFrame f (heard s)
      = { s with link.line := .busy, link.ackDrive := true, link.rxq := s.link.rxq ++ [f] } :=
  (if_neg h).trans (if_pos room)

theorem storeFrame_overrun {f : Frame} {s : State} (h : ¬ Passed f s) (full : 4 ≤ s.link.rxq.length) :
    storeFrame f (heard s) = count .rxOverrun (heard s) :=
  (if_neg h).trans (if_neg (Nat.not_lt.2 full))

/-- Settles O27: the five outcomes of a received frame, on the line that its bits have made BUSY. -/
theorem framesReceived : Obligations.FramesReceived := by
  intro s bits awake none
  have exec := exec_frameReceived (bits := bits) awake none
  have busy : ∀ u : State, u.link.line = .busy → done u = .next (settleOutputs u) :=
    fun u h => congrArg Host.Outcome.next (settle_busy h)
  refine ⟨fun formed => ?_, fun f formed => ?_⟩
  · rw [formed] at exec
    exact exec.trans (busy _ rfl)
  · rw [formed] at exec
    dsimp only at exec
    refine ⟨fun other passed => ?_, fun other origin target loud room => ?_, fun other origin target loud full => ?_,
      fun own loud => ?_⟩
    · rw [if_neg other, storeFrame_passed passed] at exec
      exact exec.trans (busy _ rfl)
    · rw [if_neg other, storeFrame_stored (not_passed origin target loud) room] at exec
      exact exec.trans (busy _ rfl)
    · rw [if_neg other, storeFrame_overrun (not_passed origin target loud) full] at exec
      exact exec.trans (busy _ rfl)
    · rw [if_pos own, if_neg (by rw [loud]; exact Bool.false_ne_true)] at exec
      exact exec.trans (busy _ rfl)

end Sys2Proof.Line


/-! PROOFS. A transmit queue with room (R39, R40): what it keeps while blocks queue frames. A STATUS and a HOLD merge with
the one that waits, so a command needs room for one of each, and for each of its other frames. -/

namespace Sys2Proof.Room

open Sys2Proof Sys2Proof.Machine Sys2Proof.Safety Sys2Proof.Laws

/-- The transmit queue carries this frame. -/
def Carries (f : Frame) (s : State) : Prop := ∃ e ∈ s.link.txq, e.frame = f

/-- Room for a STATUS, for a HOLD too where `hold` says so, and for `k` further frames. -/
structure Spare (hold : Bool) (k : Nat) (s : State) : Prop where
  awake : s.mode ≠ .quiet
  loud : s.link.silencing = false
  room : s.link.txq.length + (if kindWaits .status s.link.txq then 0 else 1)
    + (if hold && !kindWaits .hold s.link.txq then 1 else 0) + k ≤ 8

/-- From `s` to `t` the transmit queue has taken at most `k` frames beside a STATUS, and beside a HOLD where `hold` says
so. With room for them it loses no frame that does not merge. -/
def Adds (hold : Bool) (k : Nat) (s t : State) : Prop :=
  ∀ n, Spare hold (n + k) s → Spare hold n t ∧ ∀ f, mergingKind f.kind = false → Carries f s → Carries f t

theorem spare_of_length {hold : Bool} {k : Nat} {s : State} (awake : s.mode ≠ .quiet)
    (loud : s.link.silencing = false) (h : s.link.txq.length + 1 + hold.toNat + k ≤ 8) : Spare hold k s := by
  refine ⟨awake, loud, ?_⟩
  cases hold <;> simp only [Bool.toNat_true, Bool.toNat_false, Bool.false_and, Bool.true_and] at h ⊢ <;> split <;>
    (try split) <;> simp_all <;> omega

theorem Spare.length {hold : Bool} {k : Nat} {s : State} (h : Spare hold k s) : s.link.txq.length + k ≤ 8 := by
  have := h.room
  omega

theorem Spare.mono {hold : Bool} {j k : Nat} {s : State} (h : Spare hold k s) (le : j ≤ k) : Spare hold j s :=
  ⟨h.awake, h.loud, by have := h.room; omega⟩

namespace Adds

variable {hold : Bool} {s t u : State}

theorem refl (s : State) : Adds hold 0 s s := fun _ h => ⟨h, fun _ _ c => c⟩

theorem trans {j k : Nat} (h : Adds hold j s t) (h' : Adds hold k t u) : Adds hold (j + k) s u := by
  intro n room
  obtain ⟨first, keep⟩ := h (n + k) (by rwa [Nat.add_assoc, Nat.add_comm k j])
  obtain ⟨second, keep'⟩ := h' n first
  exact ⟨second, fun f hf c => keep' f hf (keep f hf c)⟩

theorem mono {j k : Nat} (h : Adds hold j s t) (le : j ≤ k) : Adds hold k s t :=
  fun n room => h n (room.mono (by omega))

/-- A change that leaves the link, and does not enter QUIET. -/
theorem of_link (hl : t.link = s.link) (hm : t.mode = .quiet → s.mode = .quiet) : Adds hold 0 s t :=
  fun _ h => ⟨⟨fun q => h.awake (hm q), by rw [hl]; exact h.loud, by rw [hl]; exact h.room⟩,
    fun _ _ ⟨e, he, hf⟩ => ⟨e, by rw [hl]; exact he, hf⟩⟩

end Adds

/-! ### One frame -/

theorem kindWaits_queued (k : Kind) (f : Frame) (q : List TxEntry) :
    kindWaits k (queued f q) = (decide (f.kind = k) || kindWaits k q) := by
  unfold kindWaits queued
  rw [(Changes.insertEntry_perm _ q).any_eq, List.any_cons, Bool.not_false, Bool.and_true]

theorem kindWaits_replaceWaiting (k : Kind) (f : Frame) (q : List TxEntry) :
    kindWaits k (replaceWaiting f q) = kindWaits k q := by
  unfold kindWaits replaceWaiting
  rw [List.any_map]
  congr 1
  funext e
  by_cases h : e.frame.kind = f.kind ∧ e.sending = false
  · simp [h]
  · rw [Function.comp_apply, if_neg h]

theorem queueFrame_merges {f : Frame} {s : State} (awake : s.mode ≠ .quiet) (loud : s.link.silencing = false)
    (h : (mergingKind f.kind && kindWaits f.kind s.link.txq) = true) :
    queueFrame f s = { s with link.txq := replaceWaiting f s.link.txq } := by
  unfold queueFrame enqueue
  rw [if_neg (by simp [awake, loud]), if_pos h]

theorem length_queued (f : Frame) (q : List TxEntry) : (queued f q).length = q.length + 1 :=
  (Changes.insertEntry_perm _ q).length_eq

theorem carries_queued {f g : Frame} {s : State} (h : g = f ∨ Carries g s) :
    Carries g { s with link.txq := queued f s.link.txq } := by
  rcases h with rfl | ⟨e, he, hf⟩
  · exact ⟨_, Zone.mem_queued.2 (.inl rfl), rfl⟩
  · exact ⟨e, Zone.mem_queued.2 (.inr he), hf⟩

theorem carries_replaceWaiting {f g : Frame} {s : State} (hg : g.kind ≠ f.kind) (h : Carries g s) :
    Carries g { s with link.txq := replaceWaiting f s.link.txq } := by
  obtain ⟨e, he, rfl⟩ := h
  refine ⟨e, List.mem_map.2 ⟨e, he, ?_⟩, rfl⟩
  rw [if_neg fun h => hg h.1]

theorem carries_merged {f : Frame} {s : State} (h : kindWaits f.kind s.link.txq = true) :
    Carries f { s with link.txq := replaceWaiting f s.link.txq } := by
  obtain ⟨e, he, hw⟩ := List.any_eq_true.1 h
  refine ⟨{ e with frame := f }, List.mem_map.2 ⟨e, he, ?_⟩, rfl⟩
  rw [if_pos (by simpa using hw)]

/-- A frame for which there is room is carried, and each carried frame of another kind still is. -/
theorem queueFrame_carries {f : Frame} {s : State} (awake : s.mode ≠ .quiet) (loud : s.link.silencing = false)
    (room : s.link.txq.length < 8) :
    Carries f (queueFrame f s)
      ∧ ∀ g, g.kind ≠ f.kind ∨ mergingKind f.kind = false → Carries g s → Carries g (queueFrame f s) := by
  cases h : mergingKind f.kind && kindWaits f.kind s.link.txq with
  | true =>
    obtain ⟨merging, waits⟩ := Bool.and_eq_true_iff.1 h
    rw [queueFrame_merges awake loud h]
    refine ⟨carries_merged waits, fun g hg c => ?_⟩
    rcases hg with hg | hg
    · exact carries_replaceWaiting hg c
    · rw [merging] at hg
      nomatch hg
  | false =>
    rw [queueFrame_accepts ⟨awake, loud, room, h⟩]
    exact ⟨carries_queued (.inl rfl), fun g _ c => carries_queued (.inr c)⟩

/-- The room that a frame takes: none beside the room kept for a STATUS and a HOLD, and one place otherwise. -/
def cost (hold : Bool) (k : Kind) : Nat := if k = .status ∨ (k = .hold ∧ hold = true) then 0 else 1

theorem Spare.fits {f : Frame} {s : State} {hold : Bool} {n : Nat} (h : Spare hold (n + cost hold f.kind) s)
    (hw : (mergingKind f.kind && kindWaits f.kind s.link.txq) = false) : s.link.txq.length < 8 := by
  have room := h.room
  by_cases hs : f.kind = .status
  · have idle : kindWaits .status s.link.txq = false := by simpa [hs, mergingKind] using hw
    rw [idle] at room
    simp only [Bool.false_eq_true, if_false] at room
    omega
  by_cases hh : f.kind = .hold ∧ hold = true
  · obtain ⟨hh, rfl⟩ := hh
    have idle : kindWaits .hold s.link.txq = false := by simpa [hh, mergingKind] using hw
    rw [idle] at room
    simp only [Bool.not_false, Bool.and_true, if_true] at room
    omega
  · have one : cost hold f.kind = 1 := if_neg (by rintro (h | h); exacts [hs h, hh h])
    omega

/-- What a frame takes of the room, by its kind. -/
theorem queueFrame_spare {f : Frame} {s : State} {hold : Bool} {n : Nat} (h : Spare hold (n + cost hold f.kind) s) :
    Spare hold n (queueFrame f s) := by
  have fits := h.fits
  obtain ⟨awake, loud, room⟩ := h
  cases hw : mergingKind f.kind && kindWaits f.kind s.link.txq with
  | true =>
    rw [queueFrame_merges awake loud hw]
    refine ⟨awake, loud, ?_⟩
    show (replaceWaiting f s.link.txq).length + _ + _ + n ≤ 8
    dsimp only
    rw [kindWaits_replaceWaiting, kindWaits_replaceWaiting, replaceWaiting, List.length_map]
    omega
  | false =>
    rw [queueFrame_accepts ⟨awake, loud, fits hw, hw⟩]
    refine ⟨awake, loud, ?_⟩
    dsimp only
    rw [kindWaits_queued, kindWaits_queued, length_queued]
    cases hs : kindWaits .status s.link.txq <;> cases hh : kindWaits .hold s.link.txq <;> cases hold <;>
      cases hk : f.kind <;> simp_all [mergingKind, cost] <;> omega

theorem queueFrame_adds (hold : Bool) {f : Frame} (s : State) {k : Nat}
    (hk : k = cost hold f.kind) :
    Adds hold k s (queueFrame f s) := by
  intro n h
  rw [hk] at h
  refine ⟨queueFrame_spare h, fun g hg c => ?_⟩
  cases hw : mergingKind f.kind && kindWaits f.kind s.link.txq with
  | true =>
    rw [queueFrame_merges h.awake h.loud hw]
    refine carries_replaceWaiting (fun same => ?_) c
    rw [same, (Bool.and_eq_true_iff.1 hw).1] at hg
    nomatch hg
  | false =>
    rw [queueFrame_accepts ⟨h.awake, h.loud, h.fits hw, hw⟩]
    exact carries_queued (.inr c)

section Frames

variable (hold : Bool) (s : State)

theorem queueStatus_adds : Adds hold 0 s (queueStatus s) := queueFrame_adds hold s (if_pos (.inl rfl)).symm

theorem queueEvent_adds (n : EventName) (d t : Nat) : Adds hold 1 s (queueEvent n d t s) :=
  queueFrame_adds hold s (by simp [cost, eventFrame, ownFrame])

theorem queueHold_adds : Adds true 0 s (queueHold s) := by
  unfold queueHold
  split
  · exact .refl s
  · exact queueFrame_adds true s (if_pos (.inr ⟨rfl, rfl⟩)).symm

/-- An event that is queued with room is carried. -/
theorem queueEvent_carries {n : EventName} {d t k : Nat} {s : State} (h : Spare hold (k + 1) s) :
    Carries (eventOf s (eventCode n) d t) (queueEvent n d t s) :=
  (queueFrame_carries h.awake h.loud (by have := h.length; omega)).1

end Frames

/-! ### The blocks' operations -/

section Operations

variable (hold : Bool) (s : State)

theorem setReasons_adds (level : Bool) : Adds true 0 s (setReasons level s) := by
  unfold setReasons
  dsimp only
  split
  · exact .refl s
  · have changed : Adds true 0 s { s with flow.reasons := s.reasonsInForce level } := .of_link rfl id
    exact (changed.trans (queueStatus_adds true _)).trans (queueHold_adds _)

theorem refreshReasons_adds : Adds true 0 s (refreshReasons s) := setReasons_adds s _

theorem evaluateLevel_adds : Adds true 0 s (evaluateLevel s) := setReasons_adds s _

theorem setLimiter_link (i : LimiterId) (l : Limiter) : (setLimiter i l s).link = s.link := by cases i <;> rfl

theorem setLimiter_mode (i : LimiterId) (l : Limiter) : (setLimiter i l s).mode = s.mode := by cases i <;> rfl

theorem setLimiter_adds (i : LimiterId) (l : Limiter) : Adds hold 0 s (setLimiter i l s) :=
  .of_link (setLimiter_link s i l) (by rw [setLimiter_mode]; exact id)

theorem withdrawStart_adds (i : LimiterId) : Adds hold 0 s (withdrawStart i s) := setLimiter_adds hold s i _

theorem requestStart_adds (i : LimiterId) : Adds hold 1 s (requestStart i s).1 := by
  unfold requestStart
  split
  · exact (Adds.refl s).mono (by omega)
  · split
    · exact (setLimiter_adds hold s i _).mono (by omega)
    · next l failing length _ =>
      have counted : Adds hold 0 s (count .startDeferred (setLimiter i l s)) :=
        .of_link (setLimiter_link s i l) (by show (setLimiter i l s).mode = _ → _; rw [setLimiter_mode]; exact id)
      exact counted.trans (queueEvent_adds hold _ _ _ _)

theorem driveOn_adds : Adds hold 0 s (driveOn s) := .of_link rfl id

theorem driveOff_adds : Adds hold 0 s (driveOff s) := .of_link (Line.driveOff_link s) (by rw [Line.driveOff_mode]; exact id)

/-- Outside RUNNING and DRAINING, and with a stop cause, the drive asks for nothing. -/
theorem evaluateDrive_adds_none (h : (s.mode ≠ .running ∧ s.mode ≠ .draining) ∨ s.stopCause = true) :
    Adds hold 0 s (evaluateDrive s) := by
  unfold evaluateDrive
  split
  · exact .refl s
  split
  · split
    · exact driveOn_adds hold s
    · exact driveOff_adds hold s
  split
  · exact driveOn_adds hold s
  have rest : Adds hold 0 s (driveOff (withdrawStart .drive s)) :=
    (withdrawStart_adds hold s .drive).trans (driveOff_adds hold _)
  split
  · next runs =>
    rcases h with ⟨h1, h2⟩ | h
    · exact absurd runs (by simp [h1, h2])
    · rw [if_pos h]
      exact rest
  · exact rest

theorem evaluateDrive_adds : Adds hold 1 s (evaluateDrive s) := by
  by_cases h : (s.mode ≠ .running ∧ s.mode ≠ .draining) ∨ s.stopCause = true
  · exact (evaluateDrive_adds_none hold s h).mono (by omega)
  · unfold evaluateDrive
    split
    · exact (Adds.refl s).mono (by omega)
    split
    · split
      · exact (driveOn_adds hold s).mono (by omega)
      · exact (driveOff_adds hold s).mono (by omega)
    split
    · exact (driveOn_adds hold s).mono (by omega)
    have rest : Adds hold 0 s (driveOff (withdrawStart .drive s)) :=
      (withdrawStart_adds hold s .drive).trans (driveOff_adds hold _)
    split
    · split
      · exact rest.mono (by omega)
      split
      · exact (Adds.refl s).mono (by omega)
      have asks := requestStart_adds hold s .drive
      split
      · next s1 e =>
        rw [e] at asks
        exact asks.trans (driveOn_adds hold s1)
      · next s1 e =>
        rw [e] at asks
        exact asks
    · exact rest.mono (by omega)

theorem startGapRun_adds : Adds hold 0 s (startGapRun s) := by
  unfold startGapRun
  split
  · exact .of_link rfl id
  · exact .refl s

theorem evaluateChain_adds : Adds hold 0 s (evaluateChain s) := by
  unfold evaluateChain
  split
  · exact .refl s
  dsimp only
  split
  · exact .refl s
  refine Adds.trans (t := if (chainDefrostNow s && !s.peer.chainDefrost) = true then startGapRun _ else _) ?_
    (queueStatus_adds hold _)
  split
  · have set : Adds hold 0 s { s with peer.chainLoad := chainLoadNow s, peer.chainDefrost := chainDefrostNow s } :=
      .of_link rfl id
    exact set.trans (startGapRun_adds hold _)
  · exact .of_link rfl id

theorem startDueCycle_adds : Adds hold 0 s (startDueCycle s) := by
  unfold startDueCycle
  split
  · split
    · exact .of_link rfl id
    · exact .refl s
  · exact .refl s

theorem defrostTest_adds : Adds true 0 s (defrostTest s) := by
  unfold defrostTest
  dsimp only
  split
  · exact startDueCycle_adds true s
  · exact ((startDueCycle_adds true s).trans (refreshReasons_adds _)).trans (queueStatus_adds true _)

theorem doorTest_adds : Adds hold 1 s (doorTest s) := by
  unfold doorTest
  split
  · have asks := requestStart_adds hold s .door
    split
    · next s1 e =>
      rw [e] at asks
      have opens : Adds hold 0 s1 (openDoor s1.now s1) := .of_link rfl id
      exact asks.trans opens
    · next s1 e =>
      rw [e] at asks
      have waits : Adds hold 0 s1 { s1 with packing.door := .requested } := .of_link rfl id
      exact asks.trans waits
  · exact (Adds.refl s).mono (by omega)

theorem withdrawDoor_adds : Adds hold 0 s (withdrawDoor s) :=
  .of_link (Line.withdrawDoor_link s) (by rw [Line.withdrawDoor_mode]; exact id)

theorem reportCounts_adds (c : Nat × Nat) : Adds hold 0 s (reportCounts c s) := by
  unfold reportCounts
  split
  · exact .refl s
  · exact queueStatus_adds hold s

theorem testEmptied_adds : Adds true 0 s (testEmptied s) := by
  unfold testEmptied
  split
  · exact defrostTest_adds s
  · exact .refl s

theorem queueChanged_adds (c : Nat × Nat) : Adds true 1 s (queueChanged c s) :=
  (((evaluateLevel_adds s).trans (evaluateDrive_adds true _)).trans (reportCounts_adds true _ c)).trans
    (testEmptied_adds _)

theorem changePosture_adds (old : StationState) : Adds hold 0 s (changePosture old s) := by
  have blocks := changePosture_blocks old s
  have fresh : Adds hold 0 s (freshPosture s) := by
    unfold freshPosture
    split <;> exact .of_link rfl id
  unfold changePosture
  split
  · split
    · exact .of_link rfl id
    split
    · exact .of_link rfl id
    · exact .refl s
  · split
    · exact fresh
    · exact .refl s

end Operations

/-- A frame that the queue carries is carried at the command's end. -/
theorem carries_settle {f : Frame} {s : State} (h : Carries f s) : Carries f (settle s) := by
  obtain ⟨e, he, rfl⟩ := h
  have mem : e.frame ∈ (settle s).link.txq.map (·.frame) := by
    rw [Changes.settle_frames]
    exact List.mem_map_of_mem he
  obtain ⟨e', he', hf⟩ := List.mem_map.1 mem
  exact ⟨e', he', hf⟩

/-! ### Which frames can change a record

Only an OFFER that is lost changes a record (R90), and only a HOLD displaces one (R41). -/

theorem settleLoss_other {fuel : Nat} {e : TxEntry} (h : e.frame.kind ≠ .offer) (s : State) :
    settleLoss fuel e s = s := by
  cases fuel with
  | zero => rfl
  | succ fuel => exact if_pos h

theorem kindClass_offer_of_lt {k : Kind} (h : k ≠ .hold) : 1 ≤ kindClass k := by
  cases k <;> simp_all [kindClass]

theorem queueFrame_tracking {f : Frame} (hold : f.kind ≠ .hold) (offer : f.kind ≠ .offer) (s : State) :
    (queueFrame f s).tracking = s.tracking := by
  unfold queueFrame enqueue
  split
  · next s1 e =>
    split at e
    · cases e; rfl
    split at e
    · cases e; rfl
    split at e
    · cases e; rfl
    split at e
    · split at e <;> cases e
    · cases e
  · next s1 lost e =>
    split at e
    · cases e
    split at e
    · cases e
    split at e
    · cases e
    split at e
    · next last _ =>
      split at e
      · next lower =>
        cases e
        rw [settleLoss_other fun h => ?_]
        · rfl
        · rw [h] at lower
          have := kindClass_offer_of_lt hold
          exact absurd lower (by show ¬ kindClass f.kind < 1; omega)
      · cases e
        rw [settleLoss_other offer]
        rfl
    · cases e
      rw [settleLoss_other offer]
      rfl

section Tracking

variable (s : State)

@[simp] theorem queueEvent_tracking (n : EventName) (d t : Nat) : (queueEvent n d t s).tracking = s.tracking :=
  queueFrame_tracking (show Kind.event ≠ .hold by decide) (show Kind.event ≠ .offer by decide) s

@[simp] theorem queueStatus_tracking : (queueStatus s).tracking = s.tracking :=
  queueFrame_tracking (show Kind.status ≠ .hold by decide) (show Kind.status ≠ .offer by decide) s

@[simp] theorem setLimiter_tracking (i : LimiterId) (l : Limiter) : (setLimiter i l s).tracking = s.tracking := by
  cases i <;> rfl

@[simp] theorem requestStart_tracking (i : LimiterId) : (requestStart i s).1.tracking = s.tracking := by
  unfold requestStart
  split
  · rfl
  split
  · exact setLimiter_tracking s i _
  · rw [queueEvent_tracking]
    exact setLimiter_tracking s i _

@[simp] theorem driveOff_tracking : (driveOff s).tracking = s.tracking := by
  unfold driveOff
  split <;> rfl

@[simp] theorem withdrawStart_tracking (i : LimiterId) : (withdrawStart i s).tracking = s.tracking :=
  setLimiter_tracking s i _

/-- The drive's evaluation changes no record: its one frame is an EVENT. -/
@[simp] theorem evaluateDrive_tracking : (evaluateDrive s).tracking = s.tracking := by
  unfold evaluateDrive
  split
  · rfl
  split
  · split
    · rfl
    · exact driveOff_tracking s
  split
  · rfl
  split
  · split
    · rw [driveOff_tracking, withdrawStart_tracking]
    split
    · rfl
    have asks := requestStart_tracking s .drive
    split
    · next s1 e =>
      rw [e] at asks
      exact asks
    · next s1 e =>
      rw [e] at asks
      exact asks
  · rw [driveOff_tracking, withdrawStart_tracking]

@[simp] theorem startGapRun_tracking : (startGapRun s).tracking = s.tracking := by
  unfold startGapRun
  split <;> rfl

@[simp] theorem evaluateChain_tracking : (evaluateChain s).tracking = s.tracking := by
  unfold evaluateChain
  split
  · rfl
  dsimp only
  split
  · rfl
  rw [queueStatus_tracking]
  split
  · rw [startGapRun_tracking]
  · rfl

@[simp] theorem doorTest_tracking : (doorTest s).tracking = s.tracking := by
  unfold doorTest
  split
  · have asks := requestStart_tracking s .door
    split
    · next s1 e =>
      rw [e] at asks
      exact asks
    · next s1 e =>
      rw [e] at asks
      exact asks
  · rfl

/-- A downstream's entry whose holding field does not go from set to clear revives nothing (R94). -/
theorem handDownstream_unrevived {b : Option PeerEntry} {s : State}
    (h : ∀ e a, b = some e → s.downstreamEntry = some a → e.holding = true → a.holding = true) :
    handDownstream b s = s ∨ handDownstream b s = evaluateDrive s := by
  unfold handDownstream
  split
  · next before after ha =>
    have still : (before.holding && !after.holding) = false := by
      cases hb : before.holding with
      | false => rfl
      | true => rw [h before after rfl ha hb]; rfl
    dsimp only
    rw [still, if_neg Bool.false_ne_true]
    split
    · exact .inl rfl
    · exact .inr rfl
  · exact .inl rfl
  · exact .inr rfl
  · exact .inr rfl

end Tracking

end Sys2Proof.Room


/-! PROOFS. The fault input outside the faultable states (R7), and the peer view's commands: HOLD, WALK_PASS, WALK_SEEN,
EVENT_RECEIVED, REPORT_RECEIVED, STATUS_TIMER_EXPIRY, PEER_STALE and WALK_PASS_QUEUED. -/

namespace Sys2Proof.Peers

open Sys2Proof Sys2Proof.Machine Sys2Proof.Safety Sys2Proof.Laws Sys2Proof.Commands Sys2Proof.Room

/-! ### The fault input (R7) -/

theorem latchFault_framesQueued (s : State) :
    FramesQueued { s with station.faultLatch := true } (latchFault s) :=
  framesQueued_trans (queueEvent_framesQueued _ _ _ _) (queueStatus_framesQueued _)

theorem latchFault_carries {s : State} (hold : Bool) {k : Nat} (h : Spare hold (k + 1) s) :
    Carries (eventOf s 16 (stateCode s.mode) 0) (latchFault s) ∧ Adds hold 1 s (latchFault s) := by
  have latched : Adds hold 0 s { s with station.faultLatch := true } := .of_link rfl id
  have room : Spare hold (k + 1) { s with station.faultLatch := true } := ((latched (k + 1)) h).1
  have event := queueEvent_carries hold (n := .fault) (d := stateCode s.mode) (t := 0) room
  have adds := queueEvent_adds hold { s with station.faultLatch := true } .fault (stateCode s.mode) 0
  have left : Spare hold 0 (queueEvent .fault (stateCode s.mode) 0 { s with station.faultLatch := true }) :=
    (adds 0 (room.mono (by omega))).1
  exact ⟨(queueStatus_adds hold _ 0 left).2 _ rfl event, (latched.trans adds).trans (queueStatus_adds hold _)⟩

/-- Settles O11: with the latch set, and in QUIET, the input moves its pin alone, and in JOINING it latches. -/
theorem faultInputElsewhere : Obligations.FaultInputElsewhere := by
  refine ⟨fun s h => ?_, fun s joining clear => ?_, fun s => rfl⟩
  · exact if_pos h.symm
  · have exec : exec .faultInput s = done (latchFault { s with faultIn := true }) := by
      show execFaultInput s = _
      unfold execFaultInput
      rw [if_neg (by simp [joining, clear]), if_neg (by simp [joining, faultableState])]
    refine next_of_done exec ⟨⟨_, latchFault_framesQueued { s with faultIn := true }, rfl⟩, fun loud room => ?_⟩
    have spare : Spare false 1 { s with faultIn := true } :=
      spare_of_length (by show s.mode ≠ _; rw [joining]; nofun) loud
        (by show s.link.txq.length + 1 + 0 + 1 ≤ 8; omega)
    have event := carries_settle (latchFault_carries false spare).1
    rw [show stateCode ({ s with faultIn := true } : State).mode = 0 by rw [joining]; rfl] at event
    exact event

/-! ### STATUS_TIMER_EXPIRY (R51) -/

/-- Settles O33: the expiry is one STATUS, and the timer's next due time. -/
theorem statusTimerExpires : Obligations.StatusTimerExpires := by
  intro s timer running awake
  have exec : ∀ due : timer.due ≤ s.now,
      exec .statusTimerExpiry s
        = done (queueStatus { s with peer.statusTimer := some { timer with due := timer.due + timer.period } }) := by
    intro due
    show execStatusTimerExpiry s = _
    unfold execStatusTimerExpiry
    rw [running]
    exact if_pos ⟨due, awake⟩
  refine ⟨fun due => next_of_done (exec due) ⟨?_, fun room => ?_⟩, fun early => ?_⟩
  · exact queueFrame_blocks _ (blocksResponded_refl _)
  · have takes : Accepts Kind.status
        { s with peer.statusTimer := some { timer with due := timer.due + timer.period } } := room
    exact Report.settle_queueFrame_txq takes
  · show execStatusTimerExpiry s = _
    unfold execStatusTimerExpiry
    rw [running]
    exact if_neg (by omega)

/-! ### PEER_STALE (R49) -/

/-- Settles O34: the entry's age decides, and its change is handed on. -/
theorem peersGoStale : Obligations.PeersGoStale := by
  intro s node heard low high awake frame fresh
  have test : goesStale s (s.peerEntry node) = decide (3 * s.statusPeriod < s.now - heard) := by
    unfold goesStale
    rw [fresh, frame]
    rfl
  refine ⟨fun old => ?_, fun young => ?_⟩
  · have exec : exec (.peerStale node) s
        = done (if node = (handDownstream s.downstreamEntry
              (s.setPeerEntry node { s.peerEntry node with stale := true })).upstream
            then drainTest (handDownstream s.downstreamEntry
              (s.setPeerEntry node { s.peerEntry node with stale := true }))
            else handDownstream s.downstreamEntry
              (s.setPeerEntry node { s.peerEntry node with stale := true })) := by
      show execPeerStale node s = _
      unfold execPeerStale
      rw [if_pos (by simp [test, old, awake])]
      exact (apply_ite done _ _ _).symm
    refine next_of_done exec (queueResponded_settle ?_)
    have blocks := handDownstream_blocks s.downstreamEntry
      (s.setPeerEntry node { s.peerEntry node with stale := true })
    split
    · exact drainTest_responded blocks
    · exact .inl blocks
  · show execPeerStale node s = _
    unfold execPeerStale
    exact if_neg (by simp [test]; omega)

/-! ### What a handled frame leaves -/

section Handed

variable (f : Frame) (rest : List Frame) (s : State)

theorem taken_neighbours : (taken f rest s).peer.neighbours = s.peer.neighbours := by
  obtain ⟨p, h⟩ := taken_eq f rest s
  rw [h]

theorem taken_walk : (taken f rest s).peer.walk = s.peer.walk := by
  obtain ⟨p, h⟩ := taken_eq f rest s
  rw [h]

theorem blocksResponded_walk {s t : State} (h : BlocksResponded s t) : t.peer.walk = s.peer.walk := by
  have e := congrArg (fun s => s.peer.walk) h.1
  exact e

@[simp] theorem handed_neighbours : (handed f rest s).peer.neighbours = s.peer.neighbours :=
  (blocksResponded_neighbours (handed_blocks f rest s)).trans (taken_neighbours f rest s)

@[simp] theorem handed_walk : (handed f rest s).peer.walk = s.peer.walk :=
  (blocksResponded_walk (handed_blocks f rest s)).trans (taken_walk f rest s)

@[simp] theorem handed_upstream : (handed f rest s).upstream = s.upstream :=
  congrArg Neighbours.upstream (handed_neighbours f rest s)

@[simp] theorem handed_downstream : (handed f rest s).downstream = s.downstream :=
  congrArg Neighbours.downstream (handed_neighbours f rest s)

theorem items_of_station {s t : State} (h : t.station = s.station) : t.items = s.items :=
  congrArg (fun c : StationControl => c.frozen.getD []) h

@[simp] theorem handed_hasProfile : (handed f rest s).hasProfile = s.hasProfile :=
  congrArg (fun c : StationControl => c.frozen.isSome) (handed_station f rest s)

@[simp] theorem handed_isHead : (handed f rest s).isHead = s.isHead := by
  have e := congrArg (fun c : StationControl => ({ s with station := c } : State).isHead) (handed_station f rest s)
  exact e

@[simp] theorem handed_isTail : (handed f rest s).isTail = s.isTail := by
  have e := congrArg (fun c : StationControl => ({ s with station := c } : State).isTail) (handed_station f rest s)
  exact e

end Handed

/-! ### WALK_PASS (R56) and WALK_PASS_QUEUED (R59) -/

theorem exec_walkPass {f : Frame} {rest : List Frame} {s : State} (ho : Oldest .walkPass f rest s) :
    exec .walkPass s
      = match s.peer.walk with
        | some w =>
          if s.mode = .walking ∧ s.isHead = false ∧ w.edgeSeen = false then
            done { handed f rest s with peer.walk := some { w with passOrigin := f.origin, passAdvance := 0 } }
          else done (handed f rest s)
        | none => done (handed f rest s) := by
  show execWalkPass s = _
  unfold execWalkPass
  rw [handleFrame_oldest ho, show handDownstream s.downstreamEntry (taken f rest s) = handed f rest s from rfl]
  dsimp only
  rw [handed_walk]
  cases s.peer.walk with
  | none => rfl
  | some w => rw [handed_mode, handed_isHead]

theorem walkPassDue_eq {s : State} {w : Walk} (h : s.peer.walk = some w) :
    walkPassDue s = (w.edgeSeen && !w.passSent && decide (s.zoneLength ≤ w.edgeAdvance)) := by
  unfold walkPassDue
  rw [h]
  rfl

/-- Settles O31: the walk state decides whether a WALK_PASS is noted, and when the station's own is due. -/
theorem walkPasses : Obligations.WalkPasses := by
  refine ⟨fun f rest s ho => ?_, fun s w walk walking => ⟨fun seen unsent reached => ?_, fun undue => ?_⟩⟩
  · have exec := exec_walkPass ho
    have blocks := handed_blocks f rest s
    generalize taken f rest s = u at blocks ⊢
    generalize handed f rest s = v at blocks exec
    by_cases notes : ∃ w, s.peer.walk = some w ∧ s.mode = .walking ∧ s.isHead = false ∧ w.edgeSeen = false
    · obtain ⟨w, walk, walking, head, seen⟩ := notes
      rw [walk] at exec
      dsimp only at exec
      rw [if_pos ⟨walking, head, seen⟩] at exec
      refine next_of_done exec ⟨fun w' walk' _ _ _ => ?_, fun undue => ?_⟩
      · cases walk.symm.trans walk'
        exact blocksResponded_trans (walk_blocks blocks _) (settle_blocks _)
      · rcases undue with h | h | h | ⟨w', h, h'⟩
        · rw [h] at walk
          nomatch walk
        · exact absurd walking h
        · rw [head] at h
          nomatch h
        · cases walk.symm.trans h
          rw [seen] at h'
          nomatch h'
    · have passes : Machine.exec .walkPass s = done v := by
        rw [exec]
        split
        · next w walk => exact if_neg fun h => notes ⟨w, walk, h⟩
        · rfl
      refine next_of_done passes ⟨fun w walk walking head seen => absurd ⟨w, walk, walking, head, seen⟩ notes,
        fun _ => blocksResponded_trans blocks (settle_blocks _)⟩
  · have due : walkPassDue s = true := by simp [walkPassDue_eq walk, seen, unsent, reached]
    have exec : exec .walkPassQueued s
        = done (queueFrame (ownFrame .walkPass 0 [] s) { s with peer.walk := some { w with passSent := true } }) := by
      show execWalkPassQueued s = _
      unfold execWalkPassQueued queueWalkPass
      rw [if_pos ⟨due, walking⟩, walk]
      dsimp only
      rw [if_pos ⟨due, walking⟩]
    refine next_of_done exec ⟨queueFrame_blocks _ (blocksResponded_refl _), fun room => ?_⟩
    have takes : Accepts (ownFrame .walkPass 0 [] s).kind { s with peer.walk := some { w with passSent := true } } :=
      room
    exact Report.settle_queueFrame_txq takes
  · refine if_neg fun h => ?_
    rw [walkPassDue_eq walk] at h
    simp only [Bool.and_eq_true, Bool.not_eq_true', decide_eq_true_eq] at h
    obtain ⟨⟨⟨seen, unsent⟩, reached⟩, _⟩ := h
    rcases undue with h | h | h
    · rw [h] at seen
      nomatch seen
    · rw [h] at unsent
      nomatch unsent
    · omega

/-! ### HOLD (R47, R93) -/

theorem setPeerEntry_twice (s : State) (n : Nat) (e e' : PeerEntry) :
    (s.setPeerEntry n e).setPeerEntry n e' = s.setPeerEntry n e' := by
  unfold State.setPeerEntry
  split
  · simp
  · rfl

/-- The entry of a handled frame's origin, rewritten once more. -/
theorem taken_rewritten {f : Frame} (rest : List Frame) (s : State) (g : PeerEntry → PeerEntry) (low : 1 ≤ f.origin)
    (high : f.origin ≤ 31) :
    (taken f rest s).setPeerEntry f.origin (g ((taken f rest s).peerEntry f.origin))
      = takenWith f rest (g (refreshedEntry s f.origin)) s := by
  unfold taken takenWith
  rw [peerEntry_setPeerEntry _ _ _ ⟨low, high⟩, setPeerEntry_twice]

/-- With the entry rewritten, what the frame hands on. -/
def handedWith (f : Frame) (rest : List Frame) (e : PeerEntry) (s : State) : State :=
  handDownstream s.downstreamEntry (takenWith f rest e s)

theorem takeFrame_oldest {k : Kind} {f : Frame} {rest : List Frame} {s : State} (h : Oldest k f rest s) :
    takeFrame k s = some (f, taken f rest s) := by
  obtain ⟨h1, h2, h3⟩ := h
  unfold takeFrame
  rw [h1]
  exact if_pos ⟨h2, h3⟩

/-- The record with its WAITING offer at rest (R93). -/
def answered (r : UnitRecord) : UnitRecord :=
  match r.handover with
  | .offered (.waiting _) => { r with handover := .offered .resting }
  | _ => r

theorem answerOffers_eq (s : State) : answerOffers s = { s with tracking.zone := s.tracking.zone.map answered } := rfl

theorem answered_waiting {r : UnitRecord} {d : Nat} (h : r.handover = .offered (.waiting d)) :
    answered r = { r with handover := .offered .resting } := by
  unfold answered
  rw [h]

theorem answered_ne_waiting (r : UnitRecord) (d : Nat) : (answered r).handover ≠ .offered (.waiting d) := by
  unfold answered
  split
  · nofun
  · next h => exact h d

theorem withoutHandover_answered (r : UnitRecord) : withoutHandover (answered r) = withoutHandover r := by
  unfold answered
  split <;> rfl

theorem answerOffers_blocks (s : State) : BlocksResponded s (answerOffers s) :=
  ⟨rfl, sameUnits_map _ _ withoutHandover_answered, lineKept_refl rfl⟩

theorem exec_hold {f : Frame} {rest : List Frame} {s : State} (ho : Oldest .hold f rest s) (low : 1 ≤ f.origin)
    (high : f.origin ≤ 31) :
    exec .hold s
      = if f.origin = (handedWith f rest { refreshedEntry s f.origin with
            holding := decide (payloadByte f.payload 0 ≠ 0) } s).downstream
            ∧ decide (payloadByte f.payload 0 ≠ 0) = true then
          done (answerOffers (handedWith f rest { refreshedEntry s f.origin with
            holding := decide (payloadByte f.payload 0 ≠ 0) } s))
        else done (handedWith f rest { refreshedEntry s f.origin with
            holding := decide (payloadByte f.payload 0 ≠ 0) } s) := by
  show execHold s = _
  unfold execHold handedWith
  rw [takeFrame_oldest ho]
  dsimp only
  rw [taken_rewritten rest s (fun e => { e with holding := decide (payloadByte f.payload 0 ≠ 0) }) low high]

theorem blocksResponded_downstream {s t : State} (h : BlocksResponded s t) : t.downstream = s.downstream :=
  congrArg Neighbours.downstream (blocksResponded_neighbours h)

theorem takenWith_eq (f : Frame) (rest : List Frame) (e : PeerEntry) (s : State) :
    ∃ p, takenWith f rest e s = { s with link.rxq := rest, peer.peers := p } := by
  obtain ⟨p, h⟩ := setPeerEntry_eq { s with link.rxq := rest } f.origin e
  exact ⟨p, h⟩

theorem takenWith_downstream (f : Frame) (rest : List Frame) (e : PeerEntry) (s : State) :
    (takenWith f rest e s).downstream = s.downstream := by
  obtain ⟨p, h⟩ := takenWith_eq f rest e s
  rw [h]
  rfl

theorem takenWith_tracking (f : Frame) (rest : List Frame) (e : PeerEntry) (s : State) :
    (takenWith f rest e s).tracking = s.tracking := by
  obtain ⟨p, h⟩ := takenWith_eq f rest e s
  rw [h]

/-- The rewritten entry of the downstream. -/
theorem takenWith_downstreamEntry {f : Frame} {rest : List Frame} {e : PeerEntry} {s : State}
    (low : 1 ≤ f.origin) (high : f.origin ≤ 31) (own : f.origin = s.downstream) :
    (takenWith f rest e s).downstreamEntry = some e := by
  unfold State.downstreamEntry
  rw [takenWith_downstream, if_neg (by omega), ← own]
  exact congrArg some (peerEntry_setPeerEntry _ _ _ ⟨low, high⟩)

/-- A downstream that comes to hold revives nothing, so the records stand. -/
theorem handDownstream_tracking {s : State} {e : PeerEntry} (b : Option PeerEntry) (h : s.downstreamEntry = some e)
    (hold : e.holding = true) : (handDownstream b s).tracking = s.tracking := by
  have still : ∀ e' a, b = some e' → s.downstreamEntry = some a → e'.holding = true → a.holding = true := by
    intro _ a _ ha _
    rw [h] at ha
    cases ha
    exact hold
  rcases handDownstream_unrevived still with h | h <;> rw [h]
  exact evaluateDrive_tracking s

/-- Settles O29: a HOLD that holds revives nothing, so the offers that waited are the ones that rest. -/
theorem holdHandled : Obligations.HoldHandled := by
  intro f rest s ho low high
  have exec := exec_hold ho low high
  have blocks := handDownstream_blocks s.downstreamEntry
    (takenWith f rest { refreshedEntry s f.origin with holding := decide (payloadByte f.payload 0 ≠ 0) } s)
  have down := (blocksResponded_downstream blocks).trans (takenWith_downstream f rest _ s)
  have stands : f.origin = s.downstream → payloadByte f.payload 0 ≠ 0 →
      (handDownstream s.downstreamEntry (takenWith f rest
        { refreshedEntry s f.origin with holding := decide (payloadByte f.payload 0 ≠ 0) } s)).tracking
        = s.tracking := fun own holds =>
    (handDownstream_tracking _ (takenWith_downstreamEntry low high own) (decide_eq_true holds)).trans
      (takenWith_tracking f rest _ s)
  unfold handedWith at exec
  generalize takenWith f rest { refreshedEntry s f.origin with
    holding := decide (payloadByte f.payload 0 ≠ 0) } s = u at exec blocks down stands ⊢
  generalize handDownstream s.downstreamEntry u = v at exec blocks down stands
  rw [down] at exec
  by_cases answers : f.origin = s.downstream ∧ decide (payloadByte f.payload 0 ≠ 0) = true
  · rw [if_pos answers] at exec
    refine next_of_done exec ⟨?_, fun own holds r hr d => ?_, fun own holds _ r hr d waits => ?_⟩
    · exact blocksResponded_trans blocks (blocksResponded_trans (answerOffers_blocks v) (settle_blocks _))
    · rw [settle_tracking] at hr
      obtain ⟨r', _, rfl⟩ := List.mem_map.1 hr
      exact answered_ne_waiting r' d
    · rw [settle_tracking, ← answered_waiting waits]
      refine List.mem_map_of_mem ?_
      rw [stands own holds]
      exact hr
  · rw [if_neg answers] at exec
    refine next_of_done exec ⟨blocksResponded_trans blocks (settle_blocks _), fun own holds => ?_, fun own holds => ?_⟩
    · exact absurd ⟨own, decide_eq_true holds⟩ answers
    · exact absurd ⟨own, decide_eq_true holds⟩ answers

end Sys2Proof.Peers


/-! PROOFS. The handover unit's commands (chapter 5): OFFER, TAKE, PASS and the two expiries. -/

namespace Sys2Proof.Handover

open Sys2Proof Sys2Proof.Machine Sys2Proof.Safety Sys2Proof.Laws Sys2Proof.Commands Sys2Proof.Room Sys2Proof.Peers

/-! ### A handled frame keeps the records -/

theorem setPeerEntry_holding {s : State} {n m : Nat} {e : PeerEntry} (h : e.holding = (s.peerEntry n).holding) :
    ((s.setPeerEntry n e).peerEntry m).holding = (s.peerEntry m).holding := by
  by_cases same : m = n
  · subst same
    by_cases named : 1 ≤ m ∧ m ≤ 31
    · rw [peerEntry_setPeerEntry _ _ _ named, h]
    · rw [State.setPeerEntry, dif_neg named]
  · rw [peerEntry_setPeerEntry_ne _ _ _ _ same]

/-- The refreshed entry holds as before, so handing it on evaluates the drive at most. -/
theorem handed_cases (f : Frame) (rest : List Frame) (s : State) :
    handed f rest s = taken f rest s ∨ handed f rest s = evaluateDrive (taken f rest s) := by
  refine handDownstream_unrevived fun e a he ha holds => ?_
  have down : (taken f rest s).downstream = s.downstream := congrArg Neighbours.downstream (taken_neighbours f rest s)
  unfold State.downstreamEntry at he ha
  rw [down] at ha
  split at he
  · nomatch he
  · next named =>
    rw [if_neg named] at ha
    obtain rfl := Option.some.inj he
    obtain rfl := Option.some.inj ha
    rw [taken, setPeerEntry_holding (by rfl)]
    exact holds

@[simp] theorem handed_tracking (f : Frame) (rest : List Frame) (s : State) :
    (handed f rest s).tracking = s.tracking := by
  rcases handed_cases f rest s with h | h <;> rw [h]
  · exact Changes.taken_tracking f rest s
  · rw [evaluateDrive_tracking]
    exact Changes.taken_tracking f rest s

theorem taken_arrivals (f : Frame) (rest : List Frame) (s : State) : (taken f rest s).arrivals = s.arrivals := by
  obtain ⟨p, h⟩ := taken_eq f rest s
  rw [h]

theorem taken_now (f : Frame) (rest : List Frame) (s : State) : (taken f rest s).now = s.now := by
  obtain ⟨p, h⟩ := taken_eq f rest s
  rw [h]

theorem taken_flow (f : Frame) (rest : List Frame) (s : State) : (taken f rest s).flow = s.flow := by
  obtain ⟨p, h⟩ := taken_eq f rest s
  rw [h]

theorem taken_counters (f : Frame) (rest : List Frame) (s : State) : (taken f rest s).counters = s.counters := by
  obtain ⟨p, h⟩ := taken_eq f rest s
  rw [h]

theorem blocksResponded_arrivals {s t : State} (h : BlocksResponded s t) : t.arrivals = s.arrivals := by
  have e := congrArg State.arrivals h.1
  exact e

theorem blocksResponded_now {s t : State} (h : BlocksResponded s t) : t.now = s.now := by
  have e := congrArg State.now h.1
  exact e

@[simp] theorem handed_arrivals (f : Frame) (rest : List Frame) (s : State) :
    (handed f rest s).arrivals = s.arrivals :=
  (blocksResponded_arrivals (handed_blocks f rest s)).trans (taken_arrivals f rest s)

@[simp] theorem handed_now (f : Frame) (rest : List Frame) (s : State) : (handed f rest s).now = s.now :=
  (blocksResponded_now (handed_blocks f rest s)).trans (taken_now f rest s)

@[simp] theorem handed_reasons (f : Frame) (rest : List Frame) (s : State) :
    (handed f rest s).flow.reasons = s.flow.reasons := by
  rw [handed, Changes.handDownstream_reasons, taken_flow]

@[simp] theorem handed_zoneHolds (t : Tag) (f : Frame) (rest : List Frame) (s : State) :
    (handed f rest s).zoneHolds t = s.zoneHolds t := by
  rw [State.zoneHolds, handed_tracking, State.zoneHolds]

@[simp] theorem handed_findRecord (t : Tag) (f : Frame) (rest : List Frame) (s : State) :
    (handed f rest s).findRecord t = s.findRecord t := by
  rw [State.findRecord, handed_tracking, State.findRecord]

@[simp] theorem handed_arrivalsHold (t : Tag) (f : Frame) (rest : List Frame) (s : State) :
    (handed f rest s).arrivalsHold t = s.arrivalsHold t := by
  rw [State.arrivalsHold, handed_arrivals, State.arrivalsHold]

@[simp] theorem handed_holding (f : Frame) (rest : List Frame) (s : State) :
    (handed f rest s).holding = s.holding := by
  rw [State.holding, handed_reasons, State.holding]

theorem setPeerEntry_link (s : State) (n : Nat) (e : PeerEntry) : (s.setPeerEntry n e).link = s.link := by
  obtain ⟨p, h⟩ := setPeerEntry_eq s n e
  rw [h]

theorem taken_txq (f : Frame) (rest : List Frame) (s : State) :
    (taken f rest s).link = { s.link with rxq := rest } := setPeerEntry_link _ _ _

/-- Handling a frame queues at most the event of a start that is put off. -/
theorem handed_spare {f : Frame} {rest : List Frame} {s : State} {hold : Bool} {k : Nat} (h : Spare hold (k + 1) s) :
    Spare hold k (handed f rest s) := by
  have taken : Spare hold (k + 1) (taken f rest s) := by
    refine ⟨?_, ?_, ?_⟩
    · rw [Changes.taken_mode]
      exact h.awake
    · rw [taken_txq]
      exact h.loud
    · rw [taken_txq]
      exact h.room
  rcases handed_cases f rest s with e | e <;> rw [e]
  · exact taken.mono (by omega)
  · exact (evaluateDrive_adds hold _ k taken).1

/-! ### OFFER (R97) -/

theorem actsOnFrame_handed {f : Frame} {rest : List Frame} {s : State} (n : Nat) :
    actsOnFrame n f (handed f rest s) = actsOnFrame n f s := by
  unfold actsOnFrame
  rw [handed_hasProfile, handed_mode]

theorem actsOnFrame_iff (n : Nat) (f : Frame) (s : State) :
    actsOnFrame n f s = true ↔ s.hasProfile = true ∧ s.mode ≠ .walking ∧ n ≠ 0 ∧ f.origin = n := by
  simp [actsOnFrame, and_assoc]

theorem exec_offer {f : Frame} {rest : List Frame} {s : State} (ho : Oldest .offer f rest s) :
    exec .offer s
      = if actsOnFrame s.upstream f s then done (answerOffer f.origin (imageOf f.payload) (handed f rest s))
        else done (handed f rest s) := by
  show execOffer s = _
  unfold execOffer
  rw [handleFrame_oldest ho, show handDownstream s.downstreamEntry (taken f rest s) = handed f rest s from rfl]
  dsimp only
  rw [handed_upstream, actsOnFrame_handed]

theorem arrivals_blocks {s t : State} (h : BlocksResponded s t) (l : List Arrival) :
    BlocksResponded { s with arrivals := l } { t with arrivals := l } :=
  blocksResponded_update h (fun s => { s with arrivals := l }) rfl (fun _ => rfl) (fun _ => rfl)

/-- With an arrival in the list no drain is complete. -/
theorem zoneChanged_expecting (c : Nat × Nat) {s : State} (h : s.arrivals ≠ []) : zoneChanged c s = queueChanged c s := by
  refine drainTest_undrained fun drained => h ?_
  exact ((drained_blocksResponded (queueChanged_blocks c s)).1 drained).2.1

/-- The frame that answers an OFFER, as this station's. -/
theorem takeFrameTo_handed (n : Nat) (t : Tag) (f : Frame) (rest : List Frame) (s : State) :
    takeFrameTo n t (handed f rest s) = ⟨.take, s.station.number, n, be16 t.toNat⟩ := by
  unfold takeFrameTo ownFrame
  rw [handed_station]

theorem holdAnswer_handed (f : Frame) (rest : List Frame) (s : State) :
    holdAnswer (handed f rest s) = ⟨.hold, s.station.number, s.upstream, [1#8, s.flow.reasons.byte]⟩ := by
  unfold holdAnswer ownFrame
  rw [handed_station, handed_upstream, handed_reasons]

theorem addArrival_eq {v : State} {l : List Arrival} {n : Nat} (b : Bool) (m : UnitImage) (ha : v.arrivals = l)
    (hn : v.now = n) : addArrival b m v = { v with arrivals := l ++ [⟨b, m, n, 0⟩] } := by
  subst ha hn
  rfl

/-- The answer that makes an entry. -/
theorem answerOffer_reserves {f : Frame} {rest : List Frame} {s : State} {m : UnitImage}
    (zone : s.zoneHolds m.tag = false) (known : s.arrivalsHold m.tag = false) (holding : s.holding = false)
    (room : s.arrivals.length < 4) :
    answerOffer f.origin m (handed f rest s)
      = queueChanged (handed f rest s).counts
          (queueFrame ⟨.take, s.station.number, f.origin, be16 m.tag.toNat⟩
            { handed f rest s with arrivals := s.arrivals ++ [⟨false, m, s.now, 0⟩] }) := by
  have added := addArrival_eq false m (handed_arrivals f rest s) (handed_now f rest s)
  have frame : takeFrameTo f.origin m.tag (addArrival false m (handed f rest s))
      = ⟨.take, s.station.number, f.origin, be16 m.tag.toNat⟩ := takeFrameTo_handed f.origin m.tag f rest s
  have refuses : ¬ ((handed f rest s).holding = true ∨ 4 ≤ (handed f rest s).arrivals.length) := by
    rw [handed_holding, holding, handed_arrivals]
    rintro (h | h)
    · exact Bool.false_ne_true h
    · omega
  unfold answerOffer
  rw [if_neg (by rw [handed_zoneHolds, zone]; exact Bool.false_ne_true),
    if_neg (by rw [handed_arrivalsHold, known]; exact Bool.false_ne_true), if_neg refuses]
  dsimp only
  rw [frame, added]
  refine zoneChanged_expecting _ ?_
  rw [blocksResponded_arrivals (framesQueued_blocks (queueFrame_framesQueued _ _))]
  simp

/-- Settles O43: the rows are the branches of `answerOffer`, which the handled frame leaves as they were. -/
theorem offerAnswered : Obligations.OfferAnswered := by
  intro f rest s ho profile moving upstream own
  have exec := exec_offer ho
  rw [if_pos ((actsOnFrame_iff _ _ _).2 ⟨profile, moving, upstream, own⟩)] at exec
  have blocks := handed_blocks f rest s
  refine next_of_done exec ⟨fun zone => ?_, fun zone known => ?_, fun zone known refuses => ?_,
    fun zone known free room => ?_⟩
  · have answer : answerOffer f.origin (imageOf f.payload) (handed f rest s) = handed f rest s :=
      if_pos (by rw [handed_zoneHolds]; exact zone)
    rw [answer]
    exact ⟨blocksResponded_trans blocks (settle_blocks _), fun other => by rw [handed_of_other f rest s other]⟩
  · have answer : answerOffer f.origin (imageOf f.payload) (handed f rest s)
        = queueFrame ⟨.take, s.station.number, f.origin, be16 (imageOf f.payload).tag.toNat⟩ (handed f rest s) := by
      unfold answerOffer
      rw [handed_zoneHolds, zone, if_neg Bool.false_ne_true, handed_arrivalsHold, known, if_pos rfl,
        takeFrameTo_handed]
    rw [answer]
    refine ⟨queueFrame_blocks _ blocks, fun other => ?_⟩
    rw [handed_of_other f rest s other]
    exact Stages.gives_queueFrame _ _
  · have answer : answerOffer f.origin (imageOf f.payload) (handed f rest s)
        = queueFrame ⟨.hold, s.station.number, s.upstream, [1#8, s.flow.reasons.byte]⟩ (handed f rest s) := by
      unfold answerOffer
      rw [handed_zoneHolds, zone, if_neg Bool.false_ne_true, handed_arrivalsHold, known, if_neg Bool.false_ne_true,
        handed_holding, handed_arrivals, if_pos refuses, holdAnswer_handed]
    rw [answer]
    refine ⟨queueFrame_blocks _ blocks, fun other => ?_⟩
    rw [handed_of_other f rest s other]
    exact Stages.gives_queueFrame _ _
  · rw [answerOffer_reserves zone known free room]
    have added := arrivals_blocks blocks (s.arrivals ++ [⟨false, imageOf f.payload, s.now, 0⟩])
    refine ⟨blocksResponded_trans added (blocksResponded_trans (framesQueued_blocks (queueFrame_framesQueued _ _))
      (blocksResponded_trans (queueChanged_blocks _ _) (settle_blocks _))), fun loud fits => ?_⟩
    have spare : Spare true 2 (handed f rest s) :=
      handed_spare (spare_of_length ho.2.2 loud (by show _ + 1 + 1 + 3 ≤ 8; omega))
    have enters : Adds true 0 (handed f rest s) { handed f rest s with
        arrivals := s.arrivals ++ [⟨false, imageOf f.payload, s.now, 0⟩] } := .of_link rfl id
    have entered := (enters 2 spare).1
    have answer := queueFrame_adds true
      (f := ⟨.take, s.station.number, f.origin, be16 (imageOf f.payload).tag.toNat⟩) _ rfl 1 entered
    have carried := (queueFrame_carries
      (f := ⟨.take, s.station.number, f.origin, be16 (imageOf f.payload).tag.toNat⟩) entered.awake entered.loud
      (by have := entered.length; omega)).1
    exact carries_settle ((queueChanged_adds _ _ 0 answer.1).2 _ rfl carried)

/-! ### TAKE (R92) -/

theorem exec_take {f : Frame} {rest : List Frame} {s : State} (ho : Oldest .take f rest s) :
    exec .take s
      = if actsOnFrame s.downstream f s then
          done (markTaken (BitVec.ofNat 16 (payload16 f.payload 0)) (handed f rest s))
        else done (handed f rest s) := by
  show execTake s = _
  unfold execTake
  rw [handleFrame_oldest ho, show handDownstream s.downstreamEntry (taken f rest s) = handed f rest s from rfl]
  dsimp only
  rw [handed_downstream, actsOnFrame_handed]

theorem setHandover_findRecord (t : Tag) (h : HandoverState) (n : Nat) (s : State) :
    (setHandover t h n s).findRecord t = (s.findRecord t).map (fun r => { r with handover := h, attempts := n }) := by
  unfold State.findRecord setHandover updateRecord
  dsimp only
  induction s.tracking.zone with
  | nil => rfl
  | cons r z ih =>
    by_cases same : r.tag = t
    · simp [same]
    · simpa [same] using ih

theorem findRecord_of_tracking {s t : State} (h : t.tracking = s.tracking) (tag : Tag) :
    t.findRecord tag = s.findRecord tag := by
  rw [State.findRecord, h, State.findRecord]

/-- Settles O44: the drive's evaluation changes no record, so the TAKE's mark is all there is. -/
theorem takeHandled : Obligations.TakeHandled := by
  intro f rest s ho profile moving downstream own
  have exec := exec_take ho
  rw [if_pos ((actsOnFrame_iff _ _ _).2 ⟨profile, moving, downstream, own⟩)] at exec
  have blocks := handed_blocks f rest s
  have found := handed_findRecord (BitVec.ofNat 16 (payload16 f.payload 0)) f rest s
  have tracking := handed_tracking f rest s
  generalize BitVec.ofNat 16 (payload16 f.payload 0) = tag at exec found ⊢
  generalize taken f rest s = u at blocks ⊢
  generalize handed f rest s = v at exec blocks found tracking
  by_cases offered : ∃ r, s.findRecord tag = some r ∧ r.handover.isOffered = true
  · obtain ⟨r, hr, isOffered⟩ := offered
    have marks : markTaken tag v = evaluateDrive (setHandover tag .taken r.attempts v) := by
      unfold markTaken
      rw [found, hr]
      exact if_pos isOffered
    rw [marks] at exec
    refine next_of_done exec ⟨?_, fun r' hr' _ => ?_, fun none => ?_⟩
    · exact blocksResponded_trans blocks (blocksResponded_trans
        (framesQueued_blocks (setHandover_framesQueued _ _ _ _))
        (blocksResponded_trans (evaluateDrive_blocks _) (settle_blocks _)))
    · refine ⟨{ r with handover := .taken, attempts := r.attempts }, ?_, rfl⟩
      rw [settle_findRecord, findRecord_of_tracking (evaluateDrive_tracking _), setHandover_findRecord, found, hr]
      rfl
    · rw [none r hr] at isOffered
      nomatch isOffered
  · have nothing : markTaken tag v = v := by
      unfold markTaken
      rw [found]
      split
      · rfl
      · next r hr => exact if_neg fun h => offered ⟨r, hr, h⟩
    rw [nothing] at exec
    refine next_of_done exec ⟨blocksResponded_trans blocks (settle_blocks _), fun r hr h => absurd ⟨r, hr, h⟩ offered,
      fun _ => ?_⟩
    rw [settle_tracking, tracking]

/-! ### PASS (R99) -/

theorem exec_pass {f : Frame} {rest : List Frame} {s : State} (ho : Oldest .pass f rest s) :
    exec .pass s
      = if actsOnFrame s.upstream f s then done (acceptPass (imageOf f.payload) (handed f rest s))
        else done (handed f rest s) := by
  show execPass s = _
  unfold execPass
  rw [handleFrame_oldest ho, show handDownstream s.downstreamEntry (taken f rest s) = handed f rest s from rfl]
  dsimp only
  rw [handed_upstream, actsOnFrame_handed]

theorem untakenPass_blocks {s t : State} (h : BlocksResponded s t) (n : Nat) :
    BlocksResponded { s with counters.untakenPass := n } { t with counters.untakenPass := n } :=
  blocksResponded_update h (fun s => { s with counters.untakenPass := n }) rfl (fun _ => rfl) (fun _ => rfl)

theorem blocksResponded_untakenPass {s t : State} (h : BlocksResponded s t) :
    t.counters.untakenPass = s.counters.untakenPass := by
  have e := congrArg (fun s => s.counters.untakenPass) h.1
  exact e

/-- The one entry of a tag becomes ARMED where it stands. -/
theorem armArrival_eq {s : State} {m : UnitImage} {before after : List Arrival} {a : Arrival}
    (hs : s.arrivals = before ++ a :: after) (tag : a.image.tag = m.tag)
    (others : ∀ x ∈ before ++ after, x.image.tag ≠ m.tag) :
    armArrival m s
      = { s with arrivals := before ++ { a with armed := true, image := m, advance := 0 } :: after } := by
  have same : ∀ l : List Arrival, (∀ x ∈ l, x.image.tag ≠ m.tag) →
      l.map (fun a => if a.image.tag = m.tag then { a with armed := true, image := m, advance := 0 } else a) = l := by
    intro l h
    exact (List.map_congr_left fun x hx => if_neg (h x hx)).trans (List.map_id' l)
  unfold armArrival
  rw [hs, List.map_append, List.map_cons, same before fun x hx => others x (List.mem_append_left _ hx),
    same after fun x hx => others x (List.mem_append_right _ hx), if_pos tag]

/-- A known unit's PASS is ignored. -/
theorem acceptPass_known {s : State} {m : UnitImage}
    (h : s.zoneHolds m.tag = true ∨ ∃ a ∈ s.arrivals, a.image.tag = m.tag ∧ a.armed = true) : acceptPass m s = s := by
  unfold acceptPass
  rcases h with h | ⟨a, ha, tag, armed⟩
  · exact if_pos h
  · split
    · rfl
    · exact if_pos (List.any_eq_true.2 ⟨a, ha, by simp [tag, armed]⟩)

theorem not_armed_of_absent {s : State} {t : Tag} (h : s.arrivalsHold t = false) :
    (s.arrivals.any fun a => decide (a.image.tag = t) && a.armed) = false := by
  refine List.any_eq_false.2 fun a ha => ?_
  have := List.any_eq_false.1 h a ha
  simp_all

/-- Neither list holds the unit. -/
structure Unknown (m : UnitImage) (s : State) : Prop where
  zone : s.zoneHolds m.tag = false
  arrivals : s.arrivalsHold m.tag = false

theorem acceptPass_unknown {m : UnitImage} {s : State} (h : Unknown m s) :
    acceptPass m s
      = if s.arrivals.length < 4 then zoneChanged s.counts (addArrival true m s) else count .untakenPass s := by
  unfold acceptPass
  rw [h.zone, if_neg Bool.false_ne_true, not_armed_of_absent h.arrivals, if_neg Bool.false_ne_true, h.arrivals,
    if_neg Bool.false_ne_true]

/-- Settles O45: the rows are the branches of `acceptPass`. -/
theorem passHandled : Obligations.PassHandled := by
  intro f rest s ho profile moving upstream own
  have exec := exec_pass ho
  rw [if_pos ((actsOnFrame_iff _ _ _).2 ⟨profile, moving, upstream, own⟩)] at exec
  have blocks := handed_blocks f rest s
  have zoneHolds := handed_zoneHolds (imageOf f.payload).tag f rest s
  have arrivalsHold := handed_arrivalsHold (imageOf f.payload).tag f rest s
  have arrivals := handed_arrivals f rest s
  have now := handed_now f rest s
  have counted : (handed f rest s).counters.untakenPass = s.counters.untakenPass :=
    (blocksResponded_untakenPass blocks).trans (congrArg Counters.untakenPass (taken_counters f rest s))
  generalize taken f rest s = u at blocks ⊢
  generalize handed f rest s = v at exec blocks zoneHolds arrivalsHold arrivals now counted
  generalize imageOf f.payload = m at exec zoneHolds arrivalsHold ⊢
  refine next_of_done exec ⟨fun known => ?_, fun before after a zone hs tag armed others => ?_,
    fun zone absent room => ?_, fun zone absent full => ?_⟩
  · rw [acceptPass_known (by rw [zoneHolds, arrivals]; exact known)]
    exact blocksResponded_trans blocks (settle_blocks _)
  · have holds : s.arrivalsHold m.tag = true := by
      rw [State.arrivalsHold, hs]
      simp [tag]
    have unarmed : (s.arrivals.any fun a => decide (a.image.tag = m.tag) && a.armed) = false := by
      rw [hs]
      refine List.any_eq_false.2 fun x hx => ?_
      rcases List.mem_append.1 hx with hx | hx
      · simp [others x (List.mem_append_left _ hx)]
      · rcases List.mem_cons.1 hx with rfl | hx
        · simp [armed]
        · simp [others x (List.mem_append_right _ hx)]
    have arms : acceptPass m v
        = { v with arrivals := before ++ { a with armed := true, image := m, advance := 0 } :: after } := by
      unfold acceptPass
      rw [zoneHolds, zone, if_neg Bool.false_ne_true, arrivals, unarmed, if_neg Bool.false_ne_true, arrivalsHold,
        holds, if_pos rfl]
      exact armArrival_eq (arrivals.trans hs) tag others
    rw [arms]
    exact blocksResponded_trans (arrivals_blocks blocks _) (settle_blocks _)
  · have known : Unknown m v := ⟨zoneHolds.trans zone, arrivalsHold.trans absent⟩
    have adds : acceptPass m v
        = queueChanged v.counts { v with arrivals := s.arrivals ++ [⟨true, m, s.now, 0⟩] } := by
      rw [acceptPass_unknown known, if_pos (by rw [arrivals]; exact room), addArrival_eq true m arrivals now]
      exact zoneChanged_expecting _ (by simp)
    rw [adds]
    exact blocksResponded_trans (arrivals_blocks blocks _)
      (blocksResponded_trans (queueChanged_blocks _ _) (settle_blocks _))
  · have known : Unknown m v := ⟨zoneHolds.trans zone, arrivalsHold.trans absent⟩
    have counts : acceptPass m v
        = { v with counters.untakenPass := min (s.counters.untakenPass + 1) 65535 } := by
      rw [acceptPass_unknown known, if_neg (by rw [arrivals]; exact Nat.not_lt.2 full), ← counted]
      rfl
    rw [counts]
    exact blocksResponded_trans (untakenPass_blocks blocks _) (settle_blocks _)

/-! ### OFFER_REPLY_EXPIRY (R91) and RESERVATION_EXPIRY (R98) -/

theorem exec_offerReplyExpiry {s : State} {tag : Tag} {r : UnitRecord} {deadline : Nat} (profile : s.hasProfile = true)
    (awake : s.mode ≠ .quiet) (found : s.findRecord tag = some r) (waits : r.handover = .offered (.waiting deadline)) :
    exec (.offerReplyExpiry tag) s = if deadline ≤ s.now then done (expireReply tag r s) else .next s := by
  show execOfferReplyExpiry tag s = _
  unfold execOfferReplyExpiry
  rw [found]
  dsimp only
  rw [ReverseDebt.acts_eq_true profile awake]
  simp [replyOverdue, waits]

/-- Settles O46: the expiry is `nextOffer`, and an OFFER where it offers again. -/
theorem offerRepliesExpire : Obligations.OfferRepliesExpire := by
  intro s tag r deadline profile awake found waits
  have exec := exec_offerReplyExpiry profile awake found waits
  refine ⟨fun due moving downstream few room => ?_, fun due rests => ?_, fun early => exec.trans (if_neg (by omega))⟩
  · have next : nextOffer s r = ({ r with handover := .offered .sending, attempts := r.attempts + 1 }, true) :=
      if_neg (by rintro (h | h | h); exacts [moving h, downstream h, by omega])
    have again : expireReply tag r s
        = queueFrame ⟨.offer, s.station.number, s.downstream, imageBytes (recordImage r)⟩
            (setHandover tag (.offered .sending) (r.attempts + 1) s) := by
      unfold expireReply
      rw [next]
      rfl
    have takes : Accepts Kind.offer (setHandover tag (.offered .sending) (r.attempts + 1) s) := room
    have outcome := exec.trans (if_pos due)
    rw [again, queueFrame_accepts takes] at outcome
    exact outcome
  · have next : nextOffer s r = ({ r with handover := .offered .resting }, false) := if_pos rests
    have rested : expireReply tag r s = setHandover tag (.offered .resting) r.attempts s := by
      unfold expireReply
      rw [next]
      rfl
    have outcome := exec.trans (if_pos due)
    rw [rested] at outcome
    exact outcome

theorem find_first {before after : List Arrival} {a : Arrival} (others : ∀ x ∈ before, x.image.tag ≠ a.image.tag) :
    (before ++ a :: after).find? (fun x => decide (x.image.tag = a.image.tag)) = some a := by
  rw [List.find?_append, List.find?_eq_none.2 fun x hx => by simpa using others x hx]
  simp

theorem withoutArrival_first {before after : List Arrival} {a : Arrival}
    (others : ∀ x ∈ before, x.image.tag ≠ a.image.tag) :
    withoutArrival a.image.tag (before ++ a :: after) = before ++ after := by
  unfold withoutArrival
  rw [List.eraseP_append_right _ fun x hx => by simpa using others x hx]
  simp

/-- Settles O47: the first entry of the tag is the one that is looked up, and the one that leaves. -/
theorem reservationExpires : Obligations.ReservationExpires := by
  intro s before after a profile awake hs others
  have found : s.arrivals.find? (fun x => decide (x.image.tag = a.image.tag)) = some a := by
    rw [hs]
    exact find_first others
  have exec : exec (.reservationExpiry a.image.tag) s
      = if reservationOverdue s a then
          done (zoneChanged s.counts (count .reserveExpired (dropArrival a.image.tag s)))
        else .next s := by
    show execReservationExpiry _ s = _
    unfold execReservationExpiry
    rw [found]
    dsimp only
    rw [ReverseDebt.acts_eq_true profile awake, Bool.true_and]
  have dropped : count .reserveExpired (dropArrival a.image.tag s)
      = { s with
          arrivals := before ++ after
          counters.reserveExpired := min (s.counters.reserveExpired + 1) 65535 } := by
    unfold dropArrival
    rw [hs, withoutArrival_first others]
    rfl
  refine ⟨fun unarmed old => ?_, fun stays => exec.trans (if_neg ?_)⟩
  · rw [dropped, if_pos (by simp [reservationOverdue, unarmed, old])] at exec
    exact next_of_done exec (queueResponded_settle (zoneChanged_responded _ _))
  · rcases stays with h | h
    · simp [reservationOverdue, h]
    · simp [reservationOverdue]
      omega

end Sys2Proof.Handover


/-! PROOFS. Frames that refresh their origin's entry alone, and WALK_SEEN (R38, R60, R87). -/

namespace Sys2Proof.Walking

open Sys2Proof Sys2Proof.Machine Sys2Proof.Safety Sys2Proof.Laws Sys2Proof.Commands Sys2Proof.Room Sys2Proof.Peers
open Sys2Proof.Handover

/-! ### The neighbour record in WALKING -/

/-- In WALKING the drive asks for nothing. -/
theorem evaluateDrive_link {s : State} (h : s.mode = .walking) : (evaluateDrive s).link = s.link := by
  unfold evaluateDrive
  split
  · rfl
  split
  · split
    · rfl
    · exact Line.driveOff_link s
  rfl

theorem handDownstream_link {s : State} (b : Option PeerEntry) (h : s.mode = .walking) :
    (handDownstream b s).link = s.link := by
  have drive := evaluateDrive_link h
  unfold handDownstream
  split
  · dsimp only
    have still : ∀ u : State, u.mode = .walking → revive u = u := fun u hu => if_pos hu
    have inner : ∀ p : Prop, [Decidable p] → (if p then s else evaluateDrive s).mode = .walking := by
      intro p _
      split
      · exact h
      · exact (blocksResponded_mode (evaluateDrive_blocks s)).trans h
    rw [still _ (inner _), ite_self]
    split
    · rfl
    · exact drive
  · rfl
  · exact drive
  · exact drive

/-- No EVENT is queued from `s` to `t`. -/
def NoEvent (s t : State) : Prop := ∀ f : Frame, f.kind = .event → Carries f t → Carries f s

theorem noEvent_of_link {s t : State} (h : t.link = s.link) : NoEvent s t :=
  fun _ _ ⟨e, he, hf⟩ => ⟨e, by rw [← h]; exact he, hf⟩

theorem NoEvent.trans {s t u : State} (h : NoEvent s t) (h' : NoEvent t u) : NoEvent s u :=
  fun f hf c => h f hf (h' f hf c)

/-- A frame that is no EVENT brings about none: what a lost frame queues is an OFFER. -/
theorem queueFrame_noEvent {f : Frame} (h : f.kind ≠ .event) (s : State) : NoEvent s (queueFrame f s) := by
  intro g hg
  have entries : ∀ (k : Frame) (u : State), k.kind ≠ .event →
      (∀ e ∈ u.link.txq, e.frame.kind = .event → Carries e.frame s) →
      ∀ e ∈ (enqueue k u).1.link.txq, e.frame.kind = .event → Carries e.frame s := by
    intro k u hk hu
    exact Changes.enqueue_entries (Q := fun e => e.frame.kind = .event → Carries e.frame s)
      (fun event => absurd event hk) (fun _ _ _ event => absurd event hk) (fun e he => hu e he)
  have all : ∀ e ∈ (queueFrame f s).link.txq, e.frame.kind = .event → Carries e.frame s :=
    Changes.queueFrame_induction (I := fun u => ∀ e ∈ u.link.txq, e.frame.kind = .event → Carries e.frame s)
      (fun _ _ _ _ hu => hu) (fun u r k => entries (offerFrame r u) u (show Kind.offer ≠ .event by decide) k)
      (entries f s h fun e he _ => ⟨e, he, rfl⟩)
  rintro ⟨e, he, rfl⟩
  exact all e he hg

theorem queueStatus_noEvent (s : State) : NoEvent s (queueStatus s) :=
  queueFrame_noEvent (show Kind.status ≠ .event by decide) s

theorem evaluateChain_noEvent (s : State) : NoEvent s (evaluateChain s) := by
  unfold evaluateChain
  split
  · exact noEvent_of_link rfl
  dsimp only
  split
  · exact noEvent_of_link rfl
  refine NoEvent.trans (t := if (chainDefrostNow s && !s.peer.chainDefrost) = true then startGapRun _ else _) ?_
    (queueStatus_noEvent _)
  split
  · refine noEvent_of_link ?_
    unfold startGapRun
    split <;> rfl
  · exact noEvent_of_link rfl

/-- A new downstream in WALKING: at most STATUS frames. -/
theorem setNeighbours_downstream {s : State} (h : s.mode = .walking) (n : Neighbours)
    (up : n.upstream = s.peer.neighbours.upstream) :
    NoEvent s (setNeighbours n s) ∧ ∀ hold, Adds hold 0 s (setNeighbours n s) := by
  have set : ∀ hold, Adds hold 0 s { s with peer.neighbours := n } := fun _ => .of_link rfl id
  have status : ∃ u, (if n.upstream = s.peer.neighbours.upstream ∧ n.downstream = s.peer.neighbours.downstream then
        { s with peer.neighbours := n } else queueStatus { s with peer.neighbours := n }) = u
      ∧ NoEvent s u ∧ (∀ hold, Adds hold 0 s u) ∧ u.mode = .walking := by
    refine ⟨_, rfl, ?_⟩
    split
    · exact ⟨noEvent_of_link rfl, set, h⟩
    · exact ⟨queueStatus_noEvent _, fun hold => (set hold).trans (queueStatus_adds hold _),
        (framesQueued_mode (queueStatus_framesQueued _)).trans h⟩
  obtain ⟨u, hu, quiet, adds, walking⟩ := status
  have chain : (evaluateChain u).mode = .walking := (blocksResponded_mode (evaluateChain_blocks u)).trans walking
  have hands := handDownstream_link s.downstreamEntry chain
  unfold setNeighbours
  dsimp only
  rw [hu, if_pos up]
  split
  · exact ⟨quiet, adds⟩
  · have mode : (handDownstream s.downstreamEntry (evaluateChain u)).mode = (evaluateChain u).mode :=
      blocksResponded_mode (handDownstream_blocks _ _)
    exact ⟨quiet.trans ((evaluateChain_noEvent u).trans (noEvent_of_link hands)), fun hold =>
      ((adds hold).trans (evaluateChain_adds hold u)).trans (.of_link hands (by rw [mode]; exact id))⟩

/-! ### WALK_SEEN (R60) -/

theorem exec_walkSeen {f : Frame} {rest : List Frame} {s : State} (ho : Oldest .walkSeen f rest s) :
    exec .walkSeen s
      = if s.mode ≠ .walking ∨ payloadByte f.payload 0 ≠ s.station.number then done (handed f rest s)
        else if s.isTail then done (queueEvent .walkOrder 1024 f.origin (handed f rest s))
        else if s.downstream = f.origin then done (handed f rest s)
        else if s.downstream = 0 then
          done (setNeighbours { s.peer.neighbours with downstream := f.origin } (handed f rest s))
        else done (queueEvent .walkOrder (768 + s.downstream) f.origin
          (setNeighbours { s.peer.neighbours with downstream := f.origin } (handed f rest s))) := by
  show execWalkSeen s = _
  unfold execWalkSeen
  rw [handleFrame_oldest ho, show handDownstream s.downstreamEntry (taken f rest s) = handed f rest s from rfl]
  dsimp only
  have record : (⟨(handed f rest s).upstream, f.origin, (handed f rest s).transferDistance⟩ : Neighbours)
      = { s.peer.neighbours with downstream := f.origin } := by
    rw [State.upstream, State.transferDistance, handed_neighbours]
  rw [record, handed_mode, handed_station, handed_isTail, handed_downstream]

theorem handed_link_walking {f : Frame} {rest : List Frame} {s : State} (h : s.mode = .walking) :
    (handed f rest s).link = { s.link with rxq := rest } := by
  rw [handed, handDownstream_link _ ((Changes.taken_mode f rest s).trans h), taken_txq]

theorem noEvent_settle (s : State) : NoEvent s (settle s) := by
  rintro f _ ⟨e, he, rfl⟩
  have mem : e.frame ∈ s.link.txq.map (·.frame) := by
    rw [← Changes.settle_frames]
    exact List.mem_map_of_mem he
  obtain ⟨e', he', hf⟩ := List.mem_map.1 mem
  exact ⟨e', he', hf⟩

/-- What carries no new EVENT, entry by entry. -/
theorem events_of_noEvent {s t : State} (h : NoEvent s t) :
    ∀ e ∈ t.link.txq, e.frame.kind = .event → ∃ e' ∈ s.link.txq, e'.frame = e.frame :=
  fun e he event => h e.frame event ⟨e, he, rfl⟩

theorem neighbours_blocks {s t : State} (h : BlocksResponded s t) (n : Neighbours) :
    BlocksResponded { s with peer.neighbours := n } { t with peer.neighbours := n } :=
  blocksResponded_update h (fun s => { s with peer.neighbours := n }) rfl (fun _ => rfl) (fun _ => rfl)

/-- A frame whose row has no effect: its origin's entry, and what that hands on. -/
theorem refreshed_alone {c : Instr} {f : Frame} {rest : List Frame} {s : State}
    (exec : exec c s = done (handed f rest s)) :
    ∃ t, Next c s t ∧ BlocksResponded (taken f rest s) t ∧ (f.origin ≠ s.downstream → t = settle (taken f rest s)) :=
  next_of_done exec ⟨blocksResponded_trans (handed_blocks f rest s) (settle_blocks _),
    fun other => by rw [handed_of_other f rest s other]⟩

/-- A WALK_SEEN that names a walking station as upstream, and no tail. -/
theorem walkSeen_follows {f : Frame} {rest : List Frame} {s : State} (ho : Oldest .walkSeen f rest s)
    (walking : s.mode = .walking) (named : payloadByte f.payload 0 = s.station.number) (tail : s.isTail = false) :
    ∃ t, Next .walkSeen s t
      ∧ BlocksResponded { taken f rest s with peer.neighbours := { s.peer.neighbours with downstream := f.origin } } t
      ∧ (s.downstream ≠ 0 → f.origin ≠ s.downstream → s.link.silencing = false → s.link.txq.length ≤ 6 →
          ∃ e ∈ t.link.txq, e.frame = eventOf s 5 (768 + s.downstream) f.origin)
      ∧ (s.downstream = 0 ∨ f.origin = s.downstream →
          ∀ e ∈ t.link.txq, e.frame.kind = .event → ∃ e' ∈ s.link.txq, e'.frame = e.frame) := by
  have exec := exec_walkSeen ho
  rw [if_neg (by rw [walking, named]; simp), if_neg (by rw [tail]; exact Bool.false_ne_true)] at exec
  have blocks := handed_blocks f rest s
  have link := handed_link_walking (f := f) (rest := rest) walking
  have mode := (handed_mode f rest s).trans walking
  have station := handed_station f rest s
  have record := handed_neighbours f rest s
  have unchanged := taken_neighbours f rest s
  generalize taken f rest s = u at blocks unchanged ⊢
  generalize handed f rest s = v at exec blocks link mode station record
  have events : NoEvent s v := by
    rintro g _ ⟨e, he, hg⟩
    exact ⟨e, by rw [link] at he; exact he, hg⟩
  by_cases same : s.downstream = f.origin
  · rw [if_pos same] at exec
    have eta : { s.peer.neighbours with downstream := f.origin } = u.peer.neighbours := by
      rw [unchanged, ← same]
      rfl
    refine next_of_done exec ⟨?_, fun _ other => absurd same.symm other, fun _ =>
      events_of_noEvent (events.trans (noEvent_settle v))⟩
    rw [eta]
    exact blocksResponded_trans blocks (settle_blocks _)
  · rw [if_neg same] at exec
    have up : ({ s.peer.neighbours with downstream := f.origin } : Neighbours).upstream = v.peer.neighbours.upstream := by
      rw [record]
    obtain ⟨quiet, adds⟩ := setNeighbours_downstream mode { s.peer.neighbours with downstream := f.origin } up
    have set := blocksResponded_trans (neighbours_blocks blocks { s.peer.neighbours with downstream := f.origin })
      (setNeighbours_blocks { s.peer.neighbours with downstream := f.origin } v)
    have number : (setNeighbours { s.peer.neighbours with downstream := f.origin } v).station = s.station := by
      rw [blocksResponded_station (setNeighbours_blocks _ v)]
      exact station
    by_cases first : s.downstream = 0
    · rw [if_pos first] at exec
      exact next_of_done exec ⟨blocksResponded_trans set (settle_blocks _), fun named => absurd first named, fun _ =>
        events_of_noEvent (events.trans (quiet.trans (noEvent_settle _)))⟩
    · rw [if_neg first] at exec
      refine next_of_done exec ⟨queueFrame_blocks _ set, fun _ _ loud room => ?_, fun h => ?_⟩
      · have spare : Spare false 1 v := by
          refine spare_of_length (by rw [mode]; nofun) (by rw [link]; exact loud) ?_
          rw [link]
          show s.link.txq.length + 1 + 0 + 1 ≤ 8
          omega
        have event := queueEvent_carries false (n := .walkOrder) (d := 768 + s.downstream) (t := f.origin)
          (adds false 1 spare).1
        have own : eventOf (setNeighbours { s.peer.neighbours with downstream := f.origin } v) 5
            (768 + s.downstream) f.origin = eventOf s 5 (768 + s.downstream) f.origin := by
          unfold eventOf
          rw [number]
        exact own ▸ carries_settle event
      · rcases h with h | h
        · exact absurd h first
        · exact absurd h.symm same

/-! ### Frames that refresh alone -/

/-- Settles O32: where the row's condition fails its effect is the handled frame, and WALK_SEEN sets one number. -/
theorem otherFramesRefresh : Obligations.OtherFramesRefresh := by
  refine ⟨fun c f rest s rows ho => refreshed_alone (?_ : exec c s = _), fun f rest s ho => ?_⟩
  · have unfit : ∀ n, (s.hasProfile = false ∨ s.mode = .walking ∨ n = 0 ∨ f.origin ≠ n) →
        ¬ actsOnFrame n f s = true := by
      intro n h acts
      obtain ⟨profile, moving, named, own⟩ := (actsOnFrame_iff n f s).1 acts
      rcases h with h | h | h | h
      · rw [profile] at h
        nomatch h
      · exact moving h
      · exact named h
      · exact h own
    rcases rows with ⟨rfl, kind⟩ | ⟨rfl, kind⟩ | ⟨⟨rfl, kind⟩ | ⟨rfl, kind⟩, fails⟩ | ⟨⟨rfl, kind⟩, fails⟩ <;>
      rw [kind] at ho
    · show execEventReceived s = _
      rw [execEventReceived, handleFrame_oldest ho]
      rfl
    · show execReportReceived s = _
      rw [execReportReceived, handleFrame_oldest ho]
      rfl
    · rw [exec_offer ho, if_neg (unfit _ fails)]
    · rw [exec_pass ho, if_neg (unfit _ fails)]
    · rw [exec_take ho, if_neg (unfit _ fails)]
  · have exec := exec_walkSeen ho
    by_cases other : s.mode ≠ .walking ∨ payloadByte f.payload 0 ≠ s.station.number
    · rw [if_pos other] at exec
      obtain ⟨t, next, blocks⟩ := refreshed_alone exec
      have not : s.mode = .walking → payloadByte f.payload 0 = s.station.number → False := fun walking named =>
        other.elim (fun h => h walking) (fun h => h named)
      exact ⟨t, next, fun _ => blocks, fun walking named => (not walking named).elim,
        fun walking named => (not walking named).elim⟩
    · rw [if_neg other] at exec
      cases tail : s.isTail with
      | true =>
        rw [if_pos tail] at exec
        exact next_of_done exec ⟨fun h => absurd h other, fun _ _ _ => event_of_handled f rest s .walkOrder 1024 _,
          fun _ _ h => nomatch h⟩
      | false =>
        rw [not_or, not_not, not_not] at other
        obtain ⟨t, next, follows⟩ := walkSeen_follows ho other.1 other.2 tail
        exact ⟨t, next, fun h => h.elim (fun h => absurd other.1 h) (fun h => absurd other.2 h),
          fun _ _ h => (nomatch h), fun _ _ _ => follows⟩

end Sys2Proof.Walking


/-! PROOFS. The start limiters (R131 to R133), and the defrost controller's expiries (R146 to R152). -/

namespace Sys2Proof.Limits

open Sys2Proof Sys2Proof.Machine Sys2Proof.Safety Sys2Proof.Laws

/-! ### A limiter's answer (R131) -/

/-- The window lets one more grant in. -/
def WindowOpen (window : Nat) (kept : List Nat) : Prop := window = 0 ∨ kept.length < 4

/-- The last stop lies far enough back. -/
def StopPassed (stop t : Nat) (l : Limiter) : Prop := ∀ e, l.lastStop = some e → stop ≤ t - e

theorem windowOpen_iff (window : Nat) (kept : List Nat) :
    (decide (window = 0) || decide (kept.length < 4)) = true ↔ WindowOpen window kept := by
  simp [WindowOpen]

theorem stopPassed_iff (stop t : Nat) (l : Limiter) :
    (l.lastStop.all fun e => decide (stop ≤ t - e)) = true ↔ StopPassed stop t l := by
  unfold StopPassed
  cases l.lastStop with
  | none => simp
  | some e => simp

/-- The time at which a condition that fails is met. -/
def waitsFor (ok : Bool) (time : Nat) : Nat := if ok then 0 else time

/-- The answer by the two conditions. -/
theorem limiterAnswer_eq (window stop t : Nat) (l : Limiter) {w p : Bool}
    (hw : (decide (window = 0) || decide ((pruneHistory window t l.history).length < 4)) = w)
    (hp : (l.lastStop.all fun e => decide (stop ≤ t - e)) = p) :
    limiterAnswer window stop t l
      = if w && p then
          .granted { l with
            history := if window = 0 then pruneHistory window t l.history
              else pruneHistory window t l.history ++ [t] }
        else
          .deferred
            { l with
              history := pruneHistory window t l.history
              deferred := some (max (waitsFor w ((pruneHistory window t l.history).headD 0 + window + 1))
                (waitsFor p (l.lastStop.getD 0 + stop))) }
            ((!w).toNat + 2 * (!p).toNat)
            (max (waitsFor w ((pruneHistory window t l.history).headD 0 + window + 1))
              (waitsFor p (l.lastStop.getD 0 + stop)) - t) := by
  subst hw hp
  rfl

/-- A stop that has not passed is one too near. -/
theorem not_stopPassed_iff (stop t : Nat) (l : Limiter) :
    ¬ StopPassed stop t l ↔ ∃ e, l.lastStop = some e ∧ t - e < stop := by
  simp [StopPassed]

theorem not_windowOpen_iff {window : Nat} {kept : List Nat} (h : kept.length ≤ 4) :
    ¬ WindowOpen window kept ↔ window ≠ 0 ∧ kept.length = 4 := by
  unfold WindowOpen
  omega

/-- The grant at a deferral's expiry leaves at most 4 in the history. -/
theorem limiterExpire_length {window expiry : Nat} {kept : List Nat} {l : Limiter} (h : kept.length ≤ 4)
    (hl : l.history = kept) (late : ¬ WindowOpen window kept → kept.headD 0 + window + 1 ≤ expiry) :
    (limiterExpire window expiry l).history.length ≤ 4 := by
  have pruned := (Changes.pruneHistory_length window expiry l.history)
  unfold limiterExpire
  dsimp only
  rw [hl] at pruned ⊢
  split
  · omega
  · next positive =>
    rw [List.length_append, List.length_singleton]
    refine Nat.succ_le_of_lt ?_
    by_cases opens : WindowOpen window kept
    · exact lt_of_le_of_lt pruned (opens.resolve_left positive)
    · have := late opens
      exact Changes.filter_lt_of_head h fun _ => by rw [decide_eq_false_iff_not]; omega

/-- What an answer says, for a history of at most 4. -/
theorem limiterAnswer_bounds (window stop t : Nat) (l : Limiter) (kept : List Nat) (four : l.history.length ≤ 4)
    (hk : kept = l.history.filter (fun e => decide (t - e ≤ window))) :
    ((window = 0 ∨ kept.length < 4) → (∀ e, l.lastStop = some e → stop ≤ t - e) →
      ∃ l', limiterAnswer window stop t l = .granted l')
    ∧ (∀ l', limiterAnswer window stop t l = .granted l' →
      l' = { l with history := kept ++ (if window = 0 then [] else [t]) }
        ∧ l'.history.length ≤ 4 ∧ (∀ e, l.lastStop = some e → stop ≤ t - e))
    ∧ (∀ l' failing length, limiterAnswer window stop t l = .deferred l' failing length →
      ∃ expiry, l' = { l with history := kept, deferred := some expiry } ∧ length = expiry - t
        ∧ (limiterExpire window expiry l').history.length ≤ 4
        ∧ (failing = 1 ∨ failing = 3 ↔ window ≠ 0 ∧ kept.length = 4)
        ∧ (failing = 2 ∨ failing = 3 ↔ ∃ e, l.lastStop = some e ∧ t - e < stop)
        ∧ (failing = 1 ∨ failing = 2 ∨ failing = 3)
        ∧ (failing = 1 → expiry = kept.headD 0 + window + 1)
        ∧ (failing = 2 → expiry = l.lastStop.getD 0 + stop)
        ∧ (failing = 3 → expiry = max (kept.headD 0 + window + 1) (l.lastStop.getD 0 + stop))) := by
  have prune : pruneHistory window t l.history = kept := hk.symm
  have size : kept.length ≤ 4 := by
    rw [hk]
    exact (List.length_filter_le _ _).trans four
  have answer : ∀ {w p : Bool}, ((decide (window = 0) || decide (kept.length < 4)) = w) →
      ((l.lastStop.all fun e => decide (stop ≤ t - e)) = p) → _ := fun {w p} hw hp =>
    limiterAnswer_eq window stop t l (w := w) (p := p) (by rw [prune]; exact hw) hp
  rw [prune] at answer
  have opens : WindowOpen window kept → (decide (window = 0) || decide (kept.length < 4)) = true :=
    (windowOpen_iff window kept).2
  have shut : ¬ WindowOpen window kept → (decide (window = 0) || decide (kept.length < 4)) = false :=
    fun h => Bool.eq_false_iff.2 (mt (windowOpen_iff window kept).1 h)
  have passed : StopPassed stop t l → (l.lastStop.all fun e => decide (stop ≤ t - e)) = true :=
    (stopPassed_iff stop t l).2
  have near : ¬ StopPassed stop t l → (l.lastStop.all fun e => decide (stop ≤ t - e)) = false :=
    fun h => Bool.eq_false_iff.2 (mt (stopPassed_iff stop t l).1 h)
  by_cases window? : WindowOpen window kept
  · by_cases stop? : StopPassed stop t l
    · replace answer := answer (opens window?) (passed stop?)
      simp only [Bool.true_and, if_true] at answer
      refine ⟨fun _ _ => ⟨_, answer⟩, fun l' h => ?_, fun l' failing length h => (nomatch answer.symm.trans h)⟩
      obtain rfl := LimiterAnswer.granted.inj (answer.symm.trans h)
      refine ⟨?_, ?_, stop?⟩
      · split <;> simp
      · dsimp only
        split
        · exact size
        · next positive =>
          rw [List.length_append, List.length_singleton]
          exact window?.resolve_left positive
    · replace answer := answer (opens window?) (near stop?)
      simp only [Bool.true_and, Bool.false_eq_true, if_false, if_true, waitsFor, Nat.zero_max] at answer
      refine ⟨fun _ h => absurd h stop?, fun l' h => (nomatch answer.symm.trans h), fun l' failing length h => ?_⟩
      obtain ⟨rfl, rfl, rfl⟩ := LimiterAnswer.deferred.inj (answer.symm.trans h)
      refine ⟨_, rfl, rfl, limiterExpire_length size rfl fun h => absurd window? h, ?_, ?_, ?_⟩
      · exact ⟨fun h => h.elim nofun nofun, fun h => absurd window? ((not_windowOpen_iff size).2 h)⟩
      · exact ⟨fun _ => (not_stopPassed_iff stop t l).1 stop?, fun _ => .inl rfl⟩
      · exact ⟨.inr (.inl rfl), nofun, fun _ => rfl, nofun⟩
  · by_cases stop? : StopPassed stop t l
    · replace answer := answer (shut window?) (passed stop?)
      simp only [Bool.false_and, Bool.false_eq_true, if_false, if_true, waitsFor, Nat.max_zero] at answer
      refine ⟨fun h _ => absurd h window?, fun l' h => (nomatch answer.symm.trans h), fun l' failing length h => ?_⟩
      obtain ⟨rfl, rfl, rfl⟩ := LimiterAnswer.deferred.inj (answer.symm.trans h)
      refine ⟨_, rfl, rfl, limiterExpire_length size rfl fun _ => le_rfl, ?_, ?_, ?_⟩
      · exact ⟨fun _ => (not_windowOpen_iff size).1 window?, fun _ => .inl rfl⟩
      · exact ⟨fun h => h.elim nofun nofun, fun h => absurd stop? ((not_stopPassed_iff stop t l).2 h)⟩
      · exact ⟨.inl rfl, fun _ => rfl, nofun, nofun⟩
    · replace answer := answer (shut window?) (near stop?)
      simp only [Bool.false_and, Bool.false_eq_true, if_false, waitsFor] at answer
      refine ⟨fun h _ => absurd h window?, fun l' h => (nomatch answer.symm.trans h), fun l' failing length h => ?_⟩
      obtain ⟨rfl, rfl, rfl⟩ := LimiterAnswer.deferred.inj (answer.symm.trans h)
      refine ⟨_, rfl, rfl, limiterExpire_length size rfl fun _ => le_max_left _ _, ?_, ?_, ?_⟩
      · exact ⟨fun _ => (not_windowOpen_iff size).1 window?, fun _ => .inr rfl⟩
      · exact ⟨fun _ => (not_stopPassed_iff stop t l).1 stop?, fun _ => .inr rfl⟩
      · exact ⟨.inr (.inr rfl), nofun, nofun, fun _ => rfl⟩

/-! ### Requests and expiries (R132, R133) -/

/-- A limiter's number, window, stop time and record, by its name. -/
def Names (i : LimiterId) (s : State) (number window stop : Nat) (l : Limiter) : Prop :=
  limiterCode i = number ∧ limiterWindow s i = window ∧ limiterStop s i = stop ∧ limiterOf s i = l

theorem requestStart_joins {i : LimiterId} {s : State} (h : (limiterOf s i).deferred ≠ none) :
    requestStart i s = (s, false) :=
  if_pos (Option.isSome_iff_ne_none.2 h)

theorem requestStart_granted {i : LimiterId} {s : State} {l : Limiter} (free : (limiterOf s i).deferred = none)
    (h : limiterAnswer (limiterWindow s i) (limiterStop s i) s.now (limiterOf s i) = .granted l) :
    requestStart i s = (setLimiter i l s, true) := by
  unfold requestStart
  rw [if_neg (by rw [free]; exact Bool.false_ne_true), h]

theorem requestStart_deferred {i : LimiterId} {s : State} {l : Limiter} {failing length : Nat}
    (free : (limiterOf s i).deferred = none)
    (h : limiterAnswer (limiterWindow s i) (limiterStop s i) s.now (limiterOf s i) = .deferred l failing length) :
    requestStart i s
      = (queueFrame (eventOf s 11 (256 * limiterCode i + failing) (min ((length + 99) / 100) 65535))
          { setLimiter i l s with counters.startDeferred := min (s.counters.startDeferred + 1) 65535 }, false) := by
  unfold requestStart
  rw [if_neg (by rw [free]; exact Bool.false_ne_true), h]
  cases i <;> rfl

theorem exec_deferralExpiry {i : LimiterId} {s : State} {d : Nat} (profile : s.hasProfile = true)
    (awake : s.mode ≠ .quiet) (h : (limiterOf s i).deferred = some d) :
    exec (.deferralExpiry i) s
      = if d ≤ s.now then
          done (useGrant i d (setLimiter i (limiterExpire (limiterWindow s i) d (limiterOf s i)) s))
        else .next s := by
  show execDeferralExpiry i s = _
  unfold execDeferralExpiry
  rw [h]
  dsimp only
  rw [ReverseDebt.acts_eq_true profile awake, Bool.true_and]
  simp only [decide_eq_true_eq]

/-- The limiter after the grant at its expiry. -/
theorem limiterExpire_eq (window d : Nat) (l : Limiter) :
    limiterExpire window d l
      = { l with
          history := l.history.filter (fun e => decide (d - e ≤ window)) ++ (if window = 0 then [] else [d])
          deferred := none } := by
  unfold limiterExpire pruneHistory
  split <;> simp

/-- A drive grant at its expiry turns on the drive of a station that may run. -/
theorem driveGrant (s : State) (l : Limiter) (d : Nat) :
    useGrant .drive d (setLimiter .drive l s)
      = { s with
          flow.driveLimiter := l
          flow.drive :=
            if s.unstoppable = false ∧ (s.mode = .running ∨ s.mode = .draining) ∧ s.stopCause = false then true
            else s.flow.drive } := by
  show (if s.unstoppable = false ∧ (s.mode = .running ∨ s.mode = .draining) ∧ s.stopCause = false then
    driveOn (setLimiter .drive l s) else setLimiter .drive l s) = _
  split <;> rfl

theorem giveEvent_other {e : EventSource} {s : State} {ch : Nat} (h : ch < 6)
    (other : (s.channelRecord ch).mode ≠ .eventPulse) :
    (giveEvent e s).channels.chans[ch] = s.channels.chans[ch] := by
  show (mapChannels _ _)[ch] = _
  rw [mapChannels_get _ _ ch h]
  exact if_neg fun h => other h.2.1

/-- What a door grant at its expiry leaves. -/
theorem doorGrant (s : State) (l : Limiter) (d : Nat) :
    ∃ chans, useGrant .door d (setLimiter .door l s)
        = { s with
            flow.doorLimiter := l
            packing.door := if s.packing.door = .requested then .opened (d + s.item 75) else s.packing.door
            channels := { s.channels with chans := chans } }
      ∧ ∀ ch (h : ch < 6), (s.channelRecord ch).mode ≠ .eventPulse → chans[ch] = s.channels.chans[ch] := by
  show ∃ chans, (if s.packing.door = .requested then openDoor d (setLimiter .door l s) else setLimiter .door l s) = _ ∧ _
  split
  · exact ⟨_, rfl, fun ch h other => giveEvent_other (e := .doorStart)
      (s := { setLimiter .door l s with packing.door := .opened (d + s.item 75) }) h other⟩
  · exact ⟨s.channels.chans, rfl, fun _ _ _ => rfl⟩

/-- The outputs that a command's end sets are read from nothing that it sets. -/
theorem settle_channels (u : State) : settle { u with channels := (settle u).channels } = settle u := rfl

/-- A command's end writes of a channel its output alone. -/
theorem settle_out (u : State) (ch : Nat) (h : ch < 6) :
    (settle u).channels.chans[ch] = { u.channels.chans[ch] with out := (settle u).channels.chans[ch].out } := by
  have get : (settle u).channels.chans[ch]
      = { u.channels.chans[ch] with out := channelOutput (settleLine u) ch u.channels.chans[ch] } :=
    mapChannels_get _ _ ch h
  rw [get]

/-- Settles O53: `limiterAnswer` by its two conditions, and the request and the expiry that use it. -/
theorem limiterBoundsStarts : Obligations.LimiterBoundsStarts := by
  refine ⟨limiterAnswer_bounds, fun s d profile awake => ⟨fun h due => ?_, fun h due => ?_, fun h early => ?_,
    fun h early => ?_⟩, fun i s number window stop l names => ?_⟩
  · have exec := (exec_deferralExpiry (i := .drive) profile awake h).trans (if_pos due)
    rw [driveGrant, limiterExpire_eq] at exec
    exact exec
  · have exec := (exec_deferralExpiry (i := .door) profile awake h).trans (if_pos due)
    obtain ⟨chans, grant, others⟩ := doorGrant s (limiterExpire (s.item 76) d s.flow.doorLimiter) d
    rw [show limiterWindow s .door = s.item 76 from rfl, show limiterOf s .door = s.flow.doorLimiter from rfl, grant,
      limiterExpire_eq] at exec
    refine next_of_done exec ⟨(settle_channels _).symm, rfl, rfl, rfl, rfl, rfl, fun ch h other => ?_⟩
    rw [← others ch h other]
    exact settle_out _ ch h
  · exact (exec_deferralExpiry (i := .drive) profile awake h).trans (if_neg (by omega))
  · exact (exec_deferralExpiry (i := .door) profile awake h).trans (if_neg (by omega))
  · have of : Names i s number window stop l := by
      rcases names with ⟨rfl, rfl, rfl, rfl, rfl⟩ | ⟨rfl, rfl, rfl, rfl, rfl⟩ <;> exact ⟨rfl, rfl, rfl, rfl⟩
    obtain ⟨rfl, rfl, rfl, rfl⟩ := of
    exact ⟨requestStart_joins, fun l' => requestStart_granted, fun l' failing length => requestStart_deferred⟩

end Sys2Proof.Limits


/-! PROOFS. The defrost controller's expiries: the interval and the completion (R146 to R152). -/

namespace Sys2Proof.Defrost

open Sys2Proof Sys2Proof.Machine Sys2Proof.Safety Sys2Proof.Laws Sys2Proof.Room

/-! ### The want flag (R148) -/

/-- The want flag's evaluation: the flag, and responses. -/
theorem evaluateWant_blocks (s : State) :
    BlocksResponded { s with defrost.want := wantAfter s } (evaluateWant s) := by
  unfold evaluateWant
  split
  · next same =>
    rw [same]
    exact blocksResponded_refl s
  · exact blocksResponded_trans (framesQueued_blocks (queueStatus_framesQueued _)) (evaluateChain_blocks _)

@[simp] theorem evaluateWant_tracking (s : State) : (evaluateWant s).tracking = s.tracking := by
  unfold evaluateWant
  split
  · rfl
  · rw [evaluateChain_tracking, queueStatus_tracking]

theorem overdueStay_blocks {s t : State} (h : BlocksResponded s t) (b : Bool) :
    BlocksResponded { s with defrost.overdueStay := b } { t with defrost.overdueStay := b } :=
  blocksResponded_update h (fun s => { s with defrost.overdueStay := b }) rfl (fun _ => rfl) (fun _ => rfl)

/-! ### The interval (R146, R147) -/

theorem exec_defrostIntervalExpiry {s : State} (freeze : s.hasRole .freeze = true)
    (runs : s.mode = .running ∨ s.mode = .draining) :
    exec .defrostIntervalExpiry s
      = if s.defrostPeriod ≤ s.defrost.intervalElapsed then
          done (intervalExpires { s with defrost.intervalElapsed := 0 })
        else .next s := by
  show execDefrostIntervalExpiry s = _
  unfold execDefrostIntervalExpiry intervalRuns
  rw [freeze, show (decide (s.mode = .running) || decide (s.mode = .draining)) = true by simpa using runs]
  simp only [Bool.true_and, decide_eq_true_eq]

theorem raiseDebt_blocks (s : State) :
    BlocksResponded
      { s with
        defrost.debt := s.defrost.debt + 1
        defrost.want :=
          if s.debtHigh ≤ s.defrost.debt + 1 then true
          else if s.defrost.debt + 1 < s.debtHyst then false
          else s.defrost.want } (raiseDebt s) :=
  blocksResponded_trans (evaluateWant_blocks { s with defrost.debt := s.defrost.debt + 1 })
    (blocksResponded_trans (framesQueued_blocks (queueStatus_framesQueued _)) (defrostTest_blocks _))

theorem overdueDatum_some {s : State} {c : DefrostCycle} (h : s.defrost.cycle = some c) :
    overdueDatum s = if c.kind = .normal then 1 else 2 := by
  unfold overdueDatum
  rw [h]
  obtain ⟨kind, e⟩ := c
  cases kind <;> rfl

/-- Settles O54: below 8 the debt rises with its evaluations, and at 8 the overdue stay opens with one event. -/
theorem defrostIntervalExpires : Obligations.DefrostIntervalExpires := by
  intro s freeze runs
  have exec := exec_defrostIntervalExpiry freeze runs
  have awake : s.mode ≠ .quiet := by rcases runs with h | h <;> rw [h] <;> nofun
  refine ⟨fun due => ?_, fun early => exec.trans (if_neg (by omega))⟩
  rw [if_pos due] at exec
  by_cases low : s.defrost.debt < 8
  · have rises : intervalExpires { s with defrost.intervalElapsed := 0 }
        = raiseDebt { s with defrost.intervalElapsed := 0 } := if_pos low
    rw [rises] at exec
    exact next_of_done exec ⟨fun _ => blocksResponded_trans (raiseDebt_blocks _) (settle_blocks _),
      fun full => absurd low (by omega), fun full => absurd low (by omega), fun full => absurd low (by omega)⟩
  · by_cases stays : s.defrost.overdueStay = true
    · have nothing : intervalExpires { s with defrost.intervalElapsed := 0 }
          = { s with defrost.intervalElapsed := 0 } := (if_neg low).trans (if_pos stays)
      rw [nothing] at exec
      refine next_of_done exec ⟨fun h => absurd h low, fun _ => ?_, fun _ _ => settle_txq awake, fun _ h => ?_⟩
      · rw [← stays]
        exact settle_blocks _
      · rw [stays] at h
        nomatch h
    · have opens : intervalExpires { s with defrost.intervalElapsed := 0 }
          = queueEvent .defrostOverdue (overdueDatum { s with defrost.intervalElapsed := 0 }) 0
              { s with defrost.intervalElapsed := 0, defrost.overdueStay := true } := (if_neg low).trans (if_neg stays)
      rw [opens] at exec
      refine next_of_done exec ⟨fun h => absurd h low, fun _ => Commands.queueFrame_blocks _ (blocksResponded_refl _),
        fun _ h => absurd h stays, fun _ _ room c hc => ?_⟩
      have takes : Accepts Kind.event { s with defrost.intervalElapsed := 0, defrost.overdueStay := true } := room
      rw [overdueDatum_some (s := { s with defrost.intervalElapsed := 0 }) hc]
      exact Report.settle_queueFrame_txq takes

/-! ### The completion (R152) -/

theorem exec_defrostCompletion {s : State} {c : DefrostCycle} (profile : s.hasProfile = true)
    (awake : s.mode ≠ .quiet) (h : s.defrost.cycle = some c) :
    exec .defrostCompletion s
      = if c.endTime ≤ s.now then done (queueStatus (refreshReasons (startDueCycle (completeCycle s))))
        else .next s := by
  show execDefrostCompletion s = _
  unfold execDefrostCompletion
  rw [h]
  dsimp only
  rw [ReverseDebt.acts_eq_true profile awake, Bool.true_and]
  simp only [decide_eq_true_eq]

/-- The controller after steps 1 to 3 of R152, with the cycle over. -/
def repaid (s : State) : State :=
  { s with
    defrost.debt := s.defrost.debt - 1
    defrost.want :=
      if s.debtHigh ≤ s.defrost.debt - 1 then true
      else if s.defrost.debt - 1 < s.debtHyst then false
      else s.defrost.want
    defrost.overdueStay := s.defrost.overdueStay && decide (8 ≤ s.defrost.debt - 1)
    counters.defrostDone := min (s.counters.defrostDone + 1) 65535 }

theorem blocksResponded_debt {s t : State} (h : BlocksResponded s t) : t.defrost.debt = s.defrost.debt := by
  have e := congrArg (fun s => s.defrost.debt) h.1
  exact e

theorem blocksResponded_overdueStay {s t : State} (h : BlocksResponded s t) :
    t.defrost.overdueStay = s.defrost.overdueStay := by
  have e := congrArg (fun s => s.defrost.overdueStay) h.1
  exact e

/-- A cycle over, after responses. -/
theorem cycle_blocks {s t : State} (h : BlocksResponded s t) (c : Option DefrostCycle) :
    BlocksResponded s { t with defrost.cycle := c } := by
  refine ⟨?_, h.2.1, h.2.2⟩
  have e := congrArg (fun u : State => { u with defrost.cycle := c }) h.1
  exact e

theorem completeCycle_blocks (s : State) : BlocksResponded (repaid s) (completeCycle s) := by
  have want := evaluateWant_blocks (count .defrostDone { s with defrost.debt := s.defrost.debt - 1 })
  have debt := blocksResponded_debt want
  have stay := blocksResponded_overdueStay want
  unfold completeCycle
  dsimp only
  generalize evaluateWant (count .defrostDone { s with defrost.debt := s.defrost.debt - 1 }) = u at want debt stay ⊢
  have value : (u.defrost.overdueStay && decide (8 ≤ u.defrost.debt))
      = (s.defrost.overdueStay && decide (8 ≤ s.defrost.debt - 1)) := by
    rw [debt, stay]
    rfl
  rw [value]
  exact cycle_blocks (overdueStay_blocks want (s.defrost.overdueStay && decide (8 ≤ s.defrost.debt - 1))) none

theorem setReasons_defrost (l : Bool) (s : State) : (setReasons l s).defrost = s.defrost := by
  have blocks := flowResponded_refl s
  unfold setReasons
  dsimp only
  split
  · rfl
  · have queued := framesQueued_trans (queueStatus_framesQueued { s with flow.reasons := s.reasonsInForce l })
      (queueHold_framesQueued _)
    have e := congrArg State.defrost queued.1
    exact e

theorem queueStatus_defrost (s : State) : (queueStatus s).defrost = s.defrost := by
  have e := congrArg State.defrost (queueStatus_framesQueued s).1
  exact e

/-- What the start test starts in a controller with no cycle. -/
theorem startDueCycle_cycle {s : State} (freeze : s.hasRole .freeze = true) (free : s.defrost.cycle = none) :
    (startDueCycle s).defrost.cycle
      = if s.mode = .ready ∨ s.mode = .running ∨ s.mode = .draining then
          if s.debtPanic ≤ s.defrost.debt then some ⟨.panic, s.now + s.defrostTime⟩
          else if s.debtLow ≤ s.defrost.debt ∧ s.tracking.zone = [] ∧ s.arrivals = [] then
            some ⟨.normal, s.now + s.defrostTime⟩
          else none
        else none := by
  unfold startDueCycle
  rw [freeze, free]
  by_cases may : s.mode = .ready ∨ s.mode = .running ∨ s.mode = .draining
  · rw [if_pos may, if_pos (by simpa [defrostState] using may)]
    unfold cycleToStart
    by_cases panic : s.debtPanic ≤ s.defrost.debt
    · rw [if_pos panic, if_pos panic]
      rfl
    · rw [if_neg panic, if_neg panic]
      by_cases low : s.debtLow ≤ s.defrost.debt ∧ s.tracking.zone = [] ∧ s.arrivals = []
      · rw [if_pos low, if_pos low]
        rfl
      · rw [if_neg low, if_neg low]
        exact free
  · rw [if_neg may, if_neg (by simpa [defrostState] using may)]
    exact free

/-- What the start test reads of a station after responses. -/
theorem completeCycle_reads (s : State) :
    (completeCycle s).defrost.cycle = none ∧ (completeCycle s).defrost.debt = s.defrost.debt - 1
      ∧ (completeCycle s).tracking = s.tracking ∧ (completeCycle s).arrivals = s.arrivals
      ∧ (completeCycle s).mode = s.mode ∧ (completeCycle s).station = s.station ∧ (completeCycle s).now = s.now := by
  have blocks := completeCycle_blocks s
  have arrivals := Handover.blocksResponded_arrivals blocks
  have mode := blocksResponded_mode blocks
  have station := blocksResponded_station blocks
  have now := Handover.blocksResponded_now blocks
  exact ⟨rfl, blocksResponded_debt blocks, evaluateWant_tracking _, arrivals, mode, station, now⟩

/-- Settles O55: the completion repays, and the start test reads the repaid debt. -/
theorem defrostCompletes : Obligations.DefrostCompletes := by
  intro s c freeze awake cycle
  have exec := exec_defrostCompletion (Changes.hasProfile_of_hasRole freeze) awake cycle
  refine ⟨fun due => ?_, fun early => exec.trans (if_neg (by omega))⟩
  rw [if_pos due] at exec
  obtain ⟨free, debt, tracking, arrivals, mode, station, now⟩ := completeCycle_reads s
  have blocks := completeCycle_blocks s
  generalize completeCycle s = u at exec free debt tracking arrivals mode station now blocks
  refine next_of_done exec ⟨?_, ?_⟩
  · exact blocksResponded_trans blocks (blocksResponded_trans (startDueCycle_blocks u)
      (blocksResponded_trans (refreshReasons_blocks _)
        (blocksResponded_trans (framesQueued_blocks (queueStatus_framesQueued _)) (settle_blocks _))))
  · have items : ∀ n, u.item n = s.item n := fun n => by unfold State.item State.items; rw [station]
    have role : u.hasRole .freeze = true := by
      unfold State.hasRole State.role State.items at freeze ⊢
      rw [station]
      exact freeze
    rw [settle_defrost, queueStatus_defrost, refreshReasons, setReasons_defrost, startDueCycle_cycle role free, mode,
      debt, tracking, arrivals, now, State.debtPanic, State.debtLow, State.defrostTime, items, items, items]
    rfl

end Sys2Proof.Defrost


/-! PROOFS. The dose unit's accrual and verdicts (R111 to R121). -/

namespace Sys2Proof.Dose

open Sys2Proof Sys2Proof.Machine Sys2Proof.Safety Sys2Proof.Laws Sys2Proof.Room

/-! ### Accrual (R112) -/

section Accrual

variable {s : State} {r : UnitRecord} {n : Nat}

theorem accrueRecord_closed (h : accountClosed s r = true) : accrueRecord s r = r :=
  if_neg (by rw [h]; exact fun h => nomatch h.2)

/-- An open account of a segment under a probe. -/
theorem accrueRecord_open (kind : r.kind = .segment) (under : probeUnder s r = some n) (h : accountClosed s r = false) :
    accrueRecord s r
      = match (s.probe n).value with
        | some t =>
          if s.staleLimit < (s.probe n).invalidRun then { r with disposition := raiseTo 3 r.disposition } else accrue s t r
        | none => { r with disposition := raiseTo 3 r.disposition } := by
  unfold accrueRecord
  rw [if_pos ⟨kind, h⟩, under] <;> rfl

theorem accrueRecord_stale (kind : r.kind = .segment) (under : probeUnder s r = some n) (h : accountClosed s r = false)
    (stale : probeIsStale s.staleLimit (s.probe n) = true) :
    accrueRecord s r = { r with disposition := max 3 r.disposition } := by
  rw [accrueRecord_open kind under h]
  unfold probeIsStale at stale
  cases hv : (s.probe n).value with
  | none => rfl
  | some t =>
    rw [hv] at stale
    exact if_pos (by simpa using stale)

theorem accrueRecord_fresh {t : Int} (kind : r.kind = .segment) (under : probeUnder s r = some n)
    (h : accountClosed s r = false) (fresh : probeIsStale s.staleLimit (s.probe n) = false)
    (value : (s.probe n).value = some t) : accrueRecord s r = accrue s t r := by
  rw [accrueRecord_open kind under h, value]
  unfold probeIsStale at fresh
  rw [value] at fresh
  exact if_neg (by simpa using fresh)

end Accrual

/-! ### The lethal rate (R113 to R116) -/

theorem decadeTable_le (i : Nat) : decadeTable.getD i 4096 ≤ 40593 := by
  have entries : ∀ x ∈ decadeTable, x ≤ 40593 := by decide +kernel
  rw [List.getD_eq_getElem?_getD]
  cases h : decadeTable[i]? with
  | none => exact (by decide : 4096 ≤ 40593)
  | some x => exact entries x (List.mem_of_getElem? h)

theorem roundDiv_le (m d : Nat) (h : 0 < d) : roundDiv m d ≤ m + 1 := by
  unfold roundDiv
  refine Nat.div_le_of_le_mul ?_
  nlinarith

theorem exponentOf_range (tRef : Int) (z : Nat) (t : Int) :
    -1024 ≤ exponentOf tRef z t ∧ exponentOf tRef z t ≤ 512 := by
  unfold exponentOf
  omega

/-- The lethal rate of an exponent in range is at most 100, in Q12. -/
theorem lethalRate_le {q : Int} (h : q ≤ 512) : lethalRate q ≤ 409600 := by
  unfold lethalRate
  dsimp only
  have table := decadeTable_le (q % 256).toNat
  split
  · next positive =>
    rcases lt_or_eq_of_le h with less | rfl
    · have power : (q / 256).toNat ≤ 1 := by omega
      calc decadeTable.getD (q % 256).toNat 4096 * 10 ^ (q / 256).toNat
          ≤ 40593 * 10 ^ 1 := Nat.mul_le_mul table (Nat.pow_le_pow_right (by omega) power)
        _ ≤ 409600 := by omega
    · decide
  · have := roundDiv_le (decadeTable.getD (q % 256).toNat 4096) (10 ^ (-(q / 256)).toNat) (by positivity)
    omega

theorem lethalIncrement_le {rate p : Nat} (hr : rate ≤ 409600) (hp : p ≤ 1000) : lethalIncrement rate p ≤ 100000 := by
  have product : rate * p ≤ 409600 * 1000 := Nat.mul_le_mul hr hp
  unfold lethalIncrement roundDiv
  omega

/-- At T_REF the exponent is 0. -/
theorem exponentOf_self (tRef : Int) (z : Nat) : exponentOf tRef z tRef = 0 := by
  unfold exponentOf roundAway
  simp

theorem lethalIncrement_unit (p : Nat) : lethalIncrement (lethalRate 0) p = p := by
  have rate : lethalRate 0 = 4096 := by decide
  unfold lethalIncrement roundDiv
  rw [rate]
  omega

/-! ### Verdicts (R118 to R121) -/

theorem verdictDue_iff (s : State) (r : UnitRecord) :
    verdictDue s r = true ↔
      r.kind = .segment ∧ r.forming = false
        ∧ ((s.hasRole .blanch = true ∧ r.blanchMade = false)
            ∨ ((s.hasRole .chill = true ∨ s.hasRole .freeze = true) ∧ r.dwellMade = false))
        ∧ ((s.verdictPoint : Int) ≤ (r.head : Int) - (r.length / 2 : Nat)
            ∨ (s.isTail = false ∧ s.zoneLength - s.offerLead ≤ r.head)) := by
  unfold verdictDue UnitRecord.midpoint State.offerPoint
  simp only [Bool.and_eq_true, Bool.or_eq_true, Bool.not_eq_true', decide_eq_true_eq, and_assoc]

/-- A station has one role. -/
theorem hasRole_other {s : State} {a b : Role} (h : s.hasRole a = true) (ne : a ≠ b) : s.hasRole b = false := by
  unfold State.hasRole at h ⊢
  rw [decide_eq_true_eq] at h
  rw [h, decide_eq_false_iff_not]
  exact fun e => ne (Option.some.inj e)

theorem judgedRecord_blanch {s : State} (blanch : s.hasRole .blanch = true) (r : UnitRecord) :
    judgedRecord s r
      = { r with
          disposition :=
            if r.dose.getD 0 < s.item 32 ∨ r.dose = none then max 5 r.disposition
            else if s.item 33 < r.dose.getD 0 then max 4 r.disposition
            else r.disposition
          blanchMade := true } := by
  unfold judgedRecord verdictOutcome
  rw [blanch, Bool.or_true, Bool.not_true, Bool.or_false, if_pos rfl]
  cases r.dose with
  | none => simp [raiseTo]
  | some d =>
    by_cases low : d < s.item 32
    · simp [low, raiseTo]
    · by_cases high : s.item 33 < d <;> simp [low, high, raiseTo]

theorem judgedRecord_dwell {s : State} (blanch : s.hasRole .blanch = false) (r : UnitRecord) :
    judgedRecord s r
      = { r with
          disposition := if r.dwell.getD 0 < s.item 37 ∨ r.dwell = none then max 6 r.disposition else r.disposition
          dwellMade := true } := by
  unfold judgedRecord verdictOutcome
  rw [blanch, Bool.or_false, Bool.not_false, Bool.or_true, if_neg Bool.false_ne_true]
  cases r.dwell with
  | none => simp [raiseTo]
  | some d => by_cases low : d < s.item 37 <;> simp [low, raiseTo]

theorem reportVerdict_tracking (o : Option Nat) (s : State) (r : UnitRecord) :
    (reportVerdict o s r).tracking = s.tracking := by
  cases o with
  | none => rfl
  | some code => exact queueEvent_tracking _ _ _ _

/-- The reports of a list of verdicts change no record, and count the failing ones. -/
theorem reports_fold (outcome : UnitRecord → Option Nat) (l : List UnitRecord) (s : State) :
    (l.foldl (fun s1 r => reportVerdict (outcome r) s1 r) s).tracking = s.tracking
      ∧ (s.counters.verdictFail ≤ 65535 →
          (l.foldl (fun s1 r => reportVerdict (outcome r) s1 r) s).counters.verdictFail
            = min 65535 (s.counters.verdictFail + (l.filter fun r => (outcome r).isSome).length)) := by
  induction l generalizing s with
  | nil => exact ⟨rfl, fun h => by simp [h]⟩
  | cons r l ih =>
    obtain ⟨tracking, counts⟩ := ih (reportVerdict (outcome r) s r)
    refine ⟨tracking.trans (reportVerdict_tracking _ _ _), fun h => ?_⟩
    cases ho : outcome r with
    | none =>
      rw [List.foldl_cons, List.filter_cons_of_neg (by simp [ho]), ho]
      rw [ho] at counts
      exact counts h
    | some code =>
      have counted : (reportVerdict (some code) s r).counters.verdictFail = min (s.counters.verdictFail + 1) 65535 := by
        have e := congrArg (fun s => s.counters.verdictFail)
          (queueEvent_framesQueued .verdict code r.tag.toNat (count .verdictFail s)).1
        exact e
      rw [List.foldl_cons, List.filter_cons_of_pos (by simp [ho]), ho]
      rw [ho] at counts
      rw [counts (by rw [counted]; omega), counted, List.length_cons]
      omega

theorem judgeZone_tracking (s : State) :
    (judgeZone s).tracking
      = { s.tracking with zone := s.tracking.zone.map fun r => if verdictDue s r then judgedRecord s r else r } :=
  (reports_fold _ _ _).1

/-- Settles O49: the rows of R112, the rate by its exponent, and the judgement of a due record. -/
theorem accrualRows : Obligations.AccrualRows := by
  refine ⟨fun s r n kind under => ⟨accrueRecord_closed, accrueRecord_stale kind under, fun t account fresh value =>
    ⟨fun blanch => ?_, fun blanch cold => ?_, fun blanch warm => ?_⟩⟩, fun tRef t z p => ⟨?_, fun hp => ?_, ?_⟩,
    fun s r => ⟨verdictDue_iff s r, fun blanch => judgedRecord_blanch blanch r, fun role => ?_⟩,
    fun s => ⟨?_, fun h => ?_⟩⟩
  · rw [accrueRecord_fresh kind under account fresh value]
    exact if_pos blanch
  · rw [accrueRecord_fresh kind under account fresh value, accrue, if_neg (by rw [blanch]; exact Bool.false_ne_true),
      if_pos cold]
    rfl
  · rw [accrueRecord_fresh kind under account fresh value, accrue, if_neg (by rw [blanch]; exact Bool.false_ne_true),
      if_neg (by omega)]
  · exact lethalRate_le (exponentOf_range tRef z t).2
  · exact lethalIncrement_le (lethalRate_le (exponentOf_range tRef z t).2) hp
  · rw [exponentOf_self]
    exact lethalIncrement_unit p
  · refine judgedRecord_dwell ?_ r
    rcases role with h | h
    · exact hasRole_other h nofun
    · exact hasRole_other h nofun
  · rw [judgeZone_tracking]
    exact sameUnits_refl _
  · have counts := (reports_fold (verdictOutcome s) (s.tracking.zone.filter (verdictDue s))
      { s with tracking.zone := s.tracking.zone.map (fun r => if verdictDue s r then judgedRecord s r else r) }).2 h
    rw [List.filter_filter] at counts
    refine Eq.trans counts ?_
    simp only [Bool.and_comm]

end Sys2Proof.Dose


/-! PROOFS. A sample expiry (R108): the probes, the accrual, the load filter and the throttle. -/

namespace Sys2Proof.Sampling

open Sys2Proof Sys2Proof.Machine Sys2Proof.Safety Sys2Proof.Laws Sys2Proof.Room

/-! ### Frames that displace no OFFER -/

theorem queueEvent_sends (n : EventName) (d tag : Nat) (s : State) :
    queueEvent n d tag s
      = { s with
          link.txq := (queueEvent n d tag s).link.txq
          counters.txDrop := (queueEvent n d tag s).counters.txDrop } := by
  have frames := (queueEvent_framesQueued n d tag s).1
  have zone := congrArg Tracking.zone (queueEvent_tracking n d tag (s := s))
  generalize queueEvent n d tag s = t at frames zone ⊢
  rw [withFrames, zone] at frames
  exact frames

theorem queueStatus_sends (s : State) :
    queueStatus s
      = { s with link.txq := (queueStatus s).link.txq, counters.txDrop := (queueStatus s).counters.txDrop } := by
  have frames := (queueStatus_framesQueued s).1
  have zone := congrArg Tracking.zone (queueStatus_tracking (s := s))
  generalize queueStatus s = t at frames zone ⊢
  rw [withFrames, zone] at frames
  exact frames

/-! ### The probes (R109, R110) -/

/-- From `s` to `t` probes took readings: their records, PROBE_STALE and frames. -/
def ProbesRead (s t : State) : Prop :=
  t = { s with
        dose.probes := t.dose.probes
        link.txq := t.link.txq
        counters.probeStale := t.counters.probeStale
        counters.txDrop := t.counters.txDrop }

theorem probesRead_trans {s t u : State} (h : ProbesRead s t) (h' : ProbesRead t u) : ProbesRead s u := by
  unfold ProbesRead at h'
  rw [h] at h'
  exact h'

theorem probesRead_of_sent {s t : State}
    (h : t = { s with link.txq := t.link.txq, counters.txDrop := t.counters.txDrop }) : ProbesRead s t := by
  unfold ProbesRead
  generalize t.link.txq = q, t.counters.txDrop = n at h
  subst h
  rfl

theorem sampleProbe_reads (s : State) (p : Nat × Int) : ProbesRead s (sampleProbe s p) := by
  have stored : ∀ (n : Nat) (q : Probe), ProbesRead s (s.setProbe n q) := fun n q => by
    unfold State.setProbe
    split <;> rfl
  unfold sampleProbe
  split
  · dsimp only
    split
    · have counted : ProbesRead s (count .probeStale (s.setProbe p.1 (probeReads p.2 (s.probe p.1)))) := by
        have e := congrArg (count .probeStale) (stored p.1 (probeReads p.2 (s.probe p.1)))
        exact e
      exact probesRead_trans counted (probesRead_of_sent (queueEvent_sends .probeStale p.1 0 _))
    · exact stored _ _
  · rfl

theorem sampleProbe_mode (s : State) (p : Nat × Int) : (sampleProbe s p).mode = s.mode := by
  have e := congrArg State.mode (sampleProbe_reads s p)
  exact e

theorem sampleProbe_station (s : State) (p : Nat × Int) : (sampleProbe s p).station = s.station := by
  have e := congrArg State.station (sampleProbe_reads s p)
  exact e

/-- A probe after its sample. -/
def sampled (s : State) (n : Nat) (t : Int) : Probe :=
  if probeUsed s n = true then probeReads t (s.probe n) else s.probe n

theorem setProbe_probe {s : State} {n : Nat} (hn : n < 4) (q : Probe) (m : Nat) :
    (s.setProbe n q).probe m = if m = n then q else s.probe m := by
  unfold State.setProbe State.probe
  rw [dif_pos hn]
  simp only [Vector.toList_set, List.getD_eq_getElem?_getD, List.getElem?_set, Vector.length_toList]
  by_cases h : m = n
  · subst h
    simp [hn]
  · rw [if_neg h, if_neg (Ne.symm h)]

theorem sampleProbe_dose (s : State) (p : Nat × Int) :
    (sampleProbe s p).dose = if probeUsed s p.1 then (s.setProbe p.1 (sampled s p.1 p.2)).dose else s.dose := by
  unfold sampleProbe sampled
  split
  · dsimp only
    split
    · have e := congrArg State.dose
        (queueEvent_sends .probeStale p.1 0 (count .probeStale (s.setProbe p.1 (probeReads p.2 (s.probe p.1)))))
      exact e
    · rfl
  · rfl

theorem sampleProbe_probe {s : State} {n : Nat} (hn : n < 4) (t : Int) (m : Nat) :
    (sampleProbe s (n, t)).probe m = if m = n then sampled s n t else s.probe m := by
  have dose := sampleProbe_dose s (n, t)
  by_cases used : probeUsed s n = true
  · rw [if_pos used] at dose
    rw [← setProbe_probe hn]
    exact congrArg (fun d : DoseUnit => d.probes.toList.getD m ⟨none, 0⟩) dose
  · rw [if_neg used] at dose
    have same : (sampleProbe s (n, t)).probe m = s.probe m :=
      congrArg (fun d : DoseUnit => d.probes.toList.getD m ⟨none, 0⟩) dose
    rw [same, sampled, if_neg used]
    split
    · next h => rw [h]
    · rfl

/-- The statement's staleness is the dose unit's. -/
theorem turnsStale_eq (s : State) (n : Nat) (t : Int) :
    turnsStale s n t = (probeUsed s n && becomesStale s.staleLimit (s.probe n) (probeReads t (s.probe n))) := by
  unfold turnsStale becomesStale probeIsStale probeReads readingValid
  by_cases valid : -600 ≤ t ∧ t ≤ 1300
  · have inside : ¬ (t < -600 ∨ 1300 < t) := by omega
    cases probeUsed s n <;> cases (s.probe n).value <;> simp [valid, inside]
  · have outside : t < -600 ∨ 1300 < t := by omega
    have invalid : (decide (-600 ≤ t) && decide (t ≤ 1300)) = false := by simpa using valid
    have within : decide ((s.probe n).invalidRun ≤ s.staleLimit) = !decide (s.staleLimit < (s.probe n).invalidRun) := by
      rw [← decide_not]
      exact decide_eq_decide.2 Nat.not_lt.symm
    rw [within, invalid]
    cases probeUsed s n <;> cases (s.probe n).value <;> simp [outside]

theorem sampleProbe_stale {s : State} {n : Nat} {t : Int} (h : turnsStale s n t = true) :
    sampleProbe s (n, t)
      = queueEvent .probeStale n 0 (count .probeStale (s.setProbe n (probeReads t (s.probe n)))) := by
  rw [turnsStale_eq, Bool.and_eq_true] at h
  unfold sampleProbe
  rw [if_pos h.1]
  exact if_pos h.2

theorem sampleProbe_quiet {s : State} {n : Nat} {t : Int} (h : turnsStale s n t = false) :
    (sampleProbe s (n, t)).link = s.link ∧ (sampleProbe s (n, t)).counters = s.counters := by
  rw [turnsStale_eq] at h
  have stored : ∀ q, (s.setProbe n q).link = s.link ∧ (s.setProbe n q).counters = s.counters := fun q => by
    unfold State.setProbe
    split <;> exact ⟨rfl, rfl⟩
  unfold sampleProbe
  split
  · next used =>
    dsimp only at used ⊢
    rw [used, Bool.true_and] at h
    rw [if_neg (by rw [h]; exact Bool.false_ne_true)]
    exact stored _
  · exact ⟨rfl, rfl⟩

theorem sampleProbe_counted (s : State) (n : Nat) (t : Int) :
    (sampleProbe s (n, t)).counters.probeStale
      = if turnsStale s n t then min (s.counters.probeStale + 1) 65535 else s.counters.probeStale := by
  have stored : ∀ q, (s.setProbe n q).counters = s.counters := fun q => by
    unfold State.setProbe
    split <;> rfl
  cases h : turnsStale s n t with
  | true =>
    rw [sampleProbe_stale h]
    have e := congrArg (fun s => s.counters.probeStale)
      (queueEvent_sends .probeStale n 0 (count .probeStale (s.setProbe n (probeReads t (s.probe n)))))
    refine e.trans ?_
    show min ((s.setProbe n (probeReads t (s.probe n))).counters.probeStale + 1) 65535 = _
    rw [stored]
    rfl
  | false => exact congrArg Counters.probeStale (sampleProbe_quiet h).2

theorem setProbe_link (s : State) (n : Nat) (q : Probe) : (s.setProbe n q).link = s.link := by
  unfold State.setProbe
  split <;> rfl

theorem setProbe_mode (s : State) (n : Nat) (q : Probe) : (s.setProbe n q).mode = s.mode := by
  unfold State.setProbe
  split <;> rfl

theorem setProbe_station (s : State) (n : Nat) (q : Probe) : (s.setProbe n q).station = s.station := by
  unfold State.setProbe
  split <;> rfl

/-- A sample takes one place of the transmit queue at most. -/
theorem sampleProbe_adds (hold : Bool) (s : State) (n : Nat) (t : Int) : Adds hold 1 s (sampleProbe s (n, t)) := by
  cases h : turnsStale s n t with
  | true =>
    rw [sampleProbe_stale h]
    have stored : Adds hold 0 s (count .probeStale (s.setProbe n (probeReads t (s.probe n)))) :=
      .of_link (setProbe_link s n _) (by show (s.setProbe n _).mode = _ → _; rw [setProbe_mode]; exact id)
    exact stored.trans (queueEvent_adds hold _ _ _ _)
  | false =>
    exact Adds.mono (.of_link (sampleProbe_quiet h).1 (by rw [sampleProbe_mode]; exact id)) (Nat.zero_le 1)

theorem sampleProbe_carries {s : State} {n k : Nat} {t : Int} {hold : Bool} (room : Spare hold (k + 1) s)
    (h : turnsStale s n t = true) : Carries (eventOf s 9 n 0) (sampleProbe s (n, t)) := by
  rw [sampleProbe_stale h]
  have stored : Adds hold 0 s (count .probeStale (s.setProbe n (probeReads t (s.probe n)))) :=
    .of_link (setProbe_link s n _) (by show (s.setProbe n _).mode = _ → _; rw [setProbe_mode]; exact id)
  have carried := queueEvent_carries hold (n := .probeStale) (d := n) (t := 0) (stored _ room).1
  unfold eventOf at carried
  rw [show (count .probeStale (s.setProbe n (probeReads t (s.probe n)))).station = s.station from
    setProbe_station s n _] at carried
  exact carried

/-! ### The four samples -/

/-- The station with every probe sampled. -/
abbrev probed (readings : List (Nat × Int)) (s : State) : State := readings.foldl sampleProbe s

theorem probed_reads (l : List (Nat × Int)) (s : State) : ProbesRead s (probed l s) := by
  induction l generalizing s with
  | nil => rfl
  | cons p l ih => exact probesRead_trans (sampleProbe_reads s p) (ih _)

/-- A probe that a sample does not name is read as it was. -/
theorem sampleProbe_elsewhere {s : State} {n m : Nat} (hn : n < 4) (t : Int) (ne : m ≠ n) (x : Int) :
    (sampleProbe s (n, t)).probe m = s.probe m ∧ sampled (sampleProbe s (n, t)) m x = sampled s m x
      ∧ turnsStale (sampleProbe s (n, t)) m x = turnsStale s m x := by
  have same : (sampleProbe s (n, t)).probe m = s.probe m := by rw [sampleProbe_probe hn, if_neg ne]
  have station := sampleProbe_station s (n, t)
  have used : probeUsed (sampleProbe s (n, t)) m = probeUsed s m := by
    have e := congrArg (fun c : StationControl => probeUsed { s with station := c } m) station
    exact e
  have limit : (sampleProbe s (n, t)).staleLimit = s.staleLimit := by
    have e := congrArg (fun c : StationControl => ({ s with station := c } : State).staleLimit) station
    exact e
  refine ⟨same, ?_, ?_⟩
  · rw [sampled, sampled, same, used]
  · rw [turnsStale, turnsStale, same, used, limit]

theorem probed_elsewhere {l : List (Nat × Int)} {s : State} {m : Nat} (small : ∀ p ∈ l, p.1 < 4)
    (fresh : ∀ p ∈ l, m ≠ p.1) : (probed l s).probe m = s.probe m := by
  induction l generalizing s with
  | nil => rfl
  | cons p l ih =>
    rw [List.forall_mem_cons] at small fresh
    exact (ih small.2 fresh.2).trans (sampleProbe_elsewhere small.1 p.2 fresh.1 0).1

theorem probed_probe {l : List (Nat × Int)} {s : State} (small : ∀ p ∈ l, p.1 < 4)
    (order : l.Pairwise (fun p q => p.1 ≠ q.1)) {n : Nat} {t : Int} (h : (n, t) ∈ l) :
    (probed l s).probe n = sampled s n t := by
  induction l generalizing s with
  | nil => nomatch h
  | cons p l ih =>
    rw [List.forall_mem_cons] at small
    rw [List.pairwise_cons] at order
    rcases List.mem_cons.1 h with rfl | h
    · refine (probed_elsewhere small.2 order.1).trans ?_
      rw [sampleProbe_probe small.1, if_pos rfl]
    · exact (ih small.2 order.2 h).trans
        (sampleProbe_elsewhere small.1 p.2 (fun e => order.1 _ h e.symm) t).2.1

theorem probed_counted {l : List (Nat × Int)} {s : State} (small : ∀ p ∈ l, p.1 < 4)
    (order : l.Pairwise (fun p q => p.1 ≠ q.1)) (bound : s.counters.probeStale ≤ 65535) :
    (probed l s).counters.probeStale
      = min 65535 (s.counters.probeStale + (l.filter fun p => turnsStale s p.1 p.2).length) := by
  induction l generalizing s with
  | nil => exact (Nat.min_eq_right bound).symm
  | cons p l ih =>
    rw [List.forall_mem_cons] at small
    rw [List.pairwise_cons] at order
    have first := sampleProbe_counted s p.1 p.2
    have later : l.filter (fun q => turnsStale (sampleProbe s p) q.1 q.2) = l.filter (fun q => turnsStale s q.1 q.2) :=
      List.filter_congr fun q hq =>
        (sampleProbe_elsewhere small.1 p.2 (fun e => order.1 q hq e.symm) q.2).2.2
    refine (ih small.2 order.2 (by rw [first]; split <;> omega)).trans ?_
    rw [later, first, List.filter_cons]
    split
    · rw [List.length_cons]
      omega
    · rfl

theorem probed_adds (hold : Bool) (l : List (Nat × Int)) (s : State) : Adds hold l.length s (probed l s) := by
  induction l generalizing s with
  | nil => exact .refl s
  | cons p l ih =>
    rw [List.length_cons, Nat.add_comm]
    exact (sampleProbe_adds hold s p.1 p.2).trans (ih _)

theorem probed_carries {hold : Bool} {l : List (Nat × Int)} {s : State} {k : Nat} (small : ∀ p ∈ l, p.1 < 4)
    (order : l.Pairwise (fun p q => p.1 ≠ q.1)) (room : Spare hold (k + l.length) s) {n : Nat} {t : Int}
    (h : (n, t) ∈ l) (stale : turnsStale s n t = true) : Carries (eventOf s 9 n 0) (probed l s) := by
  induction l generalizing s with
  | nil => nomatch h
  | cons p l ih =>
    rw [List.forall_mem_cons] at small
    rw [List.pairwise_cons] at order
    rw [List.length_cons, ← Nat.add_assoc] at room
    have next := (sampleProbe_adds hold s p.1 p.2 _ room).1
    rcases List.mem_cons.1 h with rfl | h
    · exact (probed_adds hold l _ _ next).2 _ rfl (sampleProbe_carries room stale)
    · have other := sampleProbe_elsewhere small.1 p.2 (fun e => order.1 (n, t) h e.symm) t (s := s)
      have carried := ih small.2 order.2 next h (other.2.2.trans stale)
      unfold eventOf at carried
      rw [sampleProbe_station] at carried
      exact carried

/-! ### The load filter (R139, R140) -/

/-- From `s` to `t` the load filter stepped: the filter, its input, load_high, the chain's fields and frames. -/
def LoadStepped (s t : State) : Prop :=
  t = { s with
        flow.loadFilter := t.flow.loadFilter
        flow.loadInput := t.flow.loadInput
        flow.loadHigh := t.flow.loadHigh
        flow.gapRun := t.flow.gapRun
        peer.chainLoad := t.peer.chainLoad
        peer.chainDefrost := t.peer.chainDefrost
        link.txq := t.link.txq
        counters.txDrop := t.counters.txDrop }

theorem evaluateChain_sends (s : State) :
    evaluateChain s
      = { s with
          flow.gapRun := (evaluateChain s).flow.gapRun
          peer.chainLoad := (evaluateChain s).peer.chainLoad
          peer.chainDefrost := (evaluateChain s).peer.chainDefrost
          link.txq := (evaluateChain s).link.txq
          counters.txDrop := (evaluateChain s).counters.txDrop } := by
  have status : ∀ u v : State, u = { s with
        flow.gapRun := u.flow.gapRun
        peer.chainLoad := u.peer.chainLoad
        peer.chainDefrost := u.peer.chainDefrost
        link.txq := u.link.txq
        counters.txDrop := u.counters.txDrop } → v = queueStatus u → v = { s with
        flow.gapRun := v.flow.gapRun
        peer.chainLoad := v.peer.chainLoad
        peer.chainDefrost := v.peer.chainDefrost
        link.txq := v.link.txq
        counters.txDrop := v.counters.txDrop } := fun u v hu hv => by
    have sends := queueStatus_sends u
    rw [← hv] at sends
    generalize v.link.txq = q, v.counters.txDrop = n at sends
    subst sends
    rw [hu]
  unfold evaluateChain
  split
  · rfl
  dsimp only
  split
  · rfl
  · refine status _ _ ?_ rfl
    split
    · unfold startGapRun
      split <;> rfl
    · rfl

theorem evaluateChain_filter (s : State) :
    (evaluateChain s).flow.loadFilter = s.flow.loadFilter ∧ (evaluateChain s).flow.loadInput = s.flow.loadInput
      ∧ (evaluateChain s).flow.loadHigh = s.flow.loadHigh := by
  have e := congrArg (fun s => (s.flow.loadFilter, s.flow.loadInput, s.flow.loadHigh)) (evaluateChain_sends s)
  simpa only [Prod.mk.injEq] using e

theorem queueStatus_flow (s : State) : (queueStatus s).flow = s.flow := by
  have e := congrArg State.flow (queueStatus_sends s)
  exact e

/-- What the filter step leaves at a FREEZE station before frames follow. -/
def filtered (s : State) : State :=
  { s with flow.loadFilter := filterNext (s.item 38) s.flow.loadFilter s.flow.loadInput, flow.loadInput := 0 }

theorem stepLoad_other {s : State} (h : s.hasRole .freeze = false) : stepLoad s = s :=
  if_neg (by rw [h]; exact Bool.false_ne_true)

theorem stepLoad_freeze {s : State} (h : s.hasRole .freeze = true) :
    stepLoad s
      = if loadHighNow (filtered s) = s.flow.loadHigh then filtered s
        else evaluateChain (queueStatus { filtered s with flow.loadHigh := loadHighNow (filtered s) }) :=
  if_pos h

theorem stepLoad_steps (s : State) : LoadStepped s (stepLoad s) := by
  cases h : s.hasRole .freeze with
  | false =>
    rw [stepLoad_other h]
    rfl
  | true =>
    rw [stepLoad_freeze h]
    split
    · rfl
    · have status := queueStatus_sends { filtered s with flow.loadHigh := loadHighNow (filtered s) }
      generalize queueStatus { filtered s with flow.loadHigh := loadHighNow (filtered s) } = u at status ⊢
      have chain := evaluateChain_sends u
      generalize evaluateChain u = v at chain ⊢
      generalize u.link.txq = q, u.counters.txDrop = n at status
      subst status
      unfold LoadStepped
      generalize v.flow.gapRun = g, v.peer.chainLoad = a, v.peer.chainDefrost = b, v.link.txq = q',
        v.counters.txDrop = n' at chain
      subst chain
      rfl

theorem stepLoad_freeze_flow {s : State} (h : s.hasRole .freeze = true) :
    (stepLoad s).flow.loadFilter = filterNext (s.item 38) s.flow.loadFilter s.flow.loadInput
      ∧ (stepLoad s).flow.loadInput = 0 ∧ (stepLoad s).flow.loadHigh = loadHighNow (filtered s) := by
  rw [stepLoad_freeze h]
  split
  · next same => exact ⟨rfl, rfl, same.symm⟩
  · obtain ⟨filter, input, high⟩ :=
      evaluateChain_filter (queueStatus { filtered s with flow.loadHigh := loadHighNow (filtered s) })
    rw [filter, input, high, queueStatus_flow]
    exact ⟨rfl, rfl, rfl⟩

theorem stepLoad_adds (s : State) : Adds false 0 s (stepLoad s) := by
  cases h : s.hasRole .freeze with
  | false =>
    rw [stepLoad_other h]
    exact .refl s
  | true =>
    rw [stepLoad_freeze h]
    split
    · exact .of_link rfl id
    · have changed : Adds false 0 s { filtered s with flow.loadHigh := loadHighNow (filtered s) } := .of_link rfl id
      exact (changed.trans (queueStatus_adds _ _)).trans (evaluateChain_adds _ _)

theorem airWarm_iff (s : State) :
    airWarm s = true ↔ ∃ n v, n < 4 ∧ probeUsed s n = true ∧ (s.probe n).value = some v ∧ itemInt s.items 41 < v := by
  unfold airWarm
  simp only [List.any_eq_true, List.mem_range, Bool.and_eq_true, Option.any_eq_true, decide_eq_true_eq]
  constructor
  · rintro ⟨n, hn, used, v, hv, warm⟩
    exact ⟨n, v, hn, used, hv, warm⟩
  · rintro ⟨n, v, hn, used, hv, warm⟩
    exact ⟨n, hn, used, v, hv, warm⟩

theorem loadHighNow_iff (s : State) :
    loadHighNow s = true ↔ s.item 39 ≤ s.flow.loadFilter
      ∨ (s.item 40 ≤ s.flow.loadFilter ∧ ∃ n v, n < 4 ∧ probeUsed s n = true
          ∧ (s.probe n).value = some v ∧ itemInt s.items 41 < v) := by
  unfold loadHighNow
  rw [Bool.or_eq_true, Bool.and_eq_true, airWarm_iff, decide_eq_true_eq, decide_eq_true_eq]

theorem filterNext_cast {k f i : Nat} (h : k ≠ 0) :
    (filterNext k f i : Int) = max 0 (min 65535 ((f : Int) + ((i : Int) - f + 2 ^ (k - 1)) / 2 ^ k)) := by
  unfold filterNext clamp16
  rw [if_neg h]
  push_cast
  omega

/-! ### The throttle (R136) -/

/-- What a throttle step leaves before a frame follows. -/
def stepped (s : State) : State := { s with flow.throttleCount := 0, flow.duty := dutyNext s }

theorem stepThrottle_sends (s : State) :
    stepThrottle s
      = { stepped s with
          link.txq := (stepThrottle s).link.txq
          counters.txDrop := (stepThrottle s).counters.txDrop } := by
  unfold stepThrottle
  dsimp only
  split
  · rfl
  · exact queueStatus_sends _

theorem stepThrottle_blocks (s : State) : BlocksResponded (stepped s) (stepThrottle s) := by
  unfold stepThrottle
  dsimp only
  split
  · exact blocksResponded_refl _
  · exact framesQueued_blocks (queueStatus_framesQueued _)

theorem stepThrottle_adds (s : State) : Adds false 0 s (stepThrottle s) := by
  have changed : Adds false 0 s (stepped s) := .of_link rfl id
  unfold stepThrottle
  dsimp only
  split
  · exact changed
  · exact changed.trans (queueStatus_adds _ _)

/-- From `s` to `t` the throttle counted: its count, the duty, and frames. -/
def Throttled (s t : State) : Prop :=
  t = { s with
        flow.throttleCount := t.flow.throttleCount
        flow.duty := t.flow.duty
        link.txq := t.link.txq
        counters.txDrop := t.counters.txDrop }

theorem countThrottle_counts (s : State) : Throttled s (countThrottle s) := by
  unfold countThrottle
  split
  · split
    · rfl
    · have e := stepThrottle_sends s
      generalize stepThrottle s = t at e ⊢
      unfold Throttled
      generalize t.link.txq = q, t.counters.txDrop = n at e
      subst e
      rfl
  · rfl

theorem countThrottle_adds (s : State) : Adds false 0 s (countThrottle s) := by
  unfold countThrottle
  split
  · split
    · exact .of_link rfl id
    · exact stepThrottle_adds s
  · exact .refl s

theorem countThrottle_other {s : State} (h : s.isHead = false) : countThrottle s = s :=
  if_neg (by rw [h]; exact Bool.false_ne_true)

theorem countThrottle_short {s : State} (head : s.isHead = true)
    (short : s.flow.throttleCount + 1 < s.throttleInterval) :
    countThrottle s = { s with flow.throttleCount := s.flow.throttleCount + 1 } := (if_pos head).trans (if_pos short)

theorem countThrottle_due {s : State} (head : s.isHead = true)
    (due : s.throttleInterval ≤ s.flow.throttleCount + 1) : countThrottle s = stepThrottle s :=
  (if_pos head).trans (if_neg (by omega))

theorem countThrottle_due_flow {s : State} (head : s.isHead = true)
    (due : s.throttleInterval ≤ s.flow.throttleCount + 1) :
    (countThrottle s).flow.throttleCount = 0 ∧ (countThrottle s).flow.duty = dutyNext s := by
  rw [countThrottle_due head due]
  have e := congrArg State.flow (stepThrottle_sends s)
  rw [e]
  exact ⟨rfl, rfl⟩

/-! ### The expiry -/

/-- The four samples of an expiry. -/
abbrev readings (t0 t1 t2 t3 : Int) : List (Nat × Int) := [(0, t0), (1, t1), (2, t2), (3, t3)]

theorem mem_readings {t0 t1 t2 t3 : Int} {n : Nat} {t : Int}
    (h : (n = 0 ∧ t = t0) ∨ (n = 1 ∧ t = t1) ∨ (n = 2 ∧ t = t2) ∨ (n = 3 ∧ t = t3)) :
    (n, t) ∈ readings t0 t1 t2 t3 := by
  rcases h with ⟨rfl, rfl⟩ | ⟨rfl, rfl⟩ | ⟨rfl, rfl⟩ | ⟨rfl, rfl⟩ <;> simp

theorem readings_small {t0 t1 t2 t3 : Int} : ∀ p ∈ readings t0 t1 t2 t3, p.1 < 4 := by simp

theorem readings_order {t0 t1 t2 t3 : Int} : (readings t0 t1 t2 t3).Pairwise (fun p q => p.1 ≠ q.1) := by simp

/-- The station with its sample timer started again. -/
def restarted (timer : Timer) (s : State) : State :=
  { s with dose.sampleTimer := some { timer with due := timer.due + timer.period } }

theorem exec_sampleExpiry {s : State} {timer : Timer} {t0 t1 t2 t3 : Int} (profile : s.hasProfile = true)
    (awake : s.mode ≠ .quiet) (h : s.dose.sampleTimer = some timer) :
    exec (.sampleExpiry t0 t1 t2 t3) s
      = if timer.due ≤ s.now then done (sampleExpires (readings t0 t1 t2 t3) (restarted timer s)) else .next s := by
  show execSampleExpiry t0 t1 t2 t3 s = _
  unfold execSampleExpiry
  rw [h]
  dsimp only
  rw [ReverseDebt.acts_eq_true profile awake, Bool.true_and]
  simp only [decide_eq_true_eq]
  rfl

/-- From `s` to `t` an expiry: the probes, the zone queue's accounts, the flow unit's filter and throttle, the chain
flags and frames. -/
def Expired (s t : State) : Prop :=
  t = { s with
        dose.probes := t.dose.probes
        tracking.zone := t.tracking.zone
        flow := t.flow
        peer.chainLoad := t.peer.chainLoad
        peer.chainDefrost := t.peer.chainDefrost
        link.txq := t.link.txq
        counters.probeStale := t.counters.probeStale
        counters.txDrop := t.counters.txDrop }

theorem expired_accrueZone {s u : State} (h : ProbesRead s u) : Expired s (accrueZone u) := by
  unfold ProbesRead at h
  generalize u.dose.probes = a, u.link.txq = q, u.counters.probeStale = m, u.counters.txDrop = n at h
  subst h
  rfl

theorem expired_loadStepped {s u v : State} (h : Expired s u) (h' : LoadStepped u v) : Expired s v := by
  unfold LoadStepped at h'
  unfold Expired at h ⊢
  generalize u.dose.probes = a, u.tracking.zone = z, u.flow = f, u.peer.chainLoad = l, u.peer.chainDefrost = d,
    u.link.txq = q, u.counters.probeStale = m, u.counters.txDrop = n at h
  subst h
  generalize v.flow.loadFilter = a1, v.flow.loadInput = a2, v.flow.loadHigh = a3, v.flow.gapRun = a4,
    v.peer.chainLoad = a5, v.peer.chainDefrost = a6, v.link.txq = a7, v.counters.txDrop = a8 at h'
  subst h'
  rfl

theorem expired_throttled {s u v : State} (h : Expired s u) (h' : Throttled u v) : Expired s v := by
  unfold Throttled at h'
  unfold Expired at h ⊢
  generalize u.dose.probes = a, u.tracking.zone = z, u.flow = f, u.peer.chainLoad = l, u.peer.chainDefrost = d,
    u.link.txq = q, u.counters.probeStale = m, u.counters.txDrop = n at h
  subst h
  generalize v.flow.throttleCount = a1, v.flow.duty = a2, v.link.txq = a3, v.counters.txDrop = a4 at h'
  subst h'
  rfl

/-- What the throttle reads, after the load step. -/
theorem throttle_reads {s u : State} (h : Expired s u) :
    u.station = s.station ∧ u.isHead = s.isHead ∧ u.throttleInterval = s.throttleInterval
      ∧ u.throttleFloor = s.throttleFloor ∧ u.throttleStep = s.throttleStep ∧ u.infeedDuty = s.infeedDuty := by
  have e := congrArg (fun v : State => (v.station, v.isHead, v.throttleInterval, v.throttleFloor, v.throttleStep,
    v.infeedDuty)) h
  have e' : (u.station, u.isHead, u.throttleInterval, u.throttleFloor, u.throttleStep, u.infeedDuty)
      = (s.station, s.isHead, s.throttleInterval, s.throttleFloor, s.throttleStep, s.infeedDuty) := e
  simpa only [Prod.mk.injEq] using e'

/-- The parts of an expiry at station `s`, one after the other. -/
abbrev accruedZone (l : List (Nat × Int)) (s : State) : State := accrueZone (probed l s)

theorem sampleExpires_expired (l : List (Nat × Int)) (s : State) :
    Expired s (stepLoad (accruedZone l s)) ∧ Expired s (sampleExpires l s) := by
  have first := expired_loadStepped (expired_accrueZone (probed_reads l s)) (stepLoad_steps (accruedZone l s))
  exact ⟨first, expired_throttled first (countThrottle_counts _)⟩

/-- The fields that the throttle reads stand until it counts. -/
theorem stepLoad_duty {u v : State} (h : LoadStepped u v) :
    v.flow.throttleCount = u.flow.throttleCount ∧ v.flow.duty = u.flow.duty ∧ v.dose = u.dose
      ∧ v.tracking = u.tracking ∧ v.counters.probeStale = u.counters.probeStale := by
  have e := congrArg (fun w : State => (w.flow.throttleCount, w.flow.duty, w.dose, w.tracking,
    w.counters.probeStale)) h
  simpa only [Prod.mk.injEq] using e

theorem countThrottle_load {u v : State} (h : Throttled u v) :
    v.flow.loadFilter = u.flow.loadFilter ∧ v.flow.loadInput = u.flow.loadInput
      ∧ v.flow.loadHigh = u.flow.loadHigh ∧ v.peer = u.peer ∧ v.dose = u.dose ∧ v.tracking = u.tracking
      ∧ v.counters.probeStale = u.counters.probeStale := by
  have e := congrArg (fun w : State => (w.flow.loadFilter, w.flow.loadInput, w.flow.loadHigh, w.peer, w.dose,
    w.tracking, w.counters.probeStale)) h
  simpa only [Prod.mk.injEq] using e

theorem accruedZone_reads (l : List (Nat × Int)) (s : State) :
    (accruedZone l s).flow = s.flow ∧ (accruedZone l s).peer = s.peer ∧ (accruedZone l s).station = s.station
      ∧ (accruedZone l s).dose.sampleTimer = s.dose.sampleTimer := by
  have e := congrArg (fun w : State => (w.flow, w.peer, w.station, w.dose.sampleTimer)) (probed_reads l s)
  have e' : ((accruedZone l s).flow, (accruedZone l s).peer, (accruedZone l s).station,
      (accruedZone l s).dose.sampleTimer) = (s.flow, s.peer, s.station, s.dose.sampleTimer) := e
  simpa only [Prod.mk.injEq] using e'

/-- The duty and the throttle count of an expiry. -/
theorem sampleExpires_throttle (l : List (Nat × Int)) (s : State) :
    (s.isHead = false → (sampleExpires l s).flow.throttleCount = s.flow.throttleCount
        ∧ (sampleExpires l s).flow.duty = s.flow.duty)
      ∧ (s.isHead = true → s.flow.throttleCount + 1 < s.throttleInterval →
          (sampleExpires l s).flow.throttleCount = s.flow.throttleCount + 1
            ∧ (sampleExpires l s).flow.duty = s.flow.duty)
      ∧ (s.isHead = true → s.throttleInterval ≤ s.flow.throttleCount + 1 →
          (sampleExpires l s).flow.throttleCount = 0
            ∧ (sampleExpires l s).flow.duty
              = if (sampleExpires l s).peer.chainLoad then max s.throttleFloor (s.flow.duty - s.throttleStep)
                else min s.infeedDuty (s.flow.duty + s.throttleStep)) := by
  obtain ⟨_, head, interval, floor, step, duty⟩ := throttle_reads (sampleExpires_expired l s).1
  obtain ⟨counted, dutied, _⟩ := stepLoad_duty (stepLoad_steps (accruedZone l s))
  obtain ⟨flow, _⟩ := accruedZone_reads l s
  rw [flow] at counted dutied
  have kept := countThrottle_load (countThrottle_counts (stepLoad (accruedZone l s)))
  show (_ → (countThrottle (stepLoad (accruedZone l s))).flow.throttleCount = _ ∧ _) ∧ (_ → _ → _) ∧ (_ → _ → _)
  unfold sampleExpires
  generalize stepLoad (accruedZone l s) = u at head interval floor step duty counted dutied kept ⊢
  refine ⟨fun h => ?_, fun h short => ?_, fun h due => ?_⟩
  · rw [countThrottle_other (head.trans h)]
    exact ⟨counted, dutied⟩
  · rw [countThrottle_short (head.trans h) (by rw [counted, interval]; exact short)]
    exact ⟨congrArg (· + 1) counted, dutied⟩
  · obtain ⟨zero, next⟩ := countThrottle_due_flow (head.trans h) (by rw [counted, interval]; exact due)
    refine ⟨zero, next.trans ?_⟩
    rw [kept.2.2.2.1, dutyNext, floor, step, duty, dutied]

/-- The dose unit, the zone queue and PROBE_STALE of an expiry are those of the samples and the accrual. -/
theorem sampleExpires_accrued (l : List (Nat × Int)) (s : State) :
    (sampleExpires l s).dose = (probed l s).dose ∧ (sampleExpires l s).tracking = (accruedZone l s).tracking
      ∧ (sampleExpires l s).counters.probeStale = (probed l s).counters.probeStale := by
  obtain ⟨_, _, dose, tracking, stale⟩ := stepLoad_duty (stepLoad_steps (accruedZone l s))
  obtain ⟨_, _, _, _, dose', tracking', stale'⟩ :=
    countThrottle_load (countThrottle_counts (stepLoad (accruedZone l s)))
  exact ⟨dose'.trans dose, tracking'.trans tracking, stale'.trans stale⟩

theorem sampleExpires_adds (hold : Bool) (l : List (Nat × Int)) (s : State) (h : hold = false) :
    Adds hold l.length s (sampleExpires l s) := by
  subst h
  have accrued : Adds false 0 (probed l s) (accruedZone l s) := .of_link rfl id
  exact (((probed_adds false l s).trans accrued).trans (stepLoad_adds _)).trans (countThrottle_adds _)

/-- The load filter and the chain flag of an expiry. -/
theorem sampleExpires_load (l : List (Nat × Int)) (s : State) :
    (s.hasRole .freeze = false →
        (sampleExpires l s).flow.loadHigh = s.flow.loadHigh ∧ (sampleExpires l s).peer.chainLoad = s.peer.chainLoad
          ∧ (sampleExpires l s).flow.loadFilter = s.flow.loadFilter
          ∧ (sampleExpires l s).flow.loadInput = s.flow.loadInput)
      ∧ (s.hasRole .freeze = true →
          (sampleExpires l s).flow.loadFilter = filterNext (s.item 38) s.flow.loadFilter s.flow.loadInput
            ∧ (sampleExpires l s).flow.loadInput = 0
            ∧ (sampleExpires l s).flow.loadHigh = loadHighNow (filtered (accruedZone l s))) := by
  obtain ⟨filter, input, high, peer, _⟩ :=
    countThrottle_load (countThrottle_counts (stepLoad (accruedZone l s)))
  obtain ⟨flow, peer0, station, _⟩ := accruedZone_reads l s
  have role : (accruedZone l s).hasRole .freeze = s.hasRole .freeze := by
    have e := congrArg (fun c : StationControl => ({ s with station := c } : State).hasRole .freeze) station
    exact e
  have item : (accruedZone l s).item 38 = s.item 38 := by
    have e := congrArg (fun c : StationControl => ({ s with station := c } : State).item 38) station
    exact e
  refine ⟨fun h => ?_, fun h => ?_⟩
  · have other := stepLoad_other (role.trans h)
    have before : (stepLoad (accruedZone l s)).flow = s.flow := (congrArg State.flow other).trans flow
    rw [before] at filter input high
    exact ⟨high, congrArg PeerView.chainLoad ((peer.trans (congrArg State.peer other)).trans peer0), filter, input⟩
  · obtain ⟨filter', input', high'⟩ := stepLoad_freeze_flow (role.trans h)
    rw [item, flow] at filter'
    exact ⟨filter.trans filter', input.trans input', high.trans high'⟩

/-- An accrual reads the profile and the probes. -/
theorem accrueRecord_congr {a b : State} (station : a.station = b.station) (dose : a.dose = b.dose) (r : UnitRecord) :
    accrueRecord a r = accrueRecord b r := by
  have e : accrueRecord a r = accrueRecord { b with station := a.station, dose := a.dose } r := rfl
  rw [e, station, dose]

/-- What an accrual keeps of a record. -/
theorem accrueRecord_place (s : State) (r : UnitRecord) :
    ((accrueRecord s r).tag, (accrueRecord s r).kind, (accrueRecord s r).lot, (accrueRecord s r).head,
        (accrueRecord s r).length, (accrueRecord s r).mass, (accrueRecord s r).blanchMade, (accrueRecord s r).dwellMade)
      = (r.tag, r.kind, r.lot, r.head, r.length, r.mass, r.blanchMade, r.dwellMade) := by
  obtain ⟨x, y, z, e⟩ := Changes.accrueRecord_keeps s r
  rw [e]

theorem loadHighNow_congr {a b : State} (station : a.station = b.station) (dose : a.dose = b.dose)
    (filter : a.flow.loadFilter = b.flow.loadFilter) : loadHighNow a = loadHighNow b := by
  have e : loadHighNow a
      = loadHighNow { b with station := a.station, dose := a.dose, flow.loadFilter := a.flow.loadFilter } := rfl
  rw [e, station, dose, filter]

section Expiry

variable {l : List (Nat × Int)} {s : State}

theorem sampleExpires_probe (small : ∀ p ∈ l, p.1 < 4) (order : l.Pairwise (fun p q => p.1 ≠ q.1)) {n : Nat} {t : Int}
    (h : (n, t) ∈ l) : (sampleExpires l s).probe n = sampled s n t :=
  (congrArg (fun d : DoseUnit => d.probes.toList.getD n ⟨none, 0⟩) (sampleExpires_accrued l s).1).trans
    (probed_probe small order h)

theorem sampleExpires_zone (l : List (Nat × Int)) (s : State) :
    (sampleExpires l s).tracking.zone
      = s.tracking.zone.map (accrueRecord { s with dose := (sampleExpires l s).dose }) := by
  have tracking : (probed l s).tracking = s.tracking := by
    have e := congrArg State.tracking (probed_reads l s)
    exact e
  have place : (sampleExpires l s).tracking.zone = (probed l s).tracking.zone.map (accrueRecord (probed l s)) :=
    congrArg Tracking.zone (sampleExpires_accrued l s).2.1
  rw [place, tracking]
  exact List.map_congr_left fun r _ =>
    accrueRecord_congr (b := { s with dose := (sampleExpires l s).dose }) (accruedZone_reads l s).2.2.1
      (sampleExpires_accrued l s).1.symm r

theorem sampleExpires_loadHigh (freeze : s.hasRole .freeze = true) :
    (sampleExpires l s).flow.loadHigh
      = loadHighNow { s with dose := (sampleExpires l s).dose, flow := (sampleExpires l s).flow } := by
  obtain ⟨filter, _, now⟩ := (sampleExpires_load l s).2 freeze
  obtain ⟨flow, _, station, _⟩ := accruedZone_reads l s
  have item : (accruedZone l s).item 38 = s.item 38 := by
    have e := congrArg (fun c : StationControl => ({ s with station := c } : State).item 38) station
    exact e
  refine now.trans (loadHighNow_congr station (sampleExpires_accrued l s).1.symm ?_)
  refine Eq.trans ?_ filter.symm
  rw [filtered, item, flow]

theorem sampleExpires_carries (small : ∀ p ∈ l, p.1 < 4) (order : l.Pairwise (fun p q => p.1 ≠ q.1))
    (room : Spare false l.length s) {n : Nat} {t : Int} (h : (n, t) ∈ l) (stale : turnsStale s n t = true) :
    Carries (eventOf s 9 n 0) (sampleExpires l s) := by
  rw [← Nat.zero_add l.length] at room
  have carried := probed_carries small order room h stale
  have accrued : Adds false 0 (probed l s) (accruedZone l s) := .of_link rfl id
  have later := (accrued.trans (stepLoad_adds _)).trans (countThrottle_adds (stepLoad (accruedZone l s)))
  exact (later 0 (probed_adds false l s 0 room).1).2 _ rfl carried

/-- What an expiry leaves as it was. -/
theorem expired_kept {u : State} (h : Expired s u) :
    u.mode = s.mode ∧ u.station = s.station ∧ u.arrivals = s.arrivals ∧ u.packing = s.packing
      ∧ u.link.rxq = s.link.rxq ∧ u.peer.peers = s.peer.peers ∧ u.now = s.now ∧ u.pending = s.pending
      ∧ u.dose.sampleTimer = s.dose.sampleTimer := by
  have e := congrArg (fun v : State => (v.mode, v.station, v.arrivals, v.packing, v.link.rxq, v.peer.peers, v.now,
    v.pending, v.dose.sampleTimer)) h
  have e' : (u.mode, u.station, u.arrivals, u.packing, u.link.rxq, u.peer.peers, u.now, u.pending, u.dose.sampleTimer)
      = (s.mode, s.station, s.arrivals, s.packing, s.link.rxq, s.peer.peers, s.now, s.pending, s.dose.sampleTimer) := e
  simpa only [Prod.mk.injEq] using e'

end Expiry

/-- Settles O51: the step's duty, and the count that an expiry brings to the interval. -/
theorem throttleSteps : Obligations.ThrottleSteps := by
  intro s head awake
  have profile : s.hasProfile = true := by
    unfold State.isHead at head
    exact (Bool.and_eq_true_iff.1 head).1
  have exec : exec .throttleStep s
      = if s.throttleInterval ≤ s.flow.throttleCount then done (stepThrottle s) else .next s := by
    show execThrottleStep s = _
    unfold execThrottleStep
    rw [ReverseDebt.acts_eq_true profile awake, head]
    simp only [Bool.true_and, decide_eq_true_eq]
  refine ⟨fun due => ?_, fun short => exec.trans (if_neg (by omega)), fun timer t0 t1 t2 t3 ht due count => ?_⟩
  · rw [if_pos due] at exec
    have blocks := blocksResponded_trans (stepThrottle_blocks s) (settle_blocks _)
    unfold stepped dutyNext at blocks
    refine next_of_done exec ⟨fun load => ?_, fun load => ?_⟩
    · rw [if_pos load] at blocks
      exact blocks
    · rw [if_neg (by rw [load]; exact Bool.false_ne_true)] at blocks
      exact blocks
  · have exec := exec_sampleExpiry (t0 := t0) (t1 := t1) (t2 := t2) (t3 := t3) profile awake ht
    rw [if_pos due] at exec
    obtain ⟨zero, duty⟩ := (sampleExpires_throttle (readings t0 t1 t2 t3) (restarted timer s)).2.2 head count
    refine next_of_done exec ⟨zero, fun load => ?_, fun load => ?_⟩
    · exact duty.trans (if_pos load)
    · have clear : (sampleExpires (readings t0 t1 t2 t3) (restarted timer s)).peer.chainLoad = false := load
      exact duty.trans (if_neg (by rw [clear]; exact Bool.false_ne_true))

/-- Settles O48: an expiry restarts its timer, samples, accrues, filters and counts, in that order. -/
theorem sampleExpires : Obligations.SampleExpires := by
  intro s timer t0 t1 t2 t3 profile awake ht
  have exec := exec_sampleExpiry (t0 := t0) (t1 := t1) (t2 := t2) (t3 := t3) profile awake ht
  refine ⟨fun due => ?_, fun early => exec.trans (if_neg (by omega))⟩
  rw [if_pos due] at exec
  refine next_of_done exec ?_
  obtain ⟨mode, station, arrivals, packing, rxq, peers, now, pending, timer'⟩ :=
    expired_kept (sampleExpires_expired (readings t0 t1 t2 t3) (restarted timer s)).2
  have counted := fun bound => (sampleExpires_accrued (readings t0 t1 t2 t3) (restarted timer s)).2.2.trans
    (probed_counted readings_small readings_order bound)
  obtain ⟨thrOther, thrShort, thrDue⟩ := sampleExpires_throttle (readings t0 t1 t2 t3) (restarted timer s)
  obtain ⟨loadOther, loadFreeze⟩ := sampleExpires_load (readings t0 t1 t2 t3) (restarted timer s)
  have high := sampleExpires_loadHigh (l := readings t0 t1 t2 t3) (s := restarted timer s)
  have zone := sampleExpires_zone (readings t0 t1 t2 t3) (restarted timer s)
  have probe := fun n t (h : _ ∨ _) => sampleExpires_probe (s := restarted timer s) readings_small readings_order
    (mem_readings (t0 := t0) (t1 := t1) (t2 := t2) (t3 := t3) (n := n) (t := t) h)
  have carries := fun room n t (h : _ ∨ _) => sampleExpires_carries (s := restarted timer s) readings_small
    readings_order room (mem_readings (t0 := t0) (t1 := t1) (t2 := t2) (t3 := t3) (n := n) (t := t) h)
  generalize Machine.sampleExpires (readings t0 t1 t2 t3) (restarted timer s) = u at *
  refine ⟨timer', fun n t h => ⟨fun used => ?_, fun used low up => ?_, fun used outside => ?_⟩, counted,
    fun loud short n t h turns => ?_, fun h => ?_, fun h => ?_, thrOther, thrShort, thrDue, fun h => ?_, fun h => ?_,
    ?_, ?_, mode, station, arrivals, packing, (settle_rxq u).trans rxq, peers, now, pending⟩
  · refine (probe n t h).trans (if_neg ?_)
    rw [show probeUsed (restarted timer s) n = false from used]
    exact Bool.false_ne_true
  · refine (probe n t h).trans ((if_pos used).trans (if_pos ?_))
    simp [readingValid, low, up]
  · refine (probe n t h).trans ((if_pos used).trans (if_neg ?_))
    simp only [readingValid, Bool.and_eq_true, decide_eq_true_eq]
    omega
  · exact carries_settle (carries (spare_of_length awake loud (Nat.add_le_add_right short 5)) n t h turns)
  · obtain ⟨a, b, _⟩ := loadOther h
    exact ⟨a, b⟩
  · have level := loadHighNow_iff { restarted timer s with dose := u.dose, flow := u.flow }
    rw [← high h] at level
    exact level
  · obtain ⟨_, _, c, d⟩ := loadOther h
    exact ⟨c, d⟩
  · obtain ⟨filter, input, _⟩ := loadFreeze h
    exact ⟨input, fun zero => filter.trans (if_pos zero),
      fun positive _ _ => (congrArg Int.ofNat filter).trans (filterNext_cast positive)⟩
  · rw [settle_tracking, zone, List.map_map]
    exact List.map_congr_left fun r _ => accrueRecord_place _ r
  · rw [settle_tracking, zone]
    exact sameUnits_refl _

end Sys2Proof.Sampling


/-! PROOFS. Full reset (R2, R23). -/

namespace Sys2Proof.Reset

open Sys2Proof Sys2Proof.Machine Sys2Proof.Safety Sys2Proof.Laws

theorem exec_fullReset (n r : Nat) (s : State) :
    exec (.fullReset n r) s = .next (joinWithFault (resetBlocks n r s)) := rfl

theorem strapsValid_iff (n r : Nat) : strapsValid n r = true ↔ 1 ≤ n ∧ n ≤ 29 ∧ r ≤ 2 := by
  simp only [strapsValid, Bool.and_eq_true, decide_eq_true_eq, and_assoc]

/-- With the fault input inactive a reset adds nothing to the reset values, and in QUIET neither. -/
theorem joinWithFault_none {s : State} (h : s.faultIn = false ∨ s.mode ≠ .joining) : joinWithFault s = s :=
  if_neg fun ⟨active, joins⟩ => h.elim (fun e => nomatch e.symm.trans active) (absurd joins)

/-- With the fault input active a joining station sets the latch and reports it. -/
theorem joinWithFault_active {s : State} (active : s.faultIn = true) (joins : s.mode = .joining)
    (empty : s.link = resetLink) :
    joinWithFault s
      = { s with station.faultLatch := true, link.txq := [⟨eventOf s 16 0 0, 0, false, false⟩] } := by
  refine (if_pos ⟨active, joins⟩).trans ?_
  have takes : Accepts Kind.event { s with station.faultLatch := true } := by
    refine ⟨?_, ?_⟩
    · show s.mode ≠ .quiet
      rw [joins]
      nofun
    · show s.link.silencing = false ∧ s.link.txq.length < 8 ∧ (mergingKind .event && _) = false
      rw [empty]
      exact ⟨rfl, by decide, rfl⟩
  refine (queueFrame_accepts (f := eventOf s 16 0 0) takes).trans ?_
  have value : queued (eventOf s 16 0 0) s.link.txq = [⟨eventOf s 16 0 0, 0, false, false⟩] := by
    rw [empty]
    rfl
  exact congrArg (fun q => ({ s with station.faultLatch := true, link.txq := q } : State)) value

/-- Settles O9: the reset values, by the straps and the fault input. -/
theorem fullResetLeaves : Obligations.FullResetLeaves := by
  intro n r s
  refine ⟨fun valid => (exec_fullReset n r s).trans ?_, fun invalid => (exec_fullReset n r s).trans ?_⟩
  · have straps := (strapsValid_iff n r).2 valid
    have joins : (resetBlocks n r s).mode = .joining := if_pos straps
    congr 1
    cases active : s.faultIn with
    | false =>
      rw [joinWithFault_none (s := resetBlocks n r s) (.inl active), resetBlocks, straps, active]
      rfl
    | true =>
      rw [joinWithFault_active (s := resetBlocks n r s) active joins rfl, resetBlocks, straps, active]
      rfl
  · have straps : strapsValid n r = false := by
      rw [← Bool.not_eq_true, strapsValid_iff]
      exact invalid
    have quiet : (resetBlocks n r s).mode ≠ .joining := by
      rw [resetBlocks, straps]
      nofun
    rw [joinWithFault_none (.inr quiet), resetBlocks, straps]
    rfl

end Sys2Proof.Reset


/-! PROOFS. The bits of a frame: what a sender drives a receiver reads (R25, R26, R36). -/

namespace Sys2Proof.Bits

open Sys2Proof Sys2Proof.Machine Sys2Proof.Safety

/-! ### Fields of fixed width -/

@[simp] theorem length_natBits (w n : Nat) : (natBits w n).length = w := by
  induction w with
  | zero => rfl
  | succ w ih => rw [natBits, List.length_cons, ih]

theorem foldl_bits (w n acc : Nat) :
    (natBits w n).foldl (fun m b => 2 * m + b.toNat) acc = 2 ^ w * acc + n % 2 ^ w := by
  induction w generalizing acc with
  | zero => simp [natBits, Nat.mod_one]
  | succ w ih =>
    have top : n % 2 ^ (w + 1) = 2 ^ w * (n.testBit w).toNat + n % 2 ^ w := by
      rw [Nat.toNat_testBit, Nat.pow_succ, Nat.mod_mul, Nat.add_comm]
    rw [natBits, List.foldl_cons, ih, top, Nat.pow_succ]
    ring

theorem bitsNat_natBits {w n : Nat} (h : n < 2 ^ w) : bitsNat (natBits w n) = n := by
  rw [bitsNat, foldl_bits, Nat.mul_zero, Nat.zero_add, Nat.mod_eq_of_lt h]

/-- Fields of known widths, read off a run. -/
theorem take_fields {a b c d e p : List Bool} (ha : a.length = 2) (hb : b.length = 5) (hc : c.length = 5)
    (hd : d.length = 5) (he : e.length = 5) :
    (a ++ (b ++ (c ++ (d ++ (e ++ p))))).take 2 = a
      ∧ ((a ++ (b ++ (c ++ (d ++ (e ++ p))))).drop 2).take 5 = b
      ∧ ((a ++ (b ++ (c ++ (d ++ (e ++ p))))).drop 7).take 5 = c
      ∧ ((a ++ (b ++ (c ++ (d ++ (e ++ p))))).drop 12).take 5 = d
      ∧ ((a ++ (b ++ (c ++ (d ++ (e ++ p))))).drop 17).take 5 = e
      ∧ (a ++ (b ++ (c ++ (d ++ (e ++ p))))).drop 22 = p := by
  simp [List.drop_append, List.drop_of_length_le, ha, hb, hc, hd, he]

/-! ### The payload -/

theorem length_payloadBits (p : List Byte) : (payloadBits p).length = 8 * p.length := by
  induction p with
  | nil => rfl
  | cons b p ih =>
    rw [payloadBits, List.flatMap_cons, List.length_append, length_natBits, List.length_cons]
    rw [payloadBits] at ih
    omega

theorem bytesOfBits_payloadBits (p : List Byte) : bytesOfBits p.length (payloadBits p) = p := by
  induction p with
  | nil => rfl
  | cons b p ih =>
    have byte : (payloadBits (b :: p)).take 8 = natBits 8 b.toNat := List.take_left' (length_natBits _ _)
    have rest : (payloadBits (b :: p)).drop 8 = payloadBits p := List.drop_left' (length_natBits _ _)
    rw [List.length_cons, bytesOfBits, byte, rest, ih, bitsNat_natBits b.isLt]
    exact congrArg (· :: p) ((by simp [byteOf]))

/-! ### Kinds -/

theorem kindOf_kindCode (k : Kind) : kindOf (kindCode k) = some k := by cases k <;> rfl

theorem kindCode_lt (k : Kind) : kindCode k < 2 ^ 5 := by cases k <;> decide

theorem kindClass_lt (k : Kind) : kindClass k < 2 ^ 2 := by cases k <;> decide

theorem kindLength_le (k : Kind) : kindLength k ≤ 16 := by cases k <;> decide

/-! ### The frame -/

/-- The fields of a covered run, in their order. -/
theorem coveredBits_fields (f : Frame) :
    coveredBits f = natBits 2 (kindClass f.kind) ++ (natBits 5 (kindCode f.kind) ++ (natBits 5 f.origin
      ++ (natBits 5 f.target ++ (natBits 5 f.payload.length ++ payloadBits f.payload)))) := by
  simp only [coveredBits, arbitrationBits, List.append_assoc]

theorem length_coveredBits (f : Frame) : (coveredBits f).length = 22 + 8 * f.payload.length := by
  rw [coveredBits_fields]
  simp only [List.length_append, length_natBits, length_payloadBits]
  omega

/-- A sendable frame as a receiver takes its bits apart. -/
theorem readFrame_sentBits {f : Frame} (h : Sendable f) :
    readFrame ((sentBits f).drop 1)
      = ⟨kindClass f.kind, kindCode f.kind, f.origin, f.target, f.payload.length, f.payload, true⟩ := by
  obtain ⟨origin, target, length⟩ := h
  have short : f.payload.length < 2 ^ 5 := by have := kindLength_le f.kind; omega
  have len := length_coveredBits f
  have covered : (coveredBits f ++ natBits 16 (checkField (coveredBits f)).toNat).take (22 + 8 * f.payload.length)
      = coveredBits f := List.take_left' len
  have check : (coveredBits f ++ natBits 16 (checkField (coveredBits f)).toNat).drop (22 + 8 * f.payload.length)
      = natBits 16 (checkField (coveredBits f)).toNat := List.drop_left' len
  have whole : (coveredBits f ++ natBits 16 (checkField (coveredBits f)).toNat).length
      = 22 + 8 * f.payload.length + 16 := by rw [List.length_append, len, length_natBits]
  have sum : bitsNat (natBits 16 (checkField (coveredBits f)).toNat) = (checkField (coveredBits f)).toNat :=
    bitsNat_natBits (checkField (coveredBits f)).isLt
  obtain ⟨cls, kind, origin', target', length', payload⟩ := take_fields
    (p := payloadBits f.payload ++ natBits 16 (checkField (coveredBits f)).toNat)
    (length_natBits 2 (kindClass f.kind)) (length_natBits 5 (kindCode f.kind)) (length_natBits 5 f.origin)
    (length_natBits 5 f.target) (length_natBits 5 f.payload.length)
  have bits : (sentBits f).drop 1 = coveredBits f ++ natBits 16 (checkField (coveredBits f)).toNat := rfl
  have cut : natBits 2 (kindClass f.kind) ++ (natBits 5 (kindCode f.kind) ++ (natBits 5 f.origin
      ++ (natBits 5 f.target ++ (natBits 5 f.payload.length
        ++ (payloadBits f.payload ++ natBits 16 (checkField (coveredBits f)).toNat)))))
      = (sentBits f).drop 1 := by
    rw [bits]
    generalize natBits 16 (checkField (coveredBits f)).toNat = tail
    rw [coveredBits_fields]
    simp only [List.append_assoc]
  rw [← bits] at covered check whole
  rw [cut] at cls kind origin' target' length' payload
  have bytes : (payloadBits f.payload ++ natBits 16 (checkField (coveredBits f)).toNat).take (8 * f.payload.length)
      = payloadBits f.payload := List.take_left' (length_payloadBits _)
  unfold readFrame
  simp only [cls, kind, origin', target', length', payload, bitsNat_natBits (kindClass_lt f.kind),
    bitsNat_natBits (kindCode_lt f.kind), bitsNat_natBits (w := 5) origin, bitsNat_natBits (w := 5) target,
    bitsNat_natBits short, bytes, bytesOfBits_payloadBits, covered, check, whole, sum, decide_true, Bool.and_true]

/-- Settles O5: the fields are read as driven, and a frame of its kind's class and length passes the tests. -/
theorem framesReadAsSent : Obligations.FramesReadAsSent := by
  intro f h
  have read := readFrame_sentBits h
  unfold formedFrame
  rw [read]
  simp only [kindOf_kindCode]
  rw [if_pos]
  simp [h.2.2, kindLength_le]

end Sys2Proof.Bits


/-! PROOFS. RUN at a station with two records of one tag: the HOLD of the new state displaces an OFFER, and the loss is
written by its tag (R41, R90), which brings the stop cause NO_TAKE about before the drive asks for its start. -/

namespace Sys2Proof.TwinTags

open Sys2Proof Sys2Proof.Machine Sys2Proof.Safety Sys2Proof.Laws Sys2Proof.Tests

/-- The RUN that the station takes. -/
def runFrame : Frame := ⟨.run, 30, 0, []⟩

/-- The record before the offer point, offered three times. -/
def offeredTwin : UnitRecord :=
  { segment 401 700 300 495 0 with handover := .offered .sending, attempts := 3 }

/-- Station 12 in READY, its drive off. Of its two records of tag 3/401 the first is offered before the offer point, and
the second is LOCAL beyond it. OFFERs fill the transmit queue. -/
def twinsReady : State :=
  withFrame runFrame
    { station 12 profile12 .ready with
      tracking.zone := [offeredTwin, segment 401 3500 300 495 0]
      link.txq := List.replicate 8 ⟨⟨.offer, 12, 14, imageBytes (recordImage offeredTwin)⟩, 0, false, false⟩ }

theorem handled_twinsReady : Handled runFrame twinsReady := handled_check (by decide +kernel)

theorem not_stopCause_twinsReady : ¬ StopCause twinsReady := noStopCause (by decide +kernel)

theorem granted_twinsReady :
    limiterAnswer (twinsReady.item 9) (twinsReady.item 10) twinsReady.now twinsReady.flow.driveLimiter
      = .granted ⟨[0], none, none⟩ := by decide +kernel

/-- The drive stays off: the loss of an OFFER has marked both records offered. -/
theorem drive_twinsReady : (after .run twinsReady).flow.drive = false := by decide +kernel

/-- Refutes O13: at `twinsReady` no stop cause stands and the limiter grants, but the HOLD that RUN queues displaces an
OFFER, whose rest marks the second record offered beyond the offer point, and the drive stays off. -/
theorem not_runEntersRunning : ¬ Obligations.RunEntersRunning := by
  intro h
  obtain ⟨t, next, _, _, _, _, _, _, asks⟩ := h runFrame [] twinsReady handled_twinsReady.1 handled_twinsReady.2
  obtain ⟨grants, _⟩ := asks (by decide +kernel) (by decide +kernel) rfl (by decide +kernel) not_stopCause_twinsReady
    rfl rfl fun role => absurd role (by decide +kernel)
  have same : t = after .run twinsReady :=
    Host.Outcome.next.inj (next.symm.trans (next_after (by decide +kernel)))
  have on := (grants _ granted_twinsReady).1
  rw [same, drive_twinsReady] at on
  nomatch on

end Sys2Proof.TwinTags


/-! PROOFS. WALK_START (R12, R55). -/

namespace Sys2Proof.Commands

open Sys2Proof Sys2Proof.Machine Sys2Proof.Safety Sys2Proof.Laws

/-! ### The drive of a walking station -/

theorem testEmptied_drive (s : State) : (testEmptied s).flow.drive = s.flow.drive := by
  unfold testEmptied
  split
  · exact defrostTest_drive s
  · rfl

/-- At a walking station with its profile a change of the counts leaves the drive on. -/
theorem queueChanged_walking {s : State} (profile : s.hasProfile = true) (walks : s.mode = .walking) (c : Nat × Nat) :
    (queueChanged c s).flow.drive = true := by
  have level := evaluateLevel_blocks s
  have on := evaluateDrive_walking ((blocksResponded_hasProfile level).trans profile) ((blocksResponded_mode level).trans walks)
  have counts := framesQueued_flow (reportCounts_framesQueued c (evaluateDrive (evaluateLevel s)))
  exact (testEmptied_drive _).trans ((congrArg FlowUnit.drive counts).trans on)

/-- Entering WALKING turns the drive on. -/
theorem enterState_walking {s : State} (profile : s.hasProfile = true) : (enterState .walking s).flow.drive = true := by
  have posture := changePosture_blocks s.mode { s with mode := .walking }
  unfold enterState
  have entered : (changePosture s.mode { s with mode := .walking }).mode = .walking := blocksResponded_mode posture
  have held : (changePosture s.mode { s with mode := .walking }).hasProfile = true :=
    (blocksResponded_hasProfile posture).trans profile
  generalize changePosture s.mode { s with mode := .walking } = u at entered held
  have kept : stateAborts (discardWalk s.mode u) = u := by
    unfold stateAborts discardWalk
    rw [if_neg (by simp [entered]), if_neg (by simp [entered]), if_neg (by simp [entered])]
  have unended : endsFormation s.mode u.mode = false := by simp [endsFormation, entered]
  unfold respondToState
  dsimp only
  rw [unended, if_neg Bool.false_ne_true, kept]
  have reasons := refreshReasons_blocks u
  have on := evaluateDrive_walking ((blocksResponded_hasProfile reasons).trans held) ((blocksResponded_mode reasons).trans entered)
  rw [framesQueued_flow (queueStatus_framesQueued _), doorTest_drive, defrostTest_drive, on]

theorem exec_walkStart {f : Frame} {rest : List Frame} {s : State} (ho : Oldest .walkStart f rest s)
    (ha : Admitted f s) : exec .walkStart s = done (startWalk f (handed f rest s)) :=
  takeCommand_admitted (k := .walkStart) rfl ho ha

/-- Settles O15: entry to WALKING, the chain flags without a downstream, and the count of a list that is emptied. -/
theorem walkStartBegins : Obligations.WalkStartBegins := by
  intro f rest s ho ha profile
  have exec := exec_walkStart ho ha
  have handedOn := handed_blocks f rest s
  have held : (handed f rest s).hasProfile = true := by rw [Peers.handed_hasProfile]; exact profile
  have from' : (handed f rest s).mode = .profiled ∨ (handed f rest s).mode = .ready := by
    rw [handed_mode]
    simpa [StateAccepts, ho.2.1] using ha.2.2
  generalize taken f rest s = u at handedOn ⊢
  generalize handed f rest s = v at exec handedOn held from'
  have began := Handover.arrivals_blocks (walk_blocks (Walking.neighbours_blocks handedOn ⟨0, 0, 0⟩) (some freshWalk)) []
  have unended : endsFormation v.mode .walking = false := by rcases from' with h | h <;> rw [h] <;> rfl
  have entered := blocksResponded_trans (blocksResponded_setMode began .walking)
    (blocksResponded_trans (enterState_unended .walking nofun unended) (evaluateChain_blocks _))
  have on := enterState_walking (s := { v with
    peer.neighbours := ⟨0, 0, 0⟩, peer.walk := some freshWalk, arrivals := [] }) held
  rw [← evaluateChain_drive] at on
  unfold startWalk at exec
  dsimp only at exec
  generalize evaluateChain (enterState .walking { v with
    peer.neighbours := ⟨0, 0, 0⟩, peer.walk := some freshWalk, arrivals := [] }) = w at exec entered on
  split at exec
  · exact next_of_done exec ⟨on, blocksResponded_trans entered (settle_blocks _)⟩
  · have walks : w.mode = .walking := blocksResponded_mode entered
    have kept : w.hasProfile = true := by
      rw [blocksResponded_hasProfile entered, ← held]
      exact (blocksResponded_hasProfile handedOn).symm
    exact next_of_done exec ⟨queueChanged_walking kept walks _,
      blocksResponded_trans entered (blocksResponded_trans (queueChanged_blocks _ w) (settle_blocks _))⟩

end Sys2Proof.Commands


/-! PROOFS. The responses of a station at rest, in FAULTED and PROFILED: no cycle starts and no channel is triggered
(R62, R78, R153, R184). -/

namespace Sys2Proof.Rest

open Sys2Proof Sys2Proof.Machine Sys2Proof.Safety Sys2Proof.Laws

/-- `s`, with all that blocks at rest may write as `t` has it. -/
def withRest (s t : State) : State :=
  { s with
    link.txq := t.link.txq
    counters := { t.counters with defrostAborted := s.counters.defrostAborted }
    tracking := t.tracking
    flow := t.flow
    peer.chainLoad := t.peer.chainLoad
    peer.chainDefrost := t.peer.chainDefrost }

/-- From `s` to `t` blocks at rest responded: frames, counters, tracking, the flow unit and the chain flags. -/
def Rested (s t : State) : Prop := t = withRest s t

theorem rested_refl (s : State) : Rested s s := rfl

theorem rested_trans {s t u : State} (h : Rested s t) (h' : Rested t u) : Rested s u := by
  have e := congrArg (withRest · u) h
  exact h'.trans e

/-- A state written out in the fields that rest leaves to write. -/
theorem rested_of_eq {s t w : State} (h : t = w) (fix : withRest s w = w) : Rested s t := by
  subst h
  exact fix.symm

theorem framesQueued_rested {s t : State} (h : FramesQueued s t) : Rested s t := rested_of_eq h.1 rfl

theorem flowResponded_rested {s t : State} (h : FlowResponded s t) : Rested s t := rested_of_eq h.1 rfl

theorem rested_mode {s t : State} (h : Rested s t) : t.mode = s.mode := by
  have e := congrArg State.mode h
  exact e

theorem rested_station {s t : State} (h : Rested s t) : t.station = s.station := by
  have e := congrArg State.station h
  exact e

theorem foldl_rested {α : Type} {f : State → α → State} (step : ∀ s a, Rested s (f s a)) (l : List α) (s : State) :
    Rested s (l.foldl f s) := by
  induction l generalizing s with
  | nil => exact rested_refl s
  | cons a l ih => exact rested_trans (step s a) (ih _)

/-! ### The operations -/

theorem evaluateChain_rested (s : State) : Rested s (evaluateChain s) :=
  rested_of_eq (Sampling.evaluateChain_sends s) rfl

theorem handDownstream_rested (before : Option PeerEntry) (s : State) : Rested s (handDownstream before s) := by
  unfold handDownstream
  split
  · next b a _ =>
    have drive : Rested s (if b.holding = a.holding ∧ b.stale = a.stale then s else evaluateDrive s) := by
      split
      · exact rested_refl s
      · exact flowResponded_rested (evaluateDrive_flow s)
    dsimp only
    split
    · exact rested_trans drive (framesQueued_rested (revive_framesQueued _))
    · exact drive
  · exact rested_refl s
  · exact flowResponded_rested (evaluateDrive_flow s)
  · exact flowResponded_rested (evaluateDrive_flow s)

theorem passRecord_rested (s : State) (t : Tag) : Rested s (passRecord s t) := by
  unfold passRecord
  split
  · exact rested_refl s
  · dsimp only
    refine rested_trans ?_ (framesQueued_rested (queueFrame_framesQueued _ _))
    split
    · rfl
    · rfl

theorem examineZone_rested (s : State) : Rested s (examineZone s) := by
  unfold examineZone
  split
  · exact rested_trans (framesQueued_rested (makeOffers_framesQueued s))
      (rested_trans (foldl_rested passRecord_rested _ _) (flowResponded_rested (evaluateDrive_flow _)))
  · exact flowResponded_rested (evaluateDrive_flow s)

theorem mergeInto_rested (last r : UnitRecord) (s : State) : Rested s (mergeInto last r s) := by
  have written : Rested s (count .merged { s with tracking.zone := replaceLast (absorb last r) s.tracking.zone }) := rfl
  exact rested_trans written (framesQueued_rested (queueEvent_framesQueued _ _ _ _))

theorem gainLoad_rested (mass : Nat) (s : State) : Rested s (gainLoad mass s) := by
  unfold gainLoad
  split <;> rfl

theorem enterVia_rested {examine : State → State} (hx : ∀ s, Rested s (examine s)) (r : UnitRecord) (s : State) :
    Rested s (enterVia examine r s) := by
  have inserted : ∀ u, Rested u (insertRecord r u) := fun _ => rfl
  have joins : ∀ u, Rested u (examine (insertRecord r u)) := fun u => rested_trans (inserted u) (hx _)
  unfold enterVia
  split
  · exact joins s
  split
  · exact joins s
  · split
    · split
      · have dropped : Rested s { s with tracking.zone := s.tracking.zone.dropLast } := rfl
        exact rested_trans dropped (joins _)
      · exact rested_trans (gainLoad_rested _ s) (mergeInto_rested _ _ _)
    · exact mergeInto_rested _ _ _

theorem enterRecord_rested (r : UnitRecord) (s : State) : Rested s (enterRecord r s) :=
  enterVia_rested examineZone_rested r s

/-- A change of the counts, where no cycle may start. -/
theorem queueChanged_rested {s : State} (h : defrostState s.mode = false) (c : Nat × Nat) : Rested s (queueChanged c s) := by
  have first : Rested s (reportCounts c (evaluateDrive (evaluateLevel s))) :=
    rested_trans (flowResponded_rested (setReasons_flow _ s))
      (rested_trans (flowResponded_rested (evaluateDrive_flow _)) (framesQueued_rested (reportCounts_framesQueued c _)))
  have rests : defrostState (reportCounts c (evaluateDrive (evaluateLevel s))).mode = false := by
    rw [rested_mode first]
    exact h
  unfold queueChanged testEmptied
  split
  · rw [defrostTest_none rests]
    exact first
  · exact first

theorem closeForming_rested {s : State} (h : defrostState s.mode = false) (f : Nat → Nat) :
    Rested s (closeForming enterRecord queueChanged f s) := by
  have changed : ∀ {u : State} (c), Rested s u → Rested s (queueChanged c u) := fun c hu =>
    rested_trans hu (queueChanged_rested (by rw [rested_mode hu]; exact h) c)
  unfold closeForming
  split
  · next m _ =>
    dsimp only
    split
    · rfl
    · refine changed _ (rested_trans (rested_trans ?_ (gainLoad_rested _ _)) (enterRecord_rested _ _))
      rfl
  · split
    · exact rested_refl s
    · split
      · dsimp only
        split
        · exact changed _ rfl
        · refine rested_trans ?_ (gainLoad_rested _ _)
          rfl
      · exact rested_refl s

theorem setNeighbours_rested (n : Neighbours) (s : State) :
    Rested { s with peer.neighbours := n } (setNeighbours n s) := by
  have told : Rested { s with peer.neighbours := n }
      (if n.upstream = s.peer.neighbours.upstream ∧ n.downstream = s.peer.neighbours.downstream then
        { s with peer.neighbours := n } else queueStatus { s with peer.neighbours := n }) := by
    split
    · exact rested_refl _
    · exact framesQueued_rested (queueStatus_framesQueued _)
  unfold setNeighbours
  dsimp only
  generalize (if n.upstream = s.peer.neighbours.upstream ∧ n.downstream = s.peer.neighbours.downstream then
    { s with peer.neighbours := n } else queueStatus { s with peer.neighbours := n }) = u at told ⊢
  have handed : Rested { s with peer.neighbours := n }
      (if n.downstream = s.peer.neighbours.downstream then u
        else handDownstream s.downstreamEntry (evaluateChain u)) := by
    split
    · exact told
    · exact rested_trans told (rested_trans (evaluateChain_rested u) (handDownstream_rested _ _))
  split
  · exact handed
  · exact rested_trans handed (framesQueued_rested (queueHold_framesQueued _))

end Sys2Proof.Rest


/-! PROOFS. The fault input at a profiled station (R7): entry to FAULTED. -/

namespace Sys2Proof.Faulting

open Sys2Proof Sys2Proof.Machine Sys2Proof.Safety Sys2Proof.Laws Sys2Proof.Rest Sys2Proof.Room

/-! ### Channels (R156, R170) -/

theorem startChannel_started (r : ChannelRecord) (c : Channel) : Started r (startChannel r c) := by
  unfold Started startChannel channelTakes
  cases r.mode with
  | off | duty | segmentWindow | eventPulse | follow => simp
  | setAt | clearAt | toggle => by_cases h : r.a = 0 <;> simp [h, eq_comm]
  | onePulse =>
    by_cases ha : r.a = 0
    · by_cases hb : r.b = 0 <;> simp [ha, hb, eq_comm]
    · simp [ha, eq_comm]
  | repeatPulse =>
    by_cases ha : r.a = 0
    · by_cases hb : r.b = 0 <;> simp [ha, hb, eq_comm]
    · by_cases hb : r.b = 0 <;> simp [ha, hb, eq_comm]

/-- A started channel does not depend on its output level. -/
theorem started_out {r : ChannelRecord} {c : Channel} (h : Started r c) (out : Bool) : Started r { c with out := out } := h

theorem freshPosture_get (s : State) (h : liveState s.mode = true) (ch : Nat) (hc : ch < 6) :
    (freshPosture s).channels.chans[ch]
      = if s.mode = .faulted ∧ (s.channelRecord ch).faultGoverned = true then forceChannel s.channels.chans[ch]
        else startChannel (s.channelRecord ch) s.channels.chans[ch] := by
  unfold freshPosture
  rw [if_pos h]
  exact mapChannels_get _ _ ch hc

/-- The channels at entry to FAULTED. -/
theorem changePosture_faulted {old : StationState} {s : State} (faulted : s.mode = .faulted) (ch : Nat) (hc : ch < 6) :
    ((s.channelRecord ch).faultGoverned = true →
        (changePosture old s).channels.chans[ch] = forceChannel s.channels.chans[ch])
      ∧ ((s.channelRecord ch).faultGoverned = false → liveState old = true →
          (changePosture old s).channels.chans[ch] = s.channels.chans[ch])
      ∧ ((s.channelRecord ch).faultGoverned = false → liveState old = false →
          Started (s.channelRecord ch) (changePosture old s).channels.chans[ch]) := by
  have live : liveState s.mode = true := by rw [faulted]; rfl
  unfold changePosture
  cases was : liveState old with
  | true =>
    rw [live, Bool.and_self, if_pos rfl, if_pos faulted]
    have get : (s.mapChannels fun ch c => if (s.channelRecord ch).faultGoverned then forceChannel c else c).channels.chans[ch]
        = if (s.channelRecord ch).faultGoverned then forceChannel s.channels.chans[ch] else s.channels.chans[ch] :=
      mapChannels_get _ _ ch hc
    rw [get]
    exact ⟨fun h => if_pos h, fun h _ => if_neg (by rw [h]; exact Bool.false_ne_true), fun _ h => (nomatch h)⟩
  | false =>
    rw [live, Bool.false_and, if_neg Bool.false_ne_true, Bool.false_or, if_pos rfl, freshPosture_get s live ch hc]
    refine ⟨fun h => if_pos ⟨faulted, h⟩, fun _ h => (nomatch h), fun h _ => ?_⟩
    rw [if_neg (fun g => by rw [h] at g; nomatch g.2)]
    exact startChannel_started _ _

/-- A channel that is not RUNNING shows an inactive output once the command ends. -/
theorem settle_stopped (u : State) (ch : Nat) (hc : ch < 6) (h : u.channels.chans[ch].run ≠ .running) :
    (settle u).channels.chans[ch].out = false :=
  (congrArg Channel.out (Line.settleOutputs_out (settleLine u) ch hc)).trans (Line.channelOutput_stopped _ ch h)

/-! ### The aborts -/

/-- What FAULTED aborts: the defrost cycle, counted, and the door cycle, its request withdrawn. -/
def aborted (s : State) : State := abortDoor (abortDefrost s)

theorem aborted_defrost (s : State) : (aborted s).defrost = { s.defrost with cycle := none } := by
  have door : (aborted s).defrost = (abortDefrost s).defrost := by
    show (withdrawDoor (abortDefrost s)).defrost = _
    unfold withdrawDoor
    split <;> rfl
  rw [door]
  unfold abortDefrost
  split
  · rfl
  · next h =>
    have none : s.defrost.cycle = none := by simpa using h
    rw [← none]

theorem aborted_counters (s : State) :
    (aborted s).counters
      = if s.defrost.cycle.isSome then countersBump s.counters .defrostAborted else s.counters := by
  have door : (aborted s).counters = (abortDefrost s).counters := by
    show (withdrawDoor (abortDefrost s)).counters = _
    unfold withdrawDoor
    split <;> rfl
  rw [door]
  unfold abortDefrost
  split <;> rfl

/-- What the aborts leave as it was. -/
theorem aborted_keeps (s : State) :
    (aborted s).mode = s.mode ∧ (aborted s).station = s.station ∧ (aborted s).link = s.link ∧ (aborted s).peer = s.peer
      ∧ (aborted s).tracking = s.tracking ∧ (aborted s).arrivals = s.arrivals ∧ (aborted s).dose = s.dose
      ∧ (aborted s).channels = s.channels ∧ (aborted s).faultIn = s.faultIn ∧ (aborted s).encoder = s.encoder
      ∧ (aborted s).now = s.now ∧ (aborted s).pending = s.pending
      ∧ (aborted s).packing = { s.packing with door := .idle } := by
  unfold aborted abortDoor withdrawDoor abortDefrost
  split <;> split <;> exact ⟨rfl, rfl, rfl, rfl, rfl, rfl, rfl, rfl, rfl, rfl, rfl, rfl, rfl⟩

/-! ### Entry to FAULTED -/

/-- The station after its channels' response to FAULTED and the close of a forming segment. -/
def closedAtFault (s : State) : State :=
  let p := changePosture s.mode { s with mode := .faulted }
  if endsFormation s.mode .faulted then closeForming enterRecord queueChanged id p else p

theorem closedAtFault_rested (s : State) :
    Rested (changePosture s.mode { s with mode := .faulted }) (closedAtFault s) := by
  have mode : (changePosture s.mode { s with mode := .faulted }).mode = .faulted :=
    blocksResponded_mode (changePosture_blocks _ _)
  unfold closedAtFault
  dsimp only
  split
  · exact closeForming_rested (by rw [mode]; rfl) id
  · exact rested_refl _

/-- The station after the walk's partial results are discarded. -/
def walkDiscarded (s : State) : State := discardWalk s.mode (closedAtFault s)

theorem closedAtFault_mode (s : State) : (closedAtFault s).mode = .faulted :=
  (rested_mode (closedAtFault_rested s)).trans (blocksResponded_mode (changePosture_blocks _ _))

theorem walkDiscarded_other {s : State} (h : s.mode ≠ .walking) : walkDiscarded s = closedAtFault s := by
  unfold walkDiscarded discardWalk
  rw [if_neg fun g => h g.1]

theorem walkDiscarded_walking {s : State} (h : s.mode = .walking) :
    walkDiscarded s = setNeighbours ⟨0, 0, 0⟩ { closedAtFault s with peer.walk := none } := by
  unfold walkDiscarded discardWalk
  rw [if_pos ⟨h, closedAtFault_mode s⟩]

/-- A walk discarded, after rest. -/
theorem walk_rested {s t : State} (h : Rested s t) (n : Neighbours) (w : Option Walk) :
    Rested { s with peer.neighbours := n, peer.walk := w } { t with peer.neighbours := n, peer.walk := w } := by
  have e := congrArg (fun v : State => { v with peer.neighbours := n, peer.walk := w }) h
  exact e

theorem walkDiscarded_rested (s : State) :
    (s.mode ≠ .walking → Rested (changePosture s.mode { s with mode := .faulted }) (walkDiscarded s))
      ∧ (s.mode = .walking →
          Rested { changePosture s.mode { s with mode := .faulted } with
            peer.neighbours := ⟨0, 0, 0⟩, peer.walk := none } (walkDiscarded s)) := by
  refine ⟨fun h => ?_, fun h => ?_⟩
  · rw [walkDiscarded_other h]
    exact closedAtFault_rested s
  · rw [walkDiscarded_walking h]
    exact rested_trans (walk_rested (closedAtFault_rested s) _ _)
      (setNeighbours_rested ⟨0, 0, 0⟩ { closedAtFault s with peer.walk := none })

theorem walkDiscarded_sameUnits (s : State) : SameUnits (closedAtFault s).tracking.zone (walkDiscarded s).tracking.zone := by
  by_cases h : s.mode = .walking
  · rw [walkDiscarded_walking h]
    exact (setNeighbours_blocks ⟨0, 0, 0⟩ { closedAtFault s with peer.walk := none }).2.1
  · rw [walkDiscarded_other h]
    exact sameUnits_refl _

/-- In FAULTED the peer view's loss of its neighbours queues a STATUS and a HOLD at most. -/
theorem setNeighbours_adds {s : State} (faulted : s.mode = .faulted) : Adds true 0 s (setNeighbours ⟨0, 0, 0⟩ s) := by
  have changed : Adds true 0 s { s with peer.neighbours := ⟨0, 0, 0⟩ } := .of_link rfl id
  have handed : ∀ {u : State} (before), u.mode = .faulted → u.downstreamEntry = none →
      Adds true 0 u (handDownstream before u) := by
    intro u before mode gone
    have drive := evaluateDrive_adds_none true u (.inl ⟨by rw [mode]; nofun, by rw [mode]; nofun⟩)
    unfold handDownstream
    rw [gone]
    split
    · next h => nomatch h
    · exact .refl u
    · exact drive
    · exact drive
  have told : ∀ u, BlocksResponded { s with peer.neighbours := ⟨0, 0, 0⟩ } u →
      Adds true 0 u (handDownstream s.downstreamEntry (evaluateChain u)) := fun u blocks => by
    have chain := blocksResponded_trans blocks (evaluateChain_blocks u)
    have gone : (evaluateChain u).downstream = 0 := by
      have e := congrArg State.downstream chain.1
      exact e
    exact (evaluateChain_adds true u).trans
      (handed _ ((blocksResponded_mode chain).trans faulted) (if_pos gone))
  have first : Adds true 0 s
      (if (⟨0, 0, 0⟩ : Neighbours).upstream = s.peer.neighbours.upstream
          ∧ (⟨0, 0, 0⟩ : Neighbours).downstream = s.peer.neighbours.downstream then
        { s with peer.neighbours := ⟨0, 0, 0⟩ } else queueStatus { s with peer.neighbours := ⟨0, 0, 0⟩ })
      ∧ BlocksResponded { s with peer.neighbours := ⟨0, 0, 0⟩ }
        (if (⟨0, 0, 0⟩ : Neighbours).upstream = s.peer.neighbours.upstream
          ∧ (⟨0, 0, 0⟩ : Neighbours).downstream = s.peer.neighbours.downstream then
        { s with peer.neighbours := ⟨0, 0, 0⟩ } else queueStatus { s with peer.neighbours := ⟨0, 0, 0⟩ }) := by
    split
    · exact ⟨changed, blocksResponded_refl _⟩
    · exact ⟨changed.trans (queueStatus_adds true _), framesQueued_blocks (queueStatus_framesQueued _)⟩
  unfold setNeighbours
  dsimp only at first ⊢
  generalize (if 0 = s.peer.neighbours.upstream ∧ 0 = s.peer.neighbours.downstream then
    { s with peer.neighbours := ⟨0, 0, 0⟩ } else queueStatus { s with peer.neighbours := ⟨0, 0, 0⟩ }) = u at first ⊢
  have second : Adds true 0 s (if 0 = s.peer.neighbours.downstream then u
      else handDownstream s.downstreamEntry (evaluateChain u)) := by
    split
    · exact first.1
    · exact first.1.trans (told u first.2)
  split
  · exact second
  · exact second.trans (queueHold_adds _)

theorem walkDiscarded_adds (s : State) : Adds true 0 (closedAtFault s) (walkDiscarded s) := by
  by_cases h : s.mode = .walking
  · rw [walkDiscarded_walking h]
    have walk : Adds true 0 (closedAtFault s) { closedAtFault s with peer.walk := none } := .of_link rfl id
    exact walk.trans (setNeighbours_adds (closedAtFault_mode s))
  · rw [walkDiscarded_other h]
    exact .refl _

/-- Entry to FAULTED, part by part. -/
theorem enterState_faulted_eq (s : State) :
    enterState .faulted s
      = queueStatus (doorTest (defrostTest (evaluateDrive (refreshReasons (aborted (walkDiscarded s)))))) := by
  have posture : (changePosture s.mode { s with mode := .faulted }).mode = .faulted :=
    blocksResponded_mode (changePosture_blocks _ _)
  have mode : (walkDiscarded s).mode = .faulted := by
    by_cases h : s.mode = .walking
    · rw [rested_mode ((walkDiscarded_rested s).2 h)]
      exact posture
    · rw [walkDiscarded_other h, closedAtFault_mode]
  have closed : (if endsFormation s.mode (changePosture s.mode { s with mode := .faulted }).mode then
      closeForming enterRecord queueChanged id (changePosture s.mode { s with mode := .faulted })
      else changePosture s.mode { s with mode := .faulted }) = closedAtFault s := by
    rw [posture]
    rfl
  unfold enterState respondToState
  dsimp only
  rw [closed, show discardWalk s.mode (closedAtFault s) = walkDiscarded s from rfl, stateAborts, if_pos mode]
  rfl

/-- In FAULTED the flow unit adds a STATUS and a HOLD at most. -/
theorem respond_adds {v : State} (faulted : v.mode = .faulted) :
    Adds true 0 v (queueStatus (doorTest (defrostTest (evaluateDrive (refreshReasons v))))) := by
  have reasons : (refreshReasons v).mode = .faulted := (blocksResponded_mode (refreshReasons_blocks v)).trans faulted
  have drive : (evaluateDrive (refreshReasons v)).mode = .faulted :=
    (blocksResponded_mode (evaluateDrive_blocks _)).trans reasons
  rw [defrostTest_none (by rw [drive]; rfl), doorTest_none (by rw [drive]; rfl)]
  exact ((refreshReasons_adds v).trans (evaluateDrive_adds_none true _ (.inl ⟨by rw [reasons]; nofun,
    by rw [reasons]; nofun⟩))).trans (queueStatus_adds true _)

/-! ### The fault input (R7) -/

theorem changePosture_eq (old : StationState) (s : State) :
    changePosture old s = { s with channels := (changePosture old s).channels } := by
  unfold changePosture freshPosture
  split
  · split
    · rfl
    · split <;> rfl
  · split
    · split <;> rfl
    · rfl

/-- What rest leaves as it was, apart from the neighbour record and the walk. -/
def standing (v : State) :=
  (v.mode, v.station, v.defrost, v.packing, v.arrivals, v.dose, v.link.rxq, v.now, v.pending, v.encoder, v.faultIn,
    v.peer.peers, v.peer.statusTimer, v.counters.defrostAborted, v.channels)

theorem rested_standing {s t : State} (h : Rested s t) : standing t = standing s := by
  have e := congrArg standing h
  exact e

/-- Entry to FAULTED, up to its aborts: the state, the channels, and the walk of a walking station. -/
theorem walkDiscarded_standing (s : State) :
    standing (walkDiscarded s)
      = standing { s with
          mode := .faulted, channels := (changePosture s.mode { s with mode := .faulted }).channels } := by
  have entered := congrArg standing (changePosture_eq s.mode { s with mode := .faulted })
  obtain ⟨other, walking⟩ := walkDiscarded_rested s
  refine Eq.trans ?_ entered
  by_cases h : s.mode = .walking
  · have e := rested_standing (walking h)
    exact e
  · exact rested_standing (other h)

/-- The walk and the neighbour record at entry to FAULTED. -/
theorem walkDiscarded_peer (s : State) :
    (s.mode ≠ .walking → (walkDiscarded s).peer.walk = s.peer.walk
        ∧ (walkDiscarded s).peer.neighbours = s.peer.neighbours)
      ∧ (s.mode = .walking → (walkDiscarded s).peer.walk = none
          ∧ (walkDiscarded s).peer.neighbours = ⟨0, 0, 0⟩) := by
  have entered := congrArg (fun v : State => (v.peer.walk, v.peer.neighbours))
    (changePosture_eq s.mode { s with mode := .faulted })
  obtain ⟨other, walking⟩ := walkDiscarded_rested s
  refine ⟨fun h => ?_, fun h => ?_⟩
  · have e := congrArg (fun v : State => (v.peer.walk, v.peer.neighbours)) (other h)
    have e' := Eq.trans (b := ((changePosture s.mode { s with mode := .faulted }).peer.walk,
      (changePosture s.mode { s with mode := .faulted }).peer.neighbours)) e entered
    exact Prod.mk.inj e'
  · have e := congrArg (fun v : State => (v.peer.walk, v.peer.neighbours)) (walking h)
    exact Prod.mk.inj e

/-- The whole entry to FAULTED of a profiled station. -/
theorem enterState_faulted (s : State) (profile : s.hasProfile = true) :
    FlowResponded (aborted (walkDiscarded s)) (enterState .faulted s)
      ∧ (enterState .faulted s).flow.drive = false
      ∧ (s.unstoppable = false → (enterState .faulted s).flow.driveLimiter.deferred = none)
      ∧ (enterState .faulted s).flow.reasons
          = (aborted (walkDiscarded s)).reasonsInForce (aborted (walkDiscarded s)).flow.reasons.level
      ∧ Adds true 0 (closedAtFault s) (enterState .faulted s)
      ∧ SameUnits (closedAtFault s).tracking.zone (enterState .faulted s).tracking.zone := by
  obtain ⟨mode, station, link, _, tracking, _⟩ := aborted_keeps (walkDiscarded s)
  have stands := walkDiscarded_standing s
  unfold standing at stands
  simp only [Prod.mk.injEq] at stands
  have faulted : (aborted (walkDiscarded s)).mode = .faulted := mode.trans stands.1
  have same : (aborted (walkDiscarded s)).station = s.station := station.trans stands.2.1
  have held : (aborted (walkDiscarded s)).hasProfile = true := by
    unfold State.hasProfile at profile ⊢
    rw [same]
    exact profile
  have role : (aborted (walkDiscarded s)).unstoppable = s.unstoppable := by
    unfold State.unstoppable State.hasRole State.role State.items
    rw [same]
  obtain ⟨t, ht, flow, drive, deferred, reasons⟩ := respond_faulted faulted held
  rw [enterState_faulted_eq, ht]
  have aborts : Adds true 0 (walkDiscarded s) (aborted (walkDiscarded s)) := .of_link link (by rw [mode]; exact id)
  refine ⟨flow, drive, fun h => deferred (role.trans h), reasons, ?_, ?_⟩
  · rw [← ht]
    exact ((walkDiscarded_adds s).trans aborts).trans (respond_adds faulted)
  · have last := flow.2
    rw [tracking] at last
    exact sameUnits_trans (walkDiscarded_sameUnits s) last

/-- What the flow unit's responses leave as it was. -/
theorem flowResponded_standing {s t : State} (h : FlowResponded s t) :
    standing t = standing s ∧ t.peer = s.peer := by
  have e := congrArg State.peer h.1
  have e' := congrArg standing h.1
  exact ⟨e', e⟩

/-- The station as the fault input latches it. -/
abbrev latched (s : State) : State := latchFault { s with faultIn := true }

theorem latched_standing (s : State) :
    standing (latched s) = standing { s with faultIn := true, station.faultLatch := true }
      ∧ (latched s).peer = s.peer := by
  have frames := (Peers.latchFault_framesQueued { s with faultIn := true }).1
  have e := congrArg standing frames
  have e' := congrArg State.peer frames
  exact ⟨e, e'⟩

theorem exec_faultInput {s : State} (clear : s.station.faultLatch = false)
    (from' : s.mode = .profiled ∨ s.mode = .walking ∨ s.mode = .ready ∨ s.mode = .running ∨ s.mode = .draining) :
    exec .faultInput s = done (enterState .faulted (latched s)) := by
  show execFaultInput s = _
  unfold execFaultInput
  rw [if_neg (by rw [clear]; rcases from' with h | h | h | h | h <;> simp [h]),
    if_pos (by rcases from' with h | h | h | h | h <;> simp [h, faultableState])]

/-- No segment to close at entry to FAULTED. -/
theorem closedAtFault_none {s : State} (h : s.formingNow = false) :
    closedAtFault s = changePosture s.mode { s with mode := .faulted } := by
  have posture := formingNow_blocksResponded (changePosture_blocks s.mode { s with mode := .faulted })
  unfold closedAtFault
  dsimp only
  split
  · exact closeForming_none _ _ _ (posture.trans h)
  · rfl

/-- A forming segment closes at its head at entry to FAULTED. -/
theorem closedAtFault_zone {s : State} {zone : List UnitRecord} {r : UnitRecord} (ends : endsFormation s.mode .faulted = true)
    (merge : s.tracking.mergeBound = none) (hz : s.tracking.zone = zone ++ [r]) (forming : r.forming = true)
    (pos : 0 < r.head) :
    (closedAtFault s).tracking.zone
      = zone ++ [{ r with
          length := r.head, mass := min (roundDiv (r.head * s.loading) 256) 65535, forming := false }] := by
  have entered := changePosture_eq s.mode { s with mode := .faulted }
  unfold closedAtFault
  dsimp only
  rw [if_pos ends]
  generalize (changePosture s.mode { s with mode := .faulted }).channels = c at entered
  rw [entered]
  obtain ⟨g, hg⟩ := closeForming_last enterRecord queueChanged id { s with mode := .faulted, channels := c } zone r merge
    hz forming pos.ne'
  exact congrArg (fun v : State => v.tracking.zone) hg

/-- What entry to FAULTED leaves of the blocks that it does not drive. -/
theorem enterState_faulted_fields (s : State) (profile : s.hasProfile = true) :
    (enterState .faulted s).mode = .faulted ∧ (enterState .faulted s).station = s.station
      ∧ (enterState .faulted s).defrost = { s.defrost with cycle := none }
      ∧ (enterState .faulted s).packing = { s.packing with door := .idle }
      ∧ (enterState .faulted s).arrivals = s.arrivals ∧ (enterState .faulted s).dose = s.dose
      ∧ (enterState .faulted s).link.rxq = s.link.rxq ∧ (enterState .faulted s).now = s.now
      ∧ (enterState .faulted s).pending = s.pending ∧ (enterState .faulted s).encoder = s.encoder
      ∧ (enterState .faulted s).faultIn = s.faultIn ∧ (enterState .faulted s).peer.peers = s.peer.peers
      ∧ (enterState .faulted s).peer.statusTimer = s.peer.statusTimer
      ∧ (enterState .faulted s).counters.defrostAborted
          = (if s.defrost.cycle.isSome then min (s.counters.defrostAborted + 1) 65535 else s.counters.defrostAborted)
      ∧ (enterState .faulted s).channels = (changePosture s.mode { s with mode := .faulted }).channels := by
  obtain ⟨flow, _⟩ := enterState_faulted s profile
  have last := (flowResponded_standing flow).1
  have first := walkDiscarded_standing s
  obtain ⟨mode, station, link, peer, _, arrivals, dose, channels, faultIn, encoder, now, pending, packing⟩ :=
    aborted_keeps (walkDiscarded s)
  have defrost := aborted_defrost (walkDiscarded s)
  have counters := congrArg Counters.defrostAborted (aborted_counters (walkDiscarded s))
  unfold standing at first last
  simp only [Prod.mk.injEq] at first last
  obtain ⟨mode0, station0, defrost0, packing0, arrivals0, dose0, rxq0, now0, pending0, encoder0, faultIn0, peers0,
    timer0, aborted0, channels0⟩ := first
  obtain ⟨mode1, station1, defrost1, packing1, arrivals1, dose1, rxq1, now1, pending1, encoder1, faultIn1, peers1,
    timer1, aborted1, channels1⟩ := last
  rw [defrost0] at defrost
  rw [packing0] at packing
  refine ⟨mode1.trans (mode.trans mode0), station1.trans (station.trans station0), defrost1.trans defrost,
    packing1.trans packing, arrivals1.trans (arrivals.trans arrivals0), dose1.trans (dose.trans dose0),
    rxq1.trans ((congrArg Link.rxq link).trans rxq0), now1.trans (now.trans now0),
    pending1.trans (pending.trans pending0), encoder1.trans (encoder.trans encoder0),
    faultIn1.trans (faultIn.trans faultIn0), peers1.trans ((congrArg PeerView.peers peer).trans peers0),
    timer1.trans ((congrArg PeerView.statusTimer peer).trans timer0), aborted1.trans (counters.trans ?_),
    channels1.trans (channels.trans channels0)⟩
  rw [defrost0]
  split
  · exact congrArg (fun n => min (n + 1) 65535) aborted0
  · exact aborted0

/-- The holding reasons of entry to FAULTED. -/
theorem enterState_faulted_reasons (s : State) (profile : s.hasProfile = true) :
    (enterState .faulted s).flow.reasons.idle = true ∧ (enterState .faulted s).flow.reasons.fault = true
      ∧ (enterState .faulted s).flow.reasons.defrost = false := by
  obtain ⟨flow, _, _, reasons, _⟩ := enterState_faulted s profile
  have faulted : (aborted (walkDiscarded s)).mode = .faulted :=
    (flowResponded_mode flow).symm.trans (enterState_faulted_fields s profile).1
  have cycle := congrArg DefrostController.cycle (aborted_defrost (walkDiscarded s))
  rw [reasons]
  unfold State.reasonsInForce
  rw [faulted, cycle]
  exact ⟨rfl, rfl, rfl⟩

/-- Settles O10: entry to FAULTED, part by part. -/
theorem faultInputFaults : Obligations.FaultInputFaults := by
  intro s profile clear from'
  refine next_of_done (exec_faultInput clear from') ?_
  have frames := Peers.latchFault_framesQueued { s with faultIn := true }
  obtain ⟨kept, peer⟩ := latched_standing s
  have carries : Spare true 1 { s with faultIn := true } →
      Carries (eventOf s 16 (stateCode s.mode) 0) (latched s) ∧ Adds true 1 { s with faultIn := true } (latched s) :=
    Peers.latchFault_carries (s := { s with faultIn := true }) true (k := 0)
  unfold standing at kept
  simp only [Prod.mk.injEq] at kept
  obtain ⟨mode0, station0, defrost0, packing0, arrivals0, dose0, rxq0, now0, pending0, encoder0, faultIn0, peers0,
    timer0, aborted0, channels0⟩ := kept
  change FramesQueued _ (latched s) at frames
  generalize latched s = a at *
  have held : a.hasProfile = true := by
    unfold State.hasProfile at profile ⊢
    rw [station0]
    exact profile
  have role : a.unstoppable = s.unstoppable := by
    unfold State.unstoppable State.hasRole State.role State.items
    rw [station0]
  have record : ∀ ch, a.channelRecord ch = s.channelRecord ch := fun ch => by
    unfold State.channelRecord State.items
    rw [station0]
  have forming : a.formingNow = s.formingNow := (formingNow_blocksResponded (framesQueued_blocks frames)).trans rfl
  obtain ⟨mode, station, defrost, packing, arrivals, dose, rxq, now, pending, encoder, faultIn, peers, timer, aborts,
    channels⟩ := enterState_faulted_fields a held
  obtain ⟨idle, fault, noCycle⟩ := enterState_faulted_reasons a held
  obtain ⟨flow, drive, deferred, _, adds, same⟩ := enterState_faulted a held
  obtain ⟨walkOther, walkWalking⟩ := walkDiscarded_peer a
  have peerKept := (flowResponded_standing flow).2.trans (aborted_keeps (walkDiscarded a)).2.2.2.1
  generalize enterState .faulted a = t0 at *
  refine ⟨mode, faultIn.trans faultIn0, station.trans station0, drive, idle, fault, noCycle,
    fun h => deferred (role.trans h), defrost.trans (by rw [defrost0]), aborts.trans (by rw [defrost0, aborted0]),
    packing.trans (by rw [packing0]), fun h => ?_, fun h => ?_, peers.trans peers0, timer.trans timer0,
    arrivals.trans arrivals0, dose.trans dose0, (settle_rxq t0).trans (rxq.trans rxq0), now.trans now0,
    pending.trans pending0, encoder.trans encoder0, fun loud room none code hcode => ?_, fun none => ?_,
    fun zone r ends merge hz hf pos => ?_, fun ch hc => ?_⟩
  · obtain ⟨walk, neighbours⟩ := walkWalking (mode0.trans h)
    rw [settle_peer, peerKept]
    exact ⟨walk, neighbours⟩
  · obtain ⟨walk, neighbours⟩ := walkOther (by rw [mode0]; exact h)
    rw [settle_peer, peerKept, walk, neighbours, peer]
    exact ⟨rfl, rfl⟩
  · have spare : Spare true 1 { s with faultIn := true } :=
      spare_of_length (by show s.mode ≠ _; rcases from' with h | h | h | h | h <;> rw [h] <;> nofun) loud
        (Nat.add_le_add_right room 3 |>.trans (by omega))
    obtain ⟨carried, latchAdds⟩ := carries spare
    have room1 := (latchAdds 0 spare).1
    have posture : Adds true 0 a (closedAtFault a) := by
      rw [closedAtFault_none (forming.trans none)]
      have entered : Adds true 0 a { a with mode := .faulted } := .of_link rfl nofun
      exact entered.trans (changePosture_adds true _ _)
    have codes : stateCode s.mode = code := by
      rcases hcode with ⟨h, rfl⟩ | ⟨h, rfl⟩ | ⟨h, rfl⟩ | ⟨h, rfl⟩ | ⟨h, rfl⟩ <;> rw [h] <;> rfl
    have event := ((posture.trans adds) 0 room1).2 _ rfl carried
    rw [codes] at event
    exact carries_settle event
  · refine sameUnits_trans frames.2 (sameUnits_trans (sameUnits_trans ?_ same) (Zone.settle_sameUnits t0))
    rw [closedAtFault_none (forming.trans none)]
    exact (changePosture_blocks a.mode { a with mode := .faulted }).2.1
  · have zoned : SameUnits (zone ++ [r]) a.tracking.zone := by
      have e := frames.2
      rw [show ({ s with faultIn := true, station.faultLatch := true } : State).tracking.zone = zone ++ [r] from hz] at e
      exact e
    obtain ⟨zone', r', hz', hzone, hr⟩ := Zone.sameUnits_last zoned
    have head := Zone.withoutHandover_head hr
    have mergeNone : a.tracking.mergeBound = none := (framesQueued_mergeBound frames).trans merge
    have endsNow : endsFormation a.mode .faulted = true := by
      rw [mode0]
      rcases ends with h | h | h <;> rw [show ({ s with faultIn := true, station.faultLatch := true } : State).mode = _ from h] <;> rfl
    have loading : a.loading = s.loading := by
      unfold State.loading State.item State.items
      rw [station0]
    have closed := closedAtFault_zone endsNow mergeNone hz' ((Zone.withoutHandover_forming hr).trans hf) (by omega)
    have value : (closedAtFault a).tracking.zone
        = zone' ++ [{ r' with
            length := r.head, mass := min (roundDiv (r.head * s.loading) 256) 65535, forming := false }] := by
      rw [closed, loading, ← head]
    refine sameUnits_trans ?_ (sameUnits_trans same (Zone.settle_sameUnits t0))
    rw [value]
    exact Zone.sameUnits_concat hzone (Zone.withoutHandover_closed _ _ hr)
  · obtain ⟨forced, kept, started⟩ := changePosture_faulted (old := a.mode) (s := { a with mode := .faulted }) rfl ch hc
    have out := Limits.settle_out t0 ch hc
    rw [show ({ a with mode := .faulted } : State).channelRecord ch = s.channelRecord ch from record ch, ← channels]
      at forced kept started
    rw [channels0] at forced kept
    refine ⟨fun h => ?_, fun h notProfiled => ?_, fun h profiled => ?_⟩
    · have run : t0.channels.chans[ch].run = .forced := congrArg Channel.run (forced h)
      refine ⟨(congrArg Channel.run out).trans run, ?_⟩
      exact settle_stopped t0 ch hc (by rw [run]; nofun)
    · have live : liveState a.mode = true := by
        rw [mode0]
        rcases from' with h | h | h | h | h
        · exact absurd h notProfiled
        all_goals rw [show ({ s with faultIn := true, station.faultLatch := true } : State).mode = _ from h]; rfl
      rw [out, kept h live]
    · have dormant : liveState a.mode = false := by
        rw [mode0, show ({ s with faultIn := true, station.faultLatch := true } : State).mode = _ from profiled]
        rfl
      rw [out]
      exact started h dormant

end Sys2Proof.Faulting


/-! PROOFS. The channels and their bases as a station state leaves them (R156, R157, R171 to R173). -/

namespace Sys2Proof.Postures

open Sys2Proof Sys2Proof.Machine Sys2Proof.Safety Sys2Proof.Laws Sys2Proof.Rest Sys2Proof.Faulting Sys2Proof.Commands

/-! ### What the blocks' responses leave of the channels -/

/-- From `s` to `t` nothing of the channels changed but the one-shots of EVENT_PULSE channels. -/
def Pulsed (s t : State) : Prop :=
  t.station = s.station ∧ t.channels.tb0 = s.channels.tb0 ∧ t.channels.tb1 = s.channels.tb1
    ∧ t.channels.belt = s.channels.belt
    ∧ ∀ ch (h : ch < 6), (s.channelRecord ch).mode ≠ .eventPulse → t.channels.chans[ch] = s.channels.chans[ch]

theorem channelRecord_station {s t : State} (h : t.station = s.station) (ch : Nat) :
    t.channelRecord ch = s.channelRecord ch := by
  unfold State.channelRecord State.items
  rw [h]

theorem pulsed_of_channels {s t : State} (station : t.station = s.station) (channels : t.channels = s.channels) :
    Pulsed s t := by
  unfold Pulsed
  rw [channels]
  exact ⟨station, rfl, rfl, rfl, fun _ _ _ => rfl⟩

theorem pulsed_trans {s t u : State} (h : Pulsed s t) (h' : Pulsed t u) : Pulsed s u := by
  obtain ⟨station, tb0, tb1, belt, chans⟩ := h
  obtain ⟨station', tb0', tb1', belt', chans'⟩ := h'
  refine ⟨station'.trans station, tb0'.trans tb0, tb1'.trans tb1, belt'.trans belt, fun ch hc hm => ?_⟩
  rw [chans' ch hc (by rw [channelRecord_station station]; exact hm), chans ch hc hm]

theorem pulsed_refl (s : State) : Pulsed s s := pulsed_of_channels rfl rfl

theorem rested_channels {s t : State} (h : Rested s t) : t.channels = s.channels := by
  have e := congrArg State.channels h
  exact e

theorem rested_pulsed {s t : State} (h : Rested s t) : Pulsed s t :=
  pulsed_of_channels (rested_station h) (rested_channels h)

theorem giveEvent_pulsed (e : EventSource) (s : State) : Pulsed s (giveEvent e s) := by
  refine ⟨rfl, rfl, rfl, rfl, fun ch hc hm => ?_⟩
  have get := mapChannels_get (fun ch c =>
    if c.run = .running ∧ (s.channelRecord ch).mode = .eventPulse ∧ (s.channelRecord ch).source = sourceCode e then
      triggerChannel (s.channelRecord ch) c else c) s.channels.chans ch hc
  exact get.trans (if_neg fun h => hm h.2.1)

theorem requestStart_rested (i : LimiterId) (s : State) : Rested s (requestStart i s).1 := by
  have set : ∀ l, Rested s (setLimiter i l s) := fun l => by cases i <;> rfl
  unfold requestStart
  split
  · exact rested_refl s
  split
  · exact set _
  · next l _ _ _ =>
    have counted : Rested s (count .startDeferred (setLimiter i l s)) := by cases i <;> rfl
    exact rested_trans counted (framesQueued_rested (queueEvent_framesQueued _ _ _ _))

theorem startDueCycle_pulsed (s : State) : Pulsed s (startDueCycle s) := by
  unfold startDueCycle
  split
  · split
    · next k _ =>
      have started : Pulsed s { s with defrost.cycle := some ⟨k, s.now + s.defrostTime⟩ } := pulsed_of_channels rfl rfl
      exact pulsed_trans started (giveEvent_pulsed _ _)
    · exact pulsed_refl s
  · exact pulsed_refl s

theorem setReasons_rested (level : Bool) (s : State) : Rested s (setReasons level s) :=
  flowResponded_rested (setReasons_flow level s)

theorem queueStatus_rested (s : State) : Rested s (queueStatus s) := framesQueued_rested (queueStatus_framesQueued s)

theorem defrostTest_pulsed (s : State) : Pulsed s (defrostTest s) := by
  unfold defrostTest
  dsimp only
  split
  · exact startDueCycle_pulsed s
  · exact pulsed_trans (startDueCycle_pulsed s)
      (rested_pulsed (rested_trans (setReasons_rested _ _) (queueStatus_rested _)))

theorem doorTest_pulsed (s : State) : Pulsed s (doorTest s) := by
  have requested := rested_pulsed (requestStart_rested .door s)
  unfold doorTest
  split
  · split
    · next s1 h =>
      rw [h] at requested
      have opened : Pulsed s1 { s1 with packing.door := .opened (s1.now + s1.doorTime) } := pulsed_of_channels rfl rfl
      exact pulsed_trans requested (pulsed_trans opened (giveEvent_pulsed _ _))
    · next s1 h =>
      rw [h] at requested
      exact pulsed_trans requested (pulsed_of_channels rfl rfl)
  · exact pulsed_refl s

theorem withdrawDoor_pulsed (s : State) : Pulsed s (withdrawDoor s) := by
  unfold withdrawDoor
  split
  · exact pulsed_of_channels rfl rfl
  · exact pulsed_refl s

theorem abortDefrost_pulsed (s : State) : Pulsed s (abortDefrost s) := by
  unfold abortDefrost
  split
  · exact pulsed_of_channels rfl rfl
  · exact pulsed_refl s

theorem stateAborts_pulsed (s : State) : Pulsed s (stateAborts s) := by
  have door : ∀ u, Pulsed u (abortDoor u) := fun u =>
    pulsed_trans (withdrawDoor_pulsed u) (pulsed_of_channels rfl rfl)
  unfold stateAborts
  split
  · exact pulsed_trans (abortDefrost_pulsed s) (door _)
  · split
    · exact withdrawDoor_pulsed s
    · exact pulsed_refl s

theorem discardWalk_pulsed (old : StationState) (s : State) : Pulsed s (discardWalk old s) := by
  unfold discardWalk
  split
  · have walk : Pulsed s { s with peer.walk := none, peer.neighbours := ⟨0, 0, 0⟩ } := pulsed_of_channels rfl rfl
    exact pulsed_trans walk (rested_pulsed (setNeighbours_rested ⟨0, 0, 0⟩ { s with peer.walk := none }))
  · exact pulsed_refl s

/-- The responses to a station state that closes no segment. -/
theorem respondToState_pulsed {old : StationState} {s : State}
    (h : s.formingNow = false ∨ endsFormation old s.mode = false) : Pulsed s (respondToState old s) := by
  have unclosed : (if endsFormation old s.mode then closeForming enterRecord queueChanged id s else s) = s := by
    rcases h with h | h
    · split
      · exact closeForming_none _ _ _ h
      · rfl
    · exact if_neg (by rw [h]; exact Bool.false_ne_true)
  have flow : Pulsed (stateAborts (discardWalk old s)) (evaluateDrive (refreshReasons (stateAborts (discardWalk old s)))) :=
    rested_pulsed (rested_trans (setReasons_rested _ _) (flowResponded_rested (evaluateDrive_flow _)))
  unfold respondToState
  dsimp only
  rw [unclosed]
  exact pulsed_trans (discardWalk_pulsed old s) (pulsed_trans (stateAborts_pulsed _) (pulsed_trans flow
    (pulsed_trans (defrostTest_pulsed _) (pulsed_trans (doorTest_pulsed _) (rested_pulsed (queueStatus_rested _))))))

/-- In PROFILED and FAULTED the responses to a station state that closes no segment leave the channels. -/
theorem respondToState_still {old : StationState} {s : State}
    (h : s.formingNow = false ∨ endsFormation old s.mode = false) (defrost : defrostState s.mode = false)
    (door : doorState s.mode = false) : (respondToState old s).channels = s.channels := by
  have unclosed : (if endsFormation old s.mode then closeForming enterRecord queueChanged id s else s) = s := by
    rcases h with h | h
    · split
      · exact closeForming_none _ _ _ h
      · rfl
    · exact if_neg (by rw [h]; exact Bool.false_ne_true)
  have walk : (discardWalk old s).channels = s.channels ∧ (discardWalk old s).mode = s.mode := by
    unfold discardWalk
    split
    · have rested := setNeighbours_rested ⟨0, 0, 0⟩ { s with peer.walk := none }
      have e := rested_channels rested
      have e' := rested_mode rested
      exact ⟨e, e'⟩
    · exact ⟨rfl, rfl⟩
  have aborts : ∀ u : State, (stateAborts u).channels = u.channels ∧ (stateAborts u).mode = u.mode := fun u => by
    unfold stateAborts abortDoor withdrawDoor abortDefrost
    split
    · split <;> split <;> exact ⟨rfl, rfl⟩
    · split
      · split <;> exact ⟨rfl, rfl⟩
      · exact ⟨rfl, rfl⟩
  have flow : Rested (stateAborts (discardWalk old s)) (evaluateDrive (refreshReasons (stateAborts (discardWalk old s)))) :=
    rested_trans (setReasons_rested _ _) (flowResponded_rested (evaluateDrive_flow _))
  have mode := (rested_mode flow).trans ((aborts _).2.trans walk.2)
  have channels := rested_channels flow
  unfold respondToState
  dsimp only
  rw [unclosed, defrostTest_none (by rw [mode]; exact defrost), doorTest_none (by rw [mode]; exact door)]
  exact (rested_channels (queueStatus_rested _)).trans (channels.trans ((aborts _).1.trans walk.1))

/-! ### A fresh posture, once the command has ended -/

theorem freshPosture_eq (s : State) : freshPosture s = { s with channels := (freshPosture s).channels } := by
  unfold freshPosture
  split <;> rfl

theorem freshPosture_bases {s : State} (h : liveState s.mode = true) : BasesAtStart (freshPosture s) := by
  unfold freshPosture
  rw [if_pos h]
  exact ⟨rfl, rfl, rfl⟩

theorem basesAtStart_pulsed {s t : State} (h : Pulsed s t) (bases : BasesAtStart s) : BasesAtStart t := by
  obtain ⟨station, tb0, tb1, belt, _⟩ := h
  unfold BasesAtStart State.items at bases ⊢
  rw [tb0, tb1, belt, station]
  exact bases

theorem settle_bases {t : State} (h : BasesAtStart t) : BasesAtStart (settle t) := h

/-- A state entered with a fresh run, once its command has ended (R156, R157, R173). -/
theorem fresh_follows {s t : State} (live : liveState s.mode = true) (h : Pulsed (freshPosture s) t) :
    BasesAtStart (settle t)
      ∧ ∀ ch (hc : ch < 6), (s.channelRecord ch).mode ≠ .eventPulse →
          (s.mode = .faulted → (s.channelRecord ch).faultGoverned = true → (settle t).channels.chans[ch].run = .forced)
          ∧ (s.mode ≠ .faulted ∨ (s.channelRecord ch).faultGoverned = false →
              Started (s.channelRecord ch) (settle t).channels.chans[ch]) := by
  refine ⟨settle_bases (basesAtStart_pulsed h (freshPosture_bases live)), fun ch hc hm => ?_⟩
  have station : (freshPosture s).station = s.station := by
    have e := congrArg State.station (freshPosture_eq s)
    exact e
  have kept := h.2.2.2.2 ch hc (by rw [channelRecord_station station]; exact hm)
  rw [freshPosture_get s live ch hc] at kept
  rw [Limits.settle_out t ch hc, kept]
  refine ⟨fun mode governed => ?_, fun free => ?_⟩
  · rw [if_pos ⟨mode, governed⟩]
    rfl
  · rw [if_neg fun both => by
      rcases free with g | g
      · exact g both.1
      · exact Bool.false_ne_true (g.symm.trans both.2)]
    exact startChannel_started _ _

/-- A dormant posture, once its command has ended (R156). -/
theorem dormant_follows {s t : State} (dead : liveState s.mode = false) (h : t.channels = (freshPosture s).channels) :
    Dormant (settle t) := by
  have fresh : freshPosture s = { s with channels.tb0 := none, channels.tb1 := none, channels.belt := none }.mapChannels
      (fun _ c => { stoppedChannel with out := c.out }) := if_neg (by rw [dead]; exact Bool.false_ne_true)
  rw [fresh] at h
  refine ⟨fun ch hc => ?_, ?_, ?_, ?_⟩
  · have chan : t.channels.chans[ch] = { stoppedChannel with out := s.channels.chans[ch].out } := by
      rw [h]
      have get := mapChannels_get (fun _ c => ({ stoppedChannel with out := c.out } : Channel)) s.channels.chans ch hc
      exact get
    have out := Limits.settle_out t ch hc
    rw [settle_stopped t ch hc (by rw [chan]; nofun), chan] at out
    exact out
  · exact congrArg Channels.tb0 h
  · exact congrArg Channels.tb1 h
  · exact congrArg Channels.belt h

/-- The channels once a command has ended whose blocks only responded. -/
theorem pulsed_settle {s t : State} (h : Pulsed s t) :
    (settle t).channels.tb0 = s.channels.tb0 ∧ (settle t).channels.tb1 = s.channels.tb1
      ∧ (settle t).channels.belt = s.channels.belt
      ∧ ∀ ch (hc : ch < 6), (s.channelRecord ch).mode ≠ .eventPulse →
          (settle t).channels.chans[ch] = { s.channels.chans[ch] with out := (settle t).channels.chans[ch].out } := by
  obtain ⟨_, tb0, tb1, belt, chans⟩ := h
  refine ⟨tb0, tb1, belt, fun ch hc hm => ?_⟩
  have out := Limits.settle_out t ch hc
  rw [chans ch hc hm] at out
  exact out

/-! ### The commands -/

theorem taken_channels (f : Frame) (rest : List Frame) (s : State) : (taken f rest s).channels = s.channels := by
  obtain ⟨p, h⟩ := taken_eq f rest s
  rw [h]

theorem handed_pulsed (f : Frame) (rest : List Frame) (s : State) : Pulsed s (handed f rest s) := by
  have first : Pulsed s (taken f rest s) := pulsed_of_channels (Changes.taken_station f rest s) (taken_channels f rest s)
  exact pulsed_trans first (rested_pulsed (handDownstream_rested _ _))

theorem exec_run {f : Frame} {rest : List Frame} {s : State} (ho : Oldest .run f rest s) (ha : Admitted f s) :
    exec .run s = done (enterState .running (handed f rest s)) :=
  takeCommand_admitted (k := .run) rfl ho ha

/-- RUN leaves every channel. -/
theorem run_pulsed {s : State} (h : s.mode = .ready ∨ s.mode = .draining) : Pulsed s (enterState .running s) := by
  have posture : changePosture s.mode { s with mode := .running } = { s with mode := .running } := by
    unfold changePosture
    rcases h with h | h <;> rw [h] <;> rfl
  have responds := respondToState_pulsed (old := s.mode) (s := { s with mode := .running })
    (.inr (by rcases h with h | h <;> rw [h] <;> rfl))
  unfold enterState
  rw [posture]
  exact responds

/-- The channels at a FAULT_CLEAR into READY. -/
theorem changePosture_cleared {s : State} (ready : s.mode = .ready) :
    BasesAtStart (changePosture .faulted s) ∧ (changePosture .faulted s).station = s.station
      ∧ ∀ ch (hc : ch < 6),
          ((s.channelRecord ch).faultGoverned = true →
            Started (s.channelRecord ch) (changePosture .faulted s).channels.chans[ch])
          ∧ ((s.channelRecord ch).faultGoverned = false → s.channels.chans[ch].run = .running →
            (changePosture .faulted s).channels.chans[ch]
              = channelTakes (s.channelRecord ch) 0 false s.channels.chans[ch]) := by
  have eq : changePosture .faulted s
      = (startBases s).mapChannels fun ch c =>
        if (s.channelRecord ch).faultGoverned then startChannel (s.channelRecord ch) c
        else if c.run = .running then channelTakes (s.channelRecord ch) 0 false c
        else c := by
    unfold changePosture
    rw [ready]
    rfl
  rw [eq]
  refine ⟨⟨rfl, rfl, rfl⟩, rfl, fun ch hc => ?_⟩
  have get := mapChannels_get (fun ch c =>
    if (s.channelRecord ch).faultGoverned then startChannel (s.channelRecord ch) c
    else if c.run = .running then channelTakes (s.channelRecord ch) 0 false c
    else c) s.channels.chans ch hc
  refine ⟨fun h => ?_, fun h run => ?_⟩
  · refine Eq.mpr (congrArg (Started (s.channelRecord ch)) (get.trans (if_pos h))) ?_
    exact startChannel_started _ _
  · exact get.trans ((if_neg (by rw [h]; exact Bool.false_ne_true)).trans (if_pos run))

theorem enterState_mode {new : StationState} {s : State} (h : endsFormation s.mode new = false) (hf : new ≠ .faulted) :
    (enterState new s).mode = new := blocksResponded_mode (enterState_unended new hf h)

/-- Entry to READY from FAULTED, once the command has ended (R171). -/
theorem ready_channels {s : State} (faulted : s.mode = .faulted) :
    BasesAtStart (settle (enterState .ready s))
      ∧ ∀ ch (hc : ch < 6), (s.channelRecord ch).mode ≠ .eventPulse →
          ((s.channelRecord ch).faultGoverned = true →
            Started (s.channelRecord ch) (settle (enterState .ready s)).channels.chans[ch])
          ∧ ((s.channelRecord ch).faultGoverned = false → s.channels.chans[ch].run = .running →
            (settle (enterState .ready s)).channels.chans[ch]
              = { channelTakes (s.channelRecord ch) 0 false s.channels.chans[ch] with
                  out := (settle (enterState .ready s)).channels.chans[ch].out }) := by
  obtain ⟨bases, station, chans⟩ := changePosture_cleared (s := { s with mode := .ready }) rfl
  have whole : enterState .ready s
      = respondToState .faulted (changePosture .faulted { s with mode := .ready }) := by
    unfold enterState
    rw [faulted]
  rw [whole]
  have responds := respondToState_pulsed (old := .faulted) (s := changePosture .faulted { s with mode := .ready })
    (.inr rfl)
  generalize changePosture .faulted { s with mode := .ready } = c at bases station chans responds ⊢
  generalize respondToState .faulted c = w at responds ⊢
  have record : ∀ ch, c.channelRecord ch = s.channelRecord ch := channelRecord_station station
  refine ⟨settle_bases (basesAtStart_pulsed responds bases), fun ch hc hm => ?_⟩
  obtain ⟨started, takes⟩ := chans ch hc
  have out := (pulsed_settle responds).2.2.2 ch hc (by rw [record]; exact hm)
  refine ⟨fun h => ?_, fun h run => ?_⟩
  · rw [out]
    exact started h
  · rw [takes h run] at out
    exact out

/-- Entry to PROFILED from FAULTED, once the command has ended (R156). -/
theorem profiled_channels {s : State} (faulted : s.mode = .faulted) : Dormant (settle (enterState .profiled s)) := by
  refine dormant_follows (s := { s with mode := .profiled }) rfl ?_
  have posture : changePosture .faulted { s with mode := .profiled } = freshPosture { s with mode := .profiled } := rfl
  have fresh : (freshPosture { s with mode := .profiled }).mode = .profiled := by
    have e := congrArg State.mode (freshPosture_eq { s with mode := .profiled })
    exact e
  unfold enterState
  rw [faulted, posture]
  exact respondToState_still (.inr rfl) (by rw [fresh]; rfl) (by rw [fresh]; rfl)

/-- FAULT_CLEAR enters READY or PROFILED with the latch clear (R13). -/
theorem clearFault_cases (f : Frame) {s : State} (faulted : s.mode = .faulted) (inactive : s.faultIn = false) :
    (clearFault f s = enterState .ready { s with station.faultLatch := false }
        ∧ (settle (clearFault f s)).mode = .ready)
      ∨ (clearFault f s = enterState .profiled { s with station.faultLatch := false }
        ∧ (settle (clearFault f s)).mode = .profiled) := by
  have clears : clearFault f s = enterState (restState s) { s with station.faultLatch := false } :=
    if_neg (by rw [inactive]; exact Bool.false_ne_true)
  have unended : ∀ new, endsFormation ({ s with station.faultLatch := false } : State).mode new = false := fun new => by
    show endsFormation s.mode new = false
    rw [faulted]
    rfl
  rw [clears, settle_mode]
  rcases restState_cases s with rest | rest
  · rw [rest]
    exact .inl ⟨rfl, enterState_mode (unended _) nofun⟩
  · rw [rest]
    exact .inr ⟨rfl, enterState_mode (unended _) nofun⟩

end Sys2Proof.Postures


/-! PROOFS. The transmit queue of a line restart (R45): the frame in transmission stays, severed, and what joins it is a
STATUS, a HOLD or an EVENT. -/

namespace Sys2Proof.Restarting

open Sys2Proof Sys2Proof.Machine Sys2Proof.Safety Sys2Proof.Laws

/-- The kinds of the frames that a restart queues. -/
def Told (k : Kind) : Prop := k = .status ∨ k = .hold ∨ k = .event

/-- The transmit queue during a restart that found `sent` in transmission. -/
structure Tidy (sent : List TxEntry) (q : List TxEntry) : Prop where
  stays : ∀ e ∈ sent, e ∈ q
  sending : ∀ e ∈ q, e.sending = true → e ∈ sent
  waiting : ∀ e ∈ q, e.sending = false → Told e.frame.kind ∧ e.attempts = 0 ∧ e.severed = false

variable {sent : List TxEntry}

/-- A station during a restart: no record, and a tidy transmit queue. -/
def Restarts (sent : List TxEntry) (s : State) : Prop := s.tracking.zone = [] ∧ Tidy sent s.link.txq

theorem restarts_of {s t : State} (h : Restarts sent s) (zone : t.tracking.zone = s.tracking.zone)
    (link : t.link.txq = s.link.txq) : Restarts sent t := by
  unfold Restarts
  rw [zone, link]
  exact h

/-! ### Frames -/

theorem tidy_insert {q : List TxEntry} {f : Frame} (h : Tidy sent q) (hf : Told f.kind) :
    Tidy sent (insertEntry ⟨f, 0, false, false⟩ q) where
  stays e he := Changes.mem_insertEntry.2 (.inr (h.stays e he))
  sending e he hs := by
    rcases Changes.mem_insertEntry.1 he with rfl | he
    · nomatch hs
    · exact h.sending e he hs
  waiting e he hw := by
    rcases Changes.mem_insertEntry.1 he with rfl | he
    · exact ⟨hf, rfl, rfl⟩
    · exact h.waiting e he hw

theorem tidy_replace {q : List TxEntry} {f : Frame} (h : Tidy sent q) (all : ∀ e ∈ sent, e.sending = true)
    (hf : Told f.kind) : Tidy sent (replaceWaiting f q) where
  stays e he := List.mem_map.2 ⟨e, h.stays e he, if_neg fun g => by rw [all e he] at g; nomatch g.2⟩
  sending e he hs := by
    obtain ⟨x, hx, rfl⟩ := List.mem_map.1 he
    split at hs
    · next g => exact absurd (g.2.symm.trans hs) nofun
    · next g =>
      rw [if_neg g]
      exact h.sending x hx hs
  waiting e he hw := by
    obtain ⟨x, hx, rfl⟩ := List.mem_map.1 he
    split
    · next g => exact ⟨hf, (h.waiting x hx g.2).2⟩
    · next g =>
      rw [if_neg g] at hw
      exact h.waiting x hx hw

theorem mem_dropLastWaiting {q : List TxEntry} {e : TxEntry} (he : e ∈ q) (hs : e.sending = true) :
    e ∈ dropLastWaiting q := by
  unfold dropLastWaiting
  rw [List.mem_reverse]
  exact (List.mem_eraseP_of_neg (by simp [hs])).2 (List.mem_reverse.2 he)

theorem tidy_drop {q : List TxEntry} (h : Tidy sent q) (all : ∀ e ∈ sent, e.sending = true) :
    Tidy sent (dropLastWaiting q) where
  stays e he := mem_dropLastWaiting (h.stays e he) (all e he)
  sending e he hs := h.sending e ((Changes.dropLastWaiting_sublist q).subset he) hs
  waiting e he hw := h.waiting e ((Changes.dropLastWaiting_sublist q).subset he) hw

/-- With no record a lost OFFER writes nothing. -/
theorem settleLoss_empty {s : State} (h : s.tracking.zone = []) (n : Nat) (e : TxEntry) : settleLoss n e s = s := by
  cases n with
  | zero => rfl
  | succ n =>
    unfold settleLoss
    split
    · rfl
    · have none : s.findRecord (imageOf e.frame.payload).tag = none := by
        unfold State.findRecord
        rw [h]
        rfl
      dsimp only
      rw [none]

theorem queueFrame_empty {s : State} (h : s.tracking.zone = []) (f : Frame) : queueFrame f s = (enqueue f s).1 := by
  have zone : (enqueue f s).1.tracking.zone = [] := by
    rcases Changes.enqueue_cases f s with ⟨he, _⟩ | ⟨_, ⟨_, he⟩ | ⟨_, he⟩ | ⟨e, _, _, _, he⟩ | ⟨_, he⟩⟩ <;> rw [he] <;>
      exact h
  unfold queueFrame
  split
  · next he => rw [he]
  · next s1 e he =>
    rw [he] at zone ⊢
    exact settleLoss_empty zone 4 e

/-- A STATUS, a HOLD or an EVENT joins a tidy queue. -/
theorem queueFrame_restarts (all : ∀ e ∈ sent, e.sending = true) {f : Frame} (hf : Told f.kind) {s : State}
    (h : Restarts sent s) : Restarts sent (queueFrame f s) := by
  obtain ⟨zone, tidy⟩ := h
  rw [queueFrame_empty zone]
  rcases Changes.enqueue_cases f s with ⟨he, _⟩ | ⟨_, ⟨_, he⟩ | ⟨_, he⟩ | ⟨e, _, _, _, he⟩ | ⟨_, he⟩⟩ <;> rw [he]
  · exact ⟨zone, tidy⟩
  · exact ⟨zone, tidy_replace tidy all hf⟩
  · exact ⟨zone, tidy_insert tidy hf⟩
  · exact ⟨zone, tidy_insert (tidy_drop tidy all) hf⟩
  · exact ⟨zone, tidy⟩

/-! ### The blocks' operations -/

section Unsent

variable {s : State} (h : Restarts sent s)

include h

theorem setLimiter_restarts (i : LimiterId) (l : Limiter) : Restarts sent (setLimiter i l s) := by
  cases i <;> exact restarts_of h rfl rfl

theorem driveOff_restarts : Restarts sent (driveOff s) := by
  unfold driveOff
  split
  · exact restarts_of h rfl rfl
  · exact h

theorem revive_empty : revive s = s := by
  unfold revive
  split
  · rfl
  · rw [h.1]
    rfl

theorem withdrawDoor_restarts : Restarts sent (withdrawDoor s) := by
  unfold withdrawDoor
  split
  · exact restarts_of h rfl rfl
  · exact h

theorem aborted_restarts : Restarts sent (Faulting.aborted s) := by
  obtain ⟨_, _, link, _, tracking, _⟩ := Faulting.aborted_keeps s
  exact restarts_of h (by rw [tracking]) (by rw [link])

theorem startDueCycle_restarts : Restarts sent (startDueCycle s) := by
  unfold startDueCycle
  split
  · split
    · exact restarts_of h rfl rfl
    · exact h
  · exact h

end Unsent

section Operations

variable (all : ∀ e ∈ sent, e.sending = true) {s : State} (h : Restarts sent s)

include all h

theorem queueStatus_restarts : Restarts sent (queueStatus s) := queueFrame_restarts all (.inl rfl) h

theorem queueHold_restarts : Restarts sent (queueHold s) := by
  unfold queueHold
  split
  · exact h
  · exact queueFrame_restarts all (.inr (.inl rfl)) h

theorem queueEvent_restarts (n : EventName) (d t : Nat) : Restarts sent (queueEvent n d t s) :=
  queueFrame_restarts all (.inr (.inr rfl)) h

theorem setReasons_restarts (level : Bool) : Restarts sent (setReasons level s) := by
  unfold setReasons
  dsimp only
  split
  · exact h
  · exact queueHold_restarts all (queueStatus_restarts all (restarts_of h rfl rfl))

theorem requestStart_restarts (i : LimiterId) : Restarts sent (requestStart i s).1 := by
  unfold requestStart
  split
  · exact h
  split
  · exact setLimiter_restarts h i _
  · next l failing length _ =>
    have counted : Restarts sent (count .startDeferred (setLimiter i l s)) :=
      restarts_of (setLimiter_restarts h i l) rfl rfl
    exact queueEvent_restarts all counted _ _ _

theorem evaluateDrive_restarts : Restarts sent (evaluateDrive s) := by
  have off : Restarts sent (driveOff (withdrawStart .drive s)) :=
    driveOff_restarts (setLimiter_restarts h .drive _)
  have on : ∀ {u}, Restarts sent u → Restarts sent (driveOn u) := fun hu => restarts_of hu rfl rfl
  unfold evaluateDrive
  split
  · exact h
  split
  · split
    · exact on h
    · exact driveOff_restarts h
  split
  · exact on h
  split
  · split
    · exact off
    split
    · exact h
    have asked := requestStart_restarts all h .drive
    split
    · next s1 hr => rw [hr] at asked; exact on asked
    · next s1 hr => rw [hr] at asked; exact asked
  · exact off

theorem evaluateChain_restarts : Restarts sent (evaluateChain s) := by
  unfold evaluateChain
  split
  · exact h
  dsimp only
  split
  · exact h
  · refine queueStatus_restarts all ?_
    split
    · unfold startGapRun
      split <;> exact restarts_of h rfl rfl
    · exact restarts_of h rfl rfl

theorem handDownstream_restarts (before : Option PeerEntry) : Restarts sent (handDownstream before s) := by
  have drive := evaluateDrive_restarts all h
  unfold handDownstream
  split
  · next b a _ =>
    have told : Restarts sent (if b.holding = a.holding ∧ b.stale = a.stale then s else evaluateDrive s) := by
      split
      · exact h
      · exact drive
    dsimp only
    split
    · rw [revive_empty told]
      exact told
    · exact told
  · exact h
  · exact drive
  · exact drive

theorem setNeighbours_restarts (n : Neighbours) : Restarts sent (setNeighbours n s) := by
  have told : Restarts sent
      (if n.upstream = s.peer.neighbours.upstream ∧ n.downstream = s.peer.neighbours.downstream then
        { s with peer.neighbours := n } else queueStatus { s with peer.neighbours := n }) := by
    split
    · exact restarts_of h rfl rfl
    · exact queueStatus_restarts all (restarts_of h rfl rfl)
  unfold setNeighbours
  dsimp only
  generalize (if n.upstream = s.peer.neighbours.upstream ∧ n.downstream = s.peer.neighbours.downstream then
    { s with peer.neighbours := n } else queueStatus { s with peer.neighbours := n }) = u at told ⊢
  have handed : Restarts sent (if n.downstream = s.peer.neighbours.downstream then u
      else handDownstream s.downstreamEntry (evaluateChain u)) := by
    split
    · exact told
    · exact handDownstream_restarts all (evaluateChain_restarts all told) _
  split
  · exact handed
  · exact queueHold_restarts all handed

theorem defrostTest_restarts : Restarts sent (defrostTest s) := by
  have started := startDueCycle_restarts h
  unfold defrostTest
  dsimp only
  split
  · exact started
  · exact queueStatus_restarts all (setReasons_restarts all started _)

theorem doorTest_restarts : Restarts sent (doorTest s) := by
  have asked := requestStart_restarts all h .door
  unfold doorTest
  split
  · split
    · next s1 hr => rw [hr] at asked; exact restarts_of asked rfl rfl
    · next s1 hr => rw [hr] at asked; exact restarts_of asked rfl rfl
  · exact h

/-- The responses to a station state, with nothing to close. -/
theorem respondToState_restarts (none : s.tracking.mergeBound = none) (old : StationState) :
    Restarts sent (respondToState old s) := by
  have unclosed : (if endsFormation old s.mode then closeForming enterRecord queueChanged id s else s) = s := by
    split
    · refine closeForming_none _ _ _ ?_
      unfold State.formingNow
      rw [none, h.1]
      rfl
    · rfl
  have walk : Restarts sent (discardWalk old s) := by
    unfold discardWalk
    split
    · have walk : Restarts sent { s with peer.walk := Option.none } := restarts_of h rfl rfl
      exact setNeighbours_restarts all walk _
    · exact h
  have aborts : Restarts sent (stateAborts (discardWalk old s)) := by
    unfold stateAborts
    split
    · exact aborted_restarts walk
    · split
      · exact withdrawDoor_restarts walk
      · exact walk
  unfold respondToState
  dsimp only
  rw [unclosed]
  exact queueStatus_restarts all (doorTest_restarts all (defrostTest_restarts all
    (evaluateDrive_restarts all (setReasons_restarts all aborts _))))

theorem carriersReported_restarts (l : List DoorEntry) :
    Restarts sent (l.foldl (fun s c => queueEvent .carrierStored c.number (256 + c.disposition) s) s) := by
  induction l generalizing s with
  | nil => exact h
  | cons x l ih => exact ih (queueEvent_restarts all h _ _ _)

theorem discardCarriers_restarts (c : Option Carrier) (l : List DoorEntry) : Restarts sent (discardCarriers c l s) := by
  cases c with
  | none => exact carriersReported_restarts all h l
  | some c => exact carriersReported_restarts all (queueEvent_restarts all h _ _ _) l

theorem restartLatch_restarts : Restarts sent (restartLatch s) := by
  unfold restartLatch
  split
  · split
    · exact h
    · have latched : Restarts sent { s with station.faultLatch := true } := restarts_of h rfl rfl
      exact queueEvent_restarts all latched _ _ _
  · exact restarts_of h rfl rfl

end Operations

end Sys2Proof.Restarting


/-! PROOFS. RESTART (R14): what a line restart clears, withdraws and keeps. -/

namespace Sys2Proof.Restarting

open Sys2Proof Sys2Proof.Machine Sys2Proof.Safety Sys2Proof.Laws Sys2Proof.Commands

/-! ### What the blocks write once they are cleared -/

/-- `s`, with all that a restart's blocks may write after their lists are empty as `t` has it. -/
def withAfresh (s t : State) : State :=
  { s with
    link.txq := t.link.txq
    counters := t.counters
    tracking.zone := t.tracking.zone
    flow.reasons := t.flow.reasons
    flow.drive := t.flow.drive
    flow.driveLimiter := t.flow.driveLimiter
    flow.gapRun := t.flow.gapRun
    peer.chainLoad := t.peer.chainLoad
    peer.chainDefrost := t.peer.chainDefrost
    defrost.cycle := t.defrost.cycle
    channels := t.channels }

def Afresh (s t : State) : Prop := t = withAfresh s t

theorem afresh_refl (s : State) : Afresh s s := rfl

theorem afresh_trans {s t u : State} (h : Afresh s t) (h' : Afresh t u) : Afresh s u := by
  have e := congrArg (withAfresh · u) h
  exact h'.trans e

theorem afresh_of_eq {s t w : State} (h : t = w) (fix : withAfresh s w = w) : Afresh s t := by
  subst h
  exact fix.symm

theorem framesQueued_afresh {s t : State} (h : FramesQueued s t) : Afresh s t := afresh_of_eq h.1 rfl

theorem flowResponded_afresh {s t : State} (h : FlowResponded s t) : Afresh s t := afresh_of_eq h.1 rfl

theorem evaluateChain_afresh (s : State) : Afresh s (evaluateChain s) :=
  afresh_of_eq (Sampling.evaluateChain_sends s) rfl

theorem freshPosture_afresh (s : State) : Afresh s (freshPosture s) := afresh_of_eq (Postures.freshPosture_eq s) rfl

theorem afresh_mode {s t : State} (h : Afresh s t) : t.mode = s.mode := by
  have e := congrArg State.mode h
  exact e

theorem afresh_station {s t : State} (h : Afresh s t) : t.station = s.station := by
  have e := congrArg State.station h
  exact e

theorem afresh_packing {s t : State} (h : Afresh s t) : t.packing = s.packing := by
  have e := congrArg State.packing h
  exact e

theorem afresh_hasProfile {s t : State} (h : Afresh s t) : t.hasProfile = s.hasProfile := by
  unfold State.hasProfile
  rw [afresh_station h]

theorem handDownstream_flowResponded (before : Option PeerEntry) (s : State) :
    FlowResponded s (handDownstream before s) := by
  unfold handDownstream
  split
  · next b a _ =>
    have drive : FlowResponded s (if b.holding = a.holding ∧ b.stale = a.stale then s else evaluateDrive s) := by
      split
      · exact flowResponded_refl s
      · exact evaluateDrive_flow s
    dsimp only
    split
    · exact flowResponded_trans drive (framesQueued_flowResponded (revive_framesQueued _))
    · exact drive
  · exact flowResponded_refl s
  · exact evaluateDrive_flow s
  · exact evaluateDrive_flow s

theorem setNeighbours_afresh (n : Neighbours) (s : State) :
    Afresh { s with peer.neighbours := n } (setNeighbours n s) := by
  have told : Afresh { s with peer.neighbours := n }
      (if n.upstream = s.peer.neighbours.upstream ∧ n.downstream = s.peer.neighbours.downstream then
        { s with peer.neighbours := n } else queueStatus { s with peer.neighbours := n }) := by
    split
    · exact afresh_refl _
    · exact framesQueued_afresh (queueStatus_framesQueued _)
  unfold setNeighbours
  dsimp only
  generalize (if n.upstream = s.peer.neighbours.upstream ∧ n.downstream = s.peer.neighbours.downstream then
    { s with peer.neighbours := n } else queueStatus { s with peer.neighbours := n }) = u at told ⊢
  have handed : Afresh { s with peer.neighbours := n }
      (if n.downstream = s.peer.neighbours.downstream then u
        else handDownstream s.downstreamEntry (evaluateChain u)) := by
    split
    · exact told
    · exact afresh_trans told (afresh_trans (evaluateChain_afresh u)
        (flowResponded_afresh (handDownstream_flowResponded _ _)))
  split
  · exact handed
  · exact afresh_trans handed (framesQueued_afresh (queueHold_framesQueued _))

theorem startDueCycle_afresh (s : State) : Afresh s (startDueCycle s) := by
  unfold startDueCycle
  split
  · split <;> rfl
  · rfl

theorem defrostTest_afresh (s : State) : Afresh s (defrostTest s) := by
  unfold defrostTest
  dsimp only
  split
  · exact startDueCycle_afresh s
  · exact afresh_trans (startDueCycle_afresh s)
      (afresh_trans (flowResponded_afresh (setReasons_flow _ _)) (framesQueued_afresh (queueStatus_framesQueued _)))

/-- With no carrier at the door nothing asks for it. -/
theorem doorTest_empty {s : State} (h : s.packing.doorList = []) : doorTest s = s := by
  unfold doorTest
  rw [if_neg (by rw [h]; simp)]

/-- The aborts of a station whose door cycle is over. -/
theorem stateAborts_afresh {s : State} (h : s.packing.door = .idle) : Afresh s (stateAborts s) := by
  have idle : ∀ u : State, u.packing.door = .idle → withdrawDoor u = u := fun u hu => if_neg (by rw [hu]; nofun)
  have aborted : Afresh s (abortDefrost s) := by
    unfold abortDefrost
    split <;> rfl
  have kept : (abortDefrost s).packing.door = .idle := by rw [afresh_packing aborted]; exact h
  unfold stateAborts
  split
  · refine afresh_trans aborted (afresh_of_eq (w := abortDefrost s) ?_ rfl)
    unfold abortDoor
    rw [idle _ kept]
    generalize abortDefrost s = u at kept ⊢
    rw [← kept]
  · split
    · rw [idle s h]
      exact afresh_refl s
    · exact afresh_refl s

/-- The record that the entered state leaves: FAULTED from WALKING empties it. -/
def restartNeighbours (old : StationState) (s : State) : Neighbours :=
  if old = .walking ∧ s.mode = .faulted then ⟨0, 0, 0⟩ else s.peer.neighbours

/-- The responses of a station with nothing to close, to discard and to store. -/
theorem respondToState_afresh {old : StationState} {s : State} (none : s.formingNow = false)
    (walk : s.peer.walk = Option.none) (door : s.packing.door = .idle) (list : s.packing.doorList = []) :
    Afresh { s with peer.neighbours := restartNeighbours old s } (respondToState old s) := by
  have unclosed : (if endsFormation old s.mode then closeForming enterRecord queueChanged id s else s) = s := by
    split
    · exact closeForming_none _ _ _ none
    · rfl
  have discarded : Afresh { s with peer.neighbours := restartNeighbours old s } (discardWalk old s) := by
    unfold discardWalk restartNeighbours
    split
    · have same : { s with peer.walk := Option.none } = s := by rw [← walk]
      rw [same]
      exact setNeighbours_afresh _ s
    · exact afresh_refl s
  have aborted := afresh_trans discarded (stateAborts_afresh (by rw [afresh_packing discarded]; exact door))
  have tested := afresh_trans aborted (afresh_trans (flowResponded_afresh (setReasons_flow
    (stateAborts (discardWalk old s)).flow.reasons.level _)) (afresh_trans
      (flowResponded_afresh (evaluateDrive_flow _)) (defrostTest_afresh _)))
  unfold respondToState
  dsimp only
  rw [unclosed]
  have packs : (defrostTest (evaluateDrive (refreshReasons (stateAborts (discardWalk old s))))).packing = s.packing := by
    have e := afresh_packing tested
    exact e
  rw [doorTest_empty (by rw [packs]; exact list)]
  exact afresh_trans tested (framesQueued_afresh (queueStatus_framesQueued _))

/-! ### The drive and its limiter (R129, R143) -/

theorem setReasons_flow_eq (level : Bool) (s : State) :
    (setReasons level s).flow = { s.flow with reasons := s.reasonsInForce level } := by
  unfold setReasons
  dsimp only
  split
  · next same => rw [same]
  · rw [framesQueued_flow (queueHold_framesQueued _), framesQueued_flow (queueStatus_framesQueued _)]

/-- The start test writes the reasons alone of the flow unit. -/
theorem defrostTest_flow_eq (s : State) :
    (defrostTest s).flow = { s.flow with reasons := (defrostTest s).flow.reasons } := by
  unfold defrostTest
  dsimp only
  split
  · rw [startDueCycle_flow]
  · rw [framesQueued_flow (queueStatus_framesQueued _), refreshReasons, setReasons_flow_eq, startDueCycle_flow]

/-- What a restart says of the drive and its limiter, from what it was. -/
structure Halted (s t : State) : Prop where
  drive : t.flow.drive = false
  history : t.flow.driveLimiter.history = s.flow.driveLimiter.history
  deferred : s.unstoppable = false → t.flow.driveLimiter.deferred = none
  gapRun : t.flow.gapRun = s.flow.gapRun

/-- Where chain_defrost does not rise, no gap run starts. -/
theorem evaluateChain_gapRun {s : State} (h : s.peer.chainDefrost = true ∨ chainDefrostNow s = false) :
    (evaluateChain s).flow = s.flow := by
  have still : (chainDefrostNow s && !s.peer.chainDefrost) = false := by
    rcases h with h | h <;> rw [h]
    · exact Bool.and_false _
    · rfl
  unfold evaluateChain
  split
  · rfl
  dsimp only
  split
  · rfl
  · rw [framesQueued_flow (queueStatus_framesQueued _), still, if_neg Bool.false_ne_true]

theorem evaluateChain_chainDefrost {s : State} (profile : s.hasProfile = true) :
    (evaluateChain s).peer.chainDefrost = chainDefrostNow s := by
  unfold evaluateChain
  rw [if_neg (by rw [profile]; exact Bool.false_ne_true)]
  dsimp only
  split
  · next h => exact h.2.symm
  · have e := fun u => congrArg State.peer (Sampling.queueStatus_sends u)
    refine (congrArg PeerView.chainDefrost (e _)).trans ?_
    unfold startGapRun
    split
    · split <;> rfl
    · rfl

/-- At rest the drive is off, and its limiter keeps its history. -/
theorem halted_of_rest {s t : State} (profile : s.hasProfile = true) (rest : beltState s.mode = false)
    (flow : t.flow = { (evaluateDrive s).flow with reasons := t.flow.reasons }) : Halted s t := by
  obtain ⟨drive, deferred, _, history⟩ := evaluateDrive_rest profile rest
  have gap : (evaluateDrive s).flow.gapRun = s.flow.gapRun := by
    have e := congrArg (fun v : State => v.flow.gapRun) (evaluateDrive_flow s).1
    exact e
  exact ⟨by rw [flow]; exact drive, by rw [flow]; exact history, fun h => by rw [flow]; exact deferred h,
    by rw [flow]; exact gap⟩

/-- A walk discarded on the way into FAULTED keeps the limiter's history and the gap run. -/
theorem setNeighbours_limits {s : State} (profile : s.hasProfile = true) (rest : beltState s.mode = false)
    (chain : s.peer.chainDefrost = s.defrost.want) :
    (setNeighbours ⟨0, 0, 0⟩ s).flow.driveLimiter.history = s.flow.driveLimiter.history
      ∧ (setNeighbours ⟨0, 0, 0⟩ s).flow.gapRun = s.flow.gapRun := by
  have handed : ∀ u : State, Afresh { s with peer.neighbours := ⟨0, 0, 0⟩ } u → u.flow = s.flow →
      u.peer.chainDefrost = s.peer.chainDefrost →
      (handDownstream s.downstreamEntry (evaluateChain u)).flow.driveLimiter.history = s.flow.driveLimiter.history
        ∧ (handDownstream s.downstreamEntry (evaluateChain u)).flow.gapRun = s.flow.gapRun := fun u fresh flow flag => by
    have gone : u.downstream = 0 := by
      have e := congrArg State.downstream fresh
      exact e
    have want : u.defrost.want = s.defrost.want := by
      have e := congrArg (fun v : State => v.defrost.want) fresh
      exact e
    have now : chainDefrostNow u = s.defrost.want := by
      unfold chainDefrostNow State.downstreamEntry
      rw [if_pos gone, want]
      exact Bool.or_false _
    have kept := evaluateChain_gapRun (s := u) (by
      rw [now, flag, chain]
      cases s.defrost.want <;> simp)
    have whole := afresh_trans fresh (evaluateChain_afresh u)
    have mode : (evaluateChain u).mode = s.mode := by
      have e := afresh_mode whole
      exact e
    have held : (evaluateChain u).hasProfile = true := by
      have e := afresh_hasProfile whole
      exact e.trans profile
    have none : (evaluateChain u).downstreamEntry = Option.none := by
      have e := congrArg State.downstream (evaluateChain_afresh u)
      unfold State.downstreamEntry
      exact if_pos (Eq.trans (b := u.downstream) e gone)
    have drive := evaluateDrive_rest held (by rw [mode]; exact rest)
    have gap : (evaluateDrive (evaluateChain u)).flow.gapRun = (evaluateChain u).flow.gapRun := by
      have e := congrArg (fun v : State => v.flow.gapRun) (evaluateDrive_flow (evaluateChain u)).1
      exact e
    have off : (evaluateDrive (evaluateChain u)).flow.driveLimiter.history = s.flow.driveLimiter.history
        ∧ (evaluateDrive (evaluateChain u)).flow.gapRun = s.flow.gapRun := by
      rw [drive.2.2.2, gap, kept, flow]
      exact ⟨rfl, rfl⟩
    unfold handDownstream
    rw [none]
    split
    · next h => nomatch h
    · rw [kept, flow]
      exact ⟨rfl, rfl⟩
    · exact off
    · exact off
  have told : ∀ c : Prop, [Decidable c] →
      Afresh { s with peer.neighbours := ⟨0, 0, 0⟩ }
          (if c then { s with peer.neighbours := ⟨0, 0, 0⟩ } else queueStatus { s with peer.neighbours := ⟨0, 0, 0⟩ })
        ∧ (if c then { s with peer.neighbours := ⟨0, 0, 0⟩ }
          else queueStatus { s with peer.neighbours := ⟨0, 0, 0⟩ }).flow = s.flow
        ∧ (if c then { s with peer.neighbours := ⟨0, 0, 0⟩ }
          else queueStatus { s with peer.neighbours := ⟨0, 0, 0⟩ }).peer.chainDefrost = s.peer.chainDefrost :=
    fun c _ => by
    split
    · exact ⟨afresh_refl _, rfl, rfl⟩
    · have frames := queueStatus_framesQueued { s with peer.neighbours := ⟨0, 0, 0⟩ }
      have flow := framesQueued_flow frames
      refine ⟨framesQueued_afresh frames, flow, ?_⟩
      have e := congrArg (fun v : State => v.peer.chainDefrost)
        (Sampling.queueStatus_sends { s with peer.neighbours := ⟨0, 0, 0⟩ })
      exact e
  obtain ⟨fresh, flow, flag⟩ := told (0 = s.peer.neighbours.upstream ∧ 0 = s.peer.neighbours.downstream)
  unfold setNeighbours
  dsimp only
  generalize (if 0 = s.peer.neighbours.upstream ∧ 0 = s.peer.neighbours.downstream then
    { s with peer.neighbours := ⟨0, 0, 0⟩ } else queueStatus { s with peer.neighbours := ⟨0, 0, 0⟩ }) = u
    at fresh flow flag ⊢
  have second : ((if 0 = s.peer.neighbours.downstream then u
        else handDownstream s.downstreamEntry (evaluateChain u)).flow.driveLimiter.history
        = s.flow.driveLimiter.history)
      ∧ (if 0 = s.peer.neighbours.downstream then u
        else handDownstream s.downstreamEntry (evaluateChain u)).flow.gapRun = s.flow.gapRun := by
    split
    · rw [flow]
      exact ⟨rfl, rfl⟩
    · exact handed u fresh flow flag
  split
  · exact second
  · rw [framesQueued_flow (queueHold_framesQueued _)]
    exact second

theorem stateAborts_flow {s : State} (h : s.packing.door = .idle) : (stateAborts s).flow = s.flow := by
  have idle : ∀ u : State, u.packing.door = .idle → withdrawDoor u = u := fun u hu => if_neg (by rw [hu]; nofun)
  have aborted : (abortDefrost s).flow = s.flow ∧ (abortDefrost s).packing = s.packing := by
    unfold abortDefrost
    split <;> exact ⟨rfl, rfl⟩
  unfold stateAborts
  split
  · unfold abortDoor
    rw [idle _ (by rw [aborted.2]; exact h)]
    exact aborted.1
  · split
    · rw [idle s h]
    · rfl

/-- The drive of a station that a restart leaves at rest. -/
theorem respondToState_halted {old : StationState} {s : State} (none : s.formingNow = false)
    (walk : s.peer.walk = Option.none) (door : s.packing.door = .idle) (list : s.packing.doorList = [])
    (profile : s.hasProfile = true) (rest : beltState s.mode = false) (chain : s.peer.chainDefrost = s.defrost.want) :
    Halted s (respondToState old s) := by
  have unclosed : (if endsFormation old s.mode then closeForming enterRecord queueChanged id s else s) = s := by
    split
    · exact closeForming_none _ _ _ none
    · rfl
  have discarded : Afresh { s with peer.neighbours := restartNeighbours old s } (discardWalk old s)
      ∧ (discardWalk old s).flow.driveLimiter.history = s.flow.driveLimiter.history
      ∧ (discardWalk old s).flow.gapRun = s.flow.gapRun := by
    unfold discardWalk restartNeighbours
    split
    · have same : { s with peer.walk := Option.none } = s := by rw [← walk]
      rw [same]
      exact ⟨setNeighbours_afresh _ s, setNeighbours_limits profile rest chain⟩
    · exact ⟨afresh_refl s, rfl, rfl⟩
  obtain ⟨fresh, history, gapRun⟩ := discarded
  have idle : (discardWalk old s).packing.door = .idle := by
    have e := congrArg (fun v : State => v.packing.door) fresh
    exact Eq.trans e door
  have aborted := afresh_trans fresh (stateAborts_afresh idle)
  have abortedFlow := stateAborts_flow idle
  have told := afresh_trans aborted (flowResponded_afresh (setReasons_flow
    (stateAborts (discardWalk old s)).flow.reasons.level _))
  have toldFlow := setReasons_flow_eq (stateAborts (discardWalk old s)).flow.reasons.level
    (stateAborts (discardWalk old s))
  have tested := afresh_trans told (afresh_trans (flowResponded_afresh (evaluateDrive_flow _)) (defrostTest_afresh _))
  unfold respondToState
  dsimp only
  rw [unclosed]
  generalize stateAborts (discardWalk old s) = w at *
  change Afresh _ (refreshReasons w) at told
  change (refreshReasons w).flow = _ at toldFlow
  change Afresh _ (defrostTest (evaluateDrive (refreshReasons w))) at tested
  have packs : (defrostTest (evaluateDrive (refreshReasons w))).packing = s.packing := by
    have e := afresh_packing tested
    exact e
  rw [doorTest_empty (by rw [packs]; exact list)]
  have mode : (refreshReasons w).mode = s.mode := by
    have e := afresh_mode told
    exact e
  have held : (refreshReasons w).hasProfile = true := by
    have e := afresh_hasProfile told
    exact e.trans profile
  have role : (refreshReasons w).unstoppable = s.unstoppable := by
    have e := congrArg State.unstoppable told
    exact e
  have flow : (queueStatus (defrostTest (evaluateDrive (refreshReasons w)))).flow
      = { (evaluateDrive (refreshReasons w)).flow with
          reasons := (queueStatus (defrostTest (evaluateDrive (refreshReasons w)))).flow.reasons } := by
    rw [framesQueued_flow (queueStatus_framesQueued _)]
    exact defrostTest_flow_eq _
  obtain ⟨drive, hist, deferred, gap⟩ := halted_of_rest held (by rw [mode]; exact rest) flow
  have before : (refreshReasons w).flow.driveLimiter.history = s.flow.driveLimiter.history
      ∧ (refreshReasons w).flow.gapRun = s.flow.gapRun := by
    rw [toldFlow, abortedFlow]
    exact ⟨history, gapRun⟩
  exact ⟨drive, hist.trans before.1, fun h => deferred (role.trans h), gap.trans before.2⟩

/-! ### The restart, up to the state that it enters -/

/-- The door cycle over, its request withdrawn (R184). -/
def withdrawn (s : State) : State :=
  { s with
    packing.door := .idle
    flow.doorLimiter :=
      if s.packing.door = .requested then { s.flow.doorLimiter with deferred := none } else s.flow.doorLimiter }

/-- The cleared station, with its cycles aborted and its latch after the input. -/
def cleared (s : State) : State := { withdrawn (restartBlocks s) with station.faultLatch := s.faultIn }

theorem abortDoor_eq (s : State) : abortDoor s = withdrawn s := by
  unfold abortDoor withdrawDoor withdrawn
  split <;> rfl

theorem aborted_afresh (s : State) : Afresh (withdrawn s) (Faulting.aborted s) := by
  have cycle : Afresh s (abortDefrost s) := by
    unfold abortDefrost
    split <;> rfl
  have e := congrArg withdrawn cycle
  unfold Faulting.aborted
  rw [abortDoor_eq]
  exact e

theorem withdrawn_afresh {s t : State} (h : Afresh s t) : Afresh (withdrawn s) (withdrawn t) := by
  have e := congrArg withdrawn h
  exact e

theorem latch_afresh {s t : State} (h : Afresh s t) (b : Bool) :
    Afresh { s with station.faultLatch := b } { t with station.faultLatch := b } := by
  have e := congrArg (fun v : State => { v with station.faultLatch := b }) h
  exact e

theorem restartLatch_afresh {s : State} {b : Bool} (h : s.faultIn = b) :
    Afresh { s with station.faultLatch := b } (restartLatch s) := by
  unfold restartLatch
  cases b with
  | true =>
    rw [if_pos h]
    split
    · next latched =>
      have same : { s with station.faultLatch := true } = s := by rw [← latched]
      rw [same]
      exact afresh_refl s
    · exact framesQueued_afresh (queueEvent_framesQueued .fault (stateCode s.mode) 0
        { s with station.faultLatch := true })
  | false =>
    rw [if_neg (by rw [h]; exact Bool.false_ne_true)]
    exact afresh_refl _

/-- The cleared station once the carriers are reported and the latch is set. -/
def latched (s : State) : State :=
  restartLatch (Faulting.aborted (discardCarriers s.packing.openCarrier s.packing.doorList (restartBlocks s)))

theorem latched_afresh (s : State) : Afresh (cleared s) (latched s) := by
  have carriers := framesQueued_afresh
    (ReverseDebt.discardCarriers_framesQueued s.packing.openCarrier s.packing.doorList (restartBlocks s))
  have aborted := afresh_trans (withdrawn_afresh carriers) (aborted_afresh _)
  have input : (Faulting.aborted (discardCarriers s.packing.openCarrier s.packing.doorList (restartBlocks s))).faultIn
      = s.faultIn := by
    have e := congrArg State.faultIn aborted
    exact e
  exact afresh_trans (latch_afresh aborted s.faultIn) (restartLatch_afresh input)

/-- The flow unit of the cleared station. -/
theorem latched_flow (s : State) : (latched s).flow = (cleared s).flow := by
  have carriers := framesQueued_flow
    (ReverseDebt.discardCarriers_framesQueued s.packing.openCarrier s.packing.doorList (restartBlocks s))
  have packing := afresh_packing (framesQueued_afresh
    (ReverseDebt.discardCarriers_framesQueued s.packing.openCarrier s.packing.doorList (restartBlocks s)))
  have aborted : ∀ u : State, (Faulting.aborted u).flow = (withdrawn u).flow := fun u => by
    unfold Faulting.aborted abortDefrost
    rw [abortDoor_eq]
    split <;> rfl
  have latch : ∀ u : State, (restartLatch u).flow = u.flow := fun u => by
    unfold restartLatch
    split
    · split
      · rfl
      · have e := framesQueued_flow (queueEvent_framesQueued .fault (stateCode u.mode) 0
          { u with station.faultLatch := true })
        exact e
    · rfl
  have door : ∀ u : State, (withdrawn u).flow = { u.flow with
      doorLimiter :=
        if u.packing.door = .requested then { u.flow.doorLimiter with deferred := none } else u.flow.doorLimiter } :=
    fun _ => rfl
  unfold latched cleared
  rw [latch, aborted, door, carriers, packing]
  rfl

/-- The station that a restart's blocks leave, before the state is entered. -/
def chained (s : State) : State := evaluateChain (latched s)

theorem chained_afresh (s : State) : Afresh (cleared s) (chained s) :=
  afresh_trans (latched_afresh s) (evaluateChain_afresh _)

/-- The state that a restart enters. -/
def restartTarget (s : State) : StationState := if s.faultIn then .faulted else restState (chained s)

theorem lineRestart_eq (f : Frame) (s : State) :
    lineRestart f s
      = evaluateLevel (respondToState (chained s).mode (freshPosture { chained s with mode := restartTarget s })) := by
  have input : (chained s).faultIn = s.faultIn := by
    have e := congrArg State.faultIn (chained_afresh s)
    exact e
  have target : (if (chained s).faultIn then StationState.faulted else restState (chained s)) = restartTarget s := by
    rw [input]
    rfl
  unfold lineRestart enterStateAfresh
  dsimp only
  rw [← target]
  rfl

end Sys2Proof.Restarting


/-! PROOFS. RESTART (R14): the statement, from the cleared station and the state that it enters. -/

namespace Sys2Proof.Restarting

open Sys2Proof Sys2Proof.Machine Sys2Proof.Safety Sys2Proof.Laws Sys2Proof.Commands

theorem exec_restart {f : Frame} {rest : List Frame} {s : State} (ho : Oldest .restart f rest s) (ha : Admitted f s) :
    exec .restart s = done (lineRestart f (handed f rest s)) :=
  takeCommand_admitted (k := .restart) rfl ho ha

/-- An unheard downstream has no flag set. -/
theorem chainDefrostNow_cleared {s t : State} (h : Afresh (cleared s) t) : chainDefrostNow t = s.defrost.want := by
  have want : t.defrost.want = s.defrost.want := by
    have e := congrArg (fun v : State => v.defrost.want) h
    exact e
  have peers : t.peer.peers = Vector.replicate 31 unheardPeer := by
    have e := congrArg (fun v : State => v.peer.peers) h
    exact e
  have entry : ∀ n, t.peerEntry n = unheardPeer := fun n => by
    unfold State.peerEntry
    split
    · simp only [peers, Vector.getElem_replicate]
    · rfl
  unfold chainDefrostNow State.downstreamEntry
  rw [want]
  split
  · exact Bool.or_false _
  · rw [entry]
    exact Bool.or_false _

theorem chained_gapRun {s : State} (h : s.peer.chainDefrost = true ∨ s.defrost.want = false) :
    (chained s).flow.gapRun = none := by
  have flag : (latched s).peer.chainDefrost = s.peer.chainDefrost := by
    have carriers := (ReverseDebt.discardCarriers_framesQueued s.packing.openCarrier s.packing.doorList
      (restartBlocks s)).1
    have e := congrArg (fun v : State => v.peer.chainDefrost) carriers
    have aborted : ∀ u : State, (Faulting.aborted u).peer = u.peer := fun u => (Faulting.aborted_keeps u).2.2.2.1
    have latch : ∀ u : State, (restartLatch u).peer = u.peer := fun u => by
      unfold restartLatch
      split
      · split
        · rfl
        · have e := congrArg State.peer (Sampling.queueEvent_sends .fault (stateCode u.mode) 0
            { u with station.faultLatch := true })
          exact e
      · rfl
    unfold latched
    rw [latch, aborted]
    exact e
  have kept := evaluateChain_gapRun (s := latched s) (by
    rw [flag, chainDefrostNow_cleared (latched_afresh s)]
    exact h)
  unfold chained
  rw [kept, latched_flow]
  rfl

theorem chained_chainDefrost {s : State} (profile : s.hasProfile = true) :
    (chained s).peer.chainDefrost = s.defrost.want := by
  have held : (latched s).hasProfile = true := by
    have e := afresh_hasProfile (latched_afresh s)
    exact e.trans profile
  exact (evaluateChain_chainDefrost held).trans (chainDefrostNow_cleared (latched_afresh s))

/-- The station that a restart enters. -/
def entering (s : State) : State := freshPosture { chained s with mode := restartTarget s }

theorem mode_afresh {s t : State} (h : Afresh s t) (m : StationState) : Afresh { s with mode := m } { t with mode := m } := by
  have e := congrArg (fun v : State => { v with mode := m }) h
  exact e

theorem entering_afresh (s : State) : Afresh { cleared s with mode := restartTarget s } (entering s) :=
  afresh_trans (mode_afresh (chained_afresh s) _) (freshPosture_afresh _)

theorem neighbours_afresh {s t : State} (h : Afresh s t) (n : Neighbours) :
    Afresh { s with peer.neighbours := n } { t with peer.neighbours := n } := by
  have e := congrArg (fun v : State => { v with peer.neighbours := n }) h
  exact e

/-! ### The transmit queue -/

/-- The frames in transmission, severed (R45). -/
def severed (s : State) : List TxEntry := (s.link.txq.filter (·.sending)).map (fun e => { e with severed := true })

theorem severed_sending (s : State) : ∀ e ∈ severed s, e.sending = true := by
  intro e he
  obtain ⟨x, hx, rfl⟩ := List.mem_map.1 he
  exact (List.mem_filter.1 hx).2

theorem restartBlocks_restarts (s : State) : Restarts (severed s) (restartBlocks s) :=
  ⟨rfl, ⟨fun _ he => he, fun _ he _ => he, fun e he hw => by
    rw [severed_sending s e he] at hw
    nomatch hw⟩⟩

theorem latched_restarts (s : State) : Restarts (severed s) (latched s) :=
  restartLatch_restarts (severed_sending s) (aborted_restarts
    (discardCarriers_restarts (severed_sending s) (restartBlocks_restarts s) _ _))

theorem chained_restarts (s : State) : Restarts (severed s) (chained s) :=
  evaluateChain_restarts (severed_sending s) (latched_restarts s)

theorem entering_restarts (s : State) : Restarts (severed s) (entering s) := by
  have e := Postures.freshPosture_eq { chained s with mode := restartTarget s }
  refine restarts_of (chained_restarts s) ?_ ?_
  · have e' := congrArg (fun v : State => v.tracking.zone) e
    exact e'
  · have e' := congrArg (fun v : State => v.link.txq) e
    exact e'

/-! ### The restart -/

/-- What the state that a restart enters finds to close, to discard and to store: nothing. -/
theorem entering_empty (s : State) :
    (entering s).tracking.mergeBound = none ∧ (entering s).formingNow = false ∧ (entering s).peer.walk = none
      ∧ (entering s).packing.door = .idle ∧ (entering s).packing.doorList = []
      ∧ (entering s).mode = restartTarget s := by
  have fresh := entering_afresh s
  have merge : (entering s).tracking.mergeBound = none := by
    have e := congrArg (fun v : State => v.tracking.mergeBound) fresh
    exact e
  have walk : (entering s).peer.walk = none := by
    have e := congrArg (fun v : State => v.peer.walk) fresh
    exact e
  have door : (entering s).packing = ⟨none, s.packing.nextBag, none, s.packing.nextCarrier, [], .idle⟩ := by
    have e := afresh_packing fresh
    exact e
  have mode : (entering s).mode = restartTarget s := by
    have e := afresh_mode fresh
    exact e
  refine ⟨merge, ?_, walk, by rw [door], by rw [door], mode⟩
  unfold State.formingNow
  rw [merge, (entering_restarts s).1]
  rfl

theorem restartTarget_cases (s : State) :
    (restartTarget s = .faulted ∨ restartTarget s = .ready ∨ restartTarget s = .profiled)
      ∧ beltState (restartTarget s) = false := by
  unfold restartTarget
  split
  · exact ⟨.inl rfl, rfl⟩
  · rcases restState_cases (chained s) with h | h <;> rw [h]
    · exact ⟨.inr (.inl rfl), rfl⟩
    · exact ⟨.inr (.inr rfl), rfl⟩

/-- The mode from which the entered state responds: the one that the restart found. -/
theorem chained_mode (s : State) : (chained s).mode = s.mode := by
  have e := afresh_mode (chained_afresh s)
  exact e

/-- A line restart, as what it leaves of the cleared station. -/
theorem lineRestart_afresh (f : Frame) (s : State) :
    Afresh { cleared s with
      mode := restartTarget s
      peer.neighbours := if s.mode = .walking ∧ restartTarget s = .faulted then ⟨0, 0, 0⟩ else s.peer.neighbours }
      (lineRestart f s) := by
  obtain ⟨_, none, walk, door, list, mode⟩ := entering_empty s
  have responds := respondToState_afresh (old := (chained s).mode) none walk door list
  have kept : (entering s).peer.neighbours = s.peer.neighbours := by
    have e := congrArg (fun v : State => v.peer.neighbours) (entering_afresh s)
    exact e
  have record : restartNeighbours (chained s).mode (entering s)
      = if s.mode = .walking ∧ restartTarget s = .faulted then ⟨0, 0, 0⟩ else s.peer.neighbours := by
    unfold restartNeighbours
    rw [chained_mode, mode, kept]
  rw [record] at responds
  rw [lineRestart_eq]
  exact afresh_trans (neighbours_afresh (entering_afresh s) _)
    (afresh_trans responds (flowResponded_afresh (setReasons_flow _ _)))

theorem lineRestart_halted (f : Frame) {s : State} (profile : s.hasProfile = true) :
    Halted (entering s) (lineRestart f s) := by
  obtain ⟨_, none, walk, door, list, mode⟩ := entering_empty s
  have held : (entering s).hasProfile = true := by
    have e := afresh_hasProfile (entering_afresh s)
    exact e.trans profile
  have posture := Postures.freshPosture_eq { chained s with mode := restartTarget s }
  have chain : (entering s).peer.chainDefrost = (entering s).defrost.want := by
    have flag := congrArg (fun v : State => v.peer.chainDefrost) posture
    have want : (entering s).defrost.want = s.defrost.want := by
      have e := congrArg (fun v : State => v.defrost.want) (entering_afresh s)
      exact e
    exact (Eq.trans (b := (chained s).peer.chainDefrost) flag (chained_chainDefrost profile)).trans want.symm
  obtain ⟨drive, history, deferred, gapRun⟩ := respondToState_halted (old := (chained s).mode) none walk door list held
    (by rw [mode]; exact (restartTarget_cases s).2) chain
  have last := setReasons_flow_eq (levelAfter (respondToState (chained s).mode (entering s)))
    (respondToState (chained s).mode (entering s))
  rw [lineRestart_eq]
  change Halted (entering s) (setReasons (levelAfter (respondToState (chained s).mode (entering s)))
    (respondToState (chained s).mode (entering s)))
  exact ⟨by rw [last]; exact drive, by rw [last]; exact history, fun h => by rw [last]; exact deferred h,
    by rw [last]; exact gapRun⟩

theorem lineRestart_restarts (f : Frame) (s : State) : Restarts (severed s) (lineRestart f s) := by
  rw [lineRestart_eq]
  exact setReasons_restarts (severed_sending s)
    (respondToState_restarts (severed_sending s) (entering_restarts s) (entering_empty s).1 _) _

end Sys2Proof.Restarting


/-! PROOFS. RESTART (R14), from the command as the buffer gives it. -/

namespace Sys2Proof.Restarting

open Sys2Proof Sys2Proof.Machine Sys2Proof.Safety Sys2Proof.Laws Sys2Proof.Commands

/-! ### The frame in transmission -/

/-- The entries in transmission are those of `q`. -/
def SendingOf (q : List TxEntry) (s : State) : Prop := ∀ e, e.sending = true → (e ∈ s.link.txq ↔ e ∈ q)

variable {q : List TxEntry} {s : State}

theorem sendingOf_queue {p p' : List TxEntry} (h : ∀ e, e.sending = true → (e ∈ p ↔ e ∈ q))
    (same : ∀ e, e.sending = true → (e ∈ p' ↔ e ∈ p)) : ∀ e, e.sending = true → (e ∈ p' ↔ e ∈ q) :=
  fun e he => (same e he).trans (h e he)

theorem sending_insert {e x : TxEntry} {p : List TxEntry} (hx : x.sending = false) (he : e.sending = true) :
    e ∈ insertEntry x p ↔ e ∈ p := by
  rw [Changes.mem_insertEntry]
  refine ⟨fun h => h.resolve_left fun g => ?_, .inr⟩
  rw [g, hx] at he
  nomatch he

theorem sending_drop {e : TxEntry} {p : List TxEntry} (he : e.sending = true) : e ∈ dropLastWaiting p ↔ e ∈ p :=
  ⟨fun h => (Changes.dropLastWaiting_sublist p).subset h, fun h => mem_dropLastWaiting h he⟩

theorem sending_replace {e : TxEntry} {p : List TxEntry} {f : Frame} (he : e.sending = true) :
    e ∈ replaceWaiting f p ↔ e ∈ p := by
  unfold replaceWaiting
  rw [List.mem_map]
  refine ⟨fun ⟨x, hx, h⟩ => ?_, fun h => ⟨e, h, if_neg fun g => by rw [he] at g; nomatch g.2⟩⟩
  split at h
  · next g =>
    subst h
    exact absurd (g.2.symm.trans he) nofun
  · exact h ▸ hx

theorem enqueue_sendingOf (h : SendingOf q s) (f : Frame) : SendingOf q (enqueue f s).1 := by
  rcases Changes.enqueue_cases f s with ⟨he, _⟩ | ⟨_, ⟨_, he⟩ | ⟨_, he⟩ | ⟨e, _, _, _, he⟩ | ⟨_, he⟩⟩ <;> rw [he]
  · exact h
  · exact fun e se => (sending_replace se).trans (h e se)
  · exact fun e se => (sending_insert rfl se).trans (h e se)
  · exact fun e se => (sending_insert rfl se).trans ((sending_drop se).trans (h e se))
  · exact h

theorem queueFrame_sendingOf (h : SendingOf q s) (f : Frame) : SendingOf q (queueFrame f s) :=
  Changes.queueFrame_induction (fun _ _ _ _ k => k) (fun _ _ k => enqueue_sendingOf k _) (enqueue_sendingOf h f)

theorem requestStart_sendingOf (h : SendingOf q s) (i : LimiterId) : SendingOf q (requestStart i s).1 := by
  have set : ∀ l, SendingOf q (setLimiter i l s) := fun l => by cases i <;> exact h
  unfold requestStart
  split
  · exact h
  split
  · exact set _
  · next l _ _ _ =>
    have counted : SendingOf q (count .startDeferred (setLimiter i l s)) := set l
    exact queueFrame_sendingOf counted _

theorem evaluateDrive_sendingOf (h : SendingOf q s) : SendingOf q (evaluateDrive s) := by
  have driveOff : ∀ {u}, SendingOf q u → SendingOf q (driveOff u) := fun hu => by
    unfold Machine.driveOff
    split
    · exact hu
    · exact hu
  have off : SendingOf q (Machine.driveOff (withdrawStart .drive s)) := driveOff h
  unfold evaluateDrive
  split
  · exact h
  split
  · split
    · exact h
    · exact driveOff h
  split
  · exact h
  split
  · split
    · exact off
    split
    · exact h
    have asked := requestStart_sendingOf h .drive
    split
    · next s1 hr => rw [hr] at asked; exact asked
    · next s1 hr => rw [hr] at asked; exact asked
  · exact off

/-- Taking the frame out of the buffer and telling the blocks leaves the frame in transmission. -/
theorem handed_sendingOf (f : Frame) (rest : List Frame) (s : State) : SendingOf s.link.txq (handed f rest s) := by
  have start : SendingOf s.link.txq (taken f rest s) := by
    unfold SendingOf
    rw [Handover.taken_txq]
    exact fun _ _ => .rfl
  rcases Handover.handed_cases f rest s with h | h <;> rw [h]
  · exact start
  · exact evaluateDrive_sendingOf start

/-! ### The station that RESTART finds -/

/-- Taking the frame out of the buffer and telling the blocks, as a record update. -/
theorem handed_eq (f : Frame) (rest : List Frame) (s : State) :
    handed f rest s = { withFlow s (handed f rest s) with
      link.rxq := rest
      peer.peers := (taken f rest s).peer.peers } := by
  have start : taken f rest s = { s with link.rxq := rest, peer.peers := (taken f rest s).peer.peers } := by
    unfold taken State.setPeerEntry
    split <;> rfl
  have responded := (handDownstream_flowResponded s.downstreamEntry (taken f rest s)).1
  have e := congrArg (withFlow · (handed f rest s)) start
  exact responded.trans e

/-- What a restart says of a station that it finds with its buffer taken and its blocks told. -/
structure Restarted (s t : State) : Prop where
  station : t.station = { s.station with faultLatch := s.faultIn }
  mode : t.mode = restartTarget s
  buffer : t.link.rxq = []
  line : t.link.line = s.link.line
  peers : t.peer.peers = Vector.replicate 31 unheardPeer
  walk : t.peer.walk = none
  neighbours : t.peer.neighbours
    = if s.mode = .walking ∧ restartTarget s = .faulted then ⟨0, 0, 0⟩ else s.peer.neighbours
  statusTimer : t.peer.statusTimer = s.peer.statusTimer
  tracking : t.tracking = ⟨[], none, 0, 0, s.tracking.tagSeq, s.tracking.currentLot⟩
  arrivals : t.arrivals = []
  dose : t.dose = s.dose
  duty : t.flow.duty = if s.isHead then s.infeedDuty else 0
  throttle : t.flow.throttleCount = 0
  load : t.flow.loadInput = 0 ∧ t.flow.loadFilter = 0 ∧ t.flow.loadHigh = false
  door : t.flow.doorLimiter.history = s.flow.doorLimiter.history
    ∧ (s.packing.door = .requested → t.flow.doorLimiter.deferred = none)
  defrost : t.defrost.debt = s.defrost.debt ∧ t.defrost.intervalElapsed = 0
    ∧ t.defrost.overdueStay = s.defrost.overdueStay ∧ t.defrost.want = s.defrost.want
  packing : t.packing = ⟨none, s.packing.nextBag, none, s.packing.nextCarrier, [], .idle⟩
  clock : t.now = s.now ∧ t.pending = s.pending

theorem lineRestart_restarted (f : Frame) (s : State) : Restarted s (lineRestart f s) := by
  have fresh := lineRestart_afresh f s
  have zone := (lineRestart_restarts f s).1
  generalize lineRestart f s = t at fresh zone
  have tracking : t.tracking = ⟨t.tracking.zone, none, 0, 0, s.tracking.tagSeq, s.tracking.currentLot⟩ := by
    have e := congrArg State.tracking fresh
    exact e
  have limiter : t.flow.doorLimiter
      = if s.packing.door = .requested then { s.flow.doorLimiter with deferred := none } else s.flow.doorLimiter := by
    have e := congrArg (fun v : State => v.flow.doorLimiter) fresh
    exact e
  rw [zone] at tracking
  constructor
  case station => have e := congrArg State.station fresh; exact e
  case mode => have e := congrArg State.mode fresh; exact e
  case buffer => have e := congrArg (fun v : State => v.link.rxq) fresh; exact e
  case line => have e := congrArg (fun v : State => v.link.line) fresh; exact e
  case peers => have e := congrArg (fun v : State => v.peer.peers) fresh; exact e
  case walk => have e := congrArg (fun v : State => v.peer.walk) fresh; exact e
  case neighbours => have e := congrArg (fun v : State => v.peer.neighbours) fresh; exact e
  case statusTimer => have e := congrArg (fun v : State => v.peer.statusTimer) fresh; exact e
  case tracking => exact tracking
  case arrivals => have e := congrArg State.arrivals fresh; exact e
  case dose => have e := congrArg State.dose fresh; exact e
  case duty => have e := congrArg (fun v : State => v.flow.duty) fresh; exact e
  case throttle => have e := congrArg (fun v : State => v.flow.throttleCount) fresh; exact e
  case load =>
    have input := congrArg (fun v : State => v.flow.loadInput) fresh
    have filter := congrArg (fun v : State => v.flow.loadFilter) fresh
    have high := congrArg (fun v : State => v.flow.loadHigh) fresh
    exact ⟨input, filter, high⟩
  case door =>
    rw [limiter]
    split
    · exact ⟨rfl, fun _ => rfl⟩
    · next other => exact ⟨rfl, fun asked => absurd asked other⟩
  case defrost =>
    have debt := congrArg (fun v : State => v.defrost.debt) fresh
    have elapsed := congrArg (fun v : State => v.defrost.intervalElapsed) fresh
    have stay := congrArg (fun v : State => v.defrost.overdueStay) fresh
    have want := congrArg (fun v : State => v.defrost.want) fresh
    exact ⟨debt, elapsed, stay, want⟩
  case packing => have e := congrArg State.packing fresh; exact e
  case clock =>
    have now := congrArg State.now fresh
    have pending := congrArg State.pending fresh
    exact ⟨now, pending⟩

/-- The entries that a settled restart has in transmission. -/
theorem settled_sending {sent : List TxEntry} {t : State} (h : Restarts sent t) {e : TxEntry}
    (he : e ∈ (settle t).link.txq) (hs : e.sending = true) :
    e ∈ sent ∨ (t.link.line = .idle ∧ (settle t).link.line = .busy ∧ e.severed = false ∧ e.attempts = 0
      ∧ (settle t).link.txq.head? = some e) := by
  change e ∈ (settleLine t).link.txq at he
  change e ∈ sent ∨ (t.link.line = .idle ∧ (settleLine t).link.line = .busy ∧ e.severed = false ∧ e.attempts = 0
      ∧ (settleLine t).link.txq.head? = some e)
  rcases settleLine_cases t with same | ⟨x, rest, _, idle, none, queue, started⟩
  · rw [same] at he
    exact .inl (h.2.sending e he hs)
  · rw [started] at he ⊢
    have waits : ∀ y ∈ x :: rest, y.sending = false := fun y hy => by
      have all := List.find?_eq_none.1 (Option.isNone_iff_eq_none.1 (by simpa [sendingEntry] using none)) y
        (queue ▸ hy)
      simpa using all
    rcases List.mem_cons.1 he with rfl | later
    · obtain ⟨_, attempts, whole⟩ := h.2.waiting x (by rw [queue]; exact List.mem_cons_self) (waits x List.mem_cons_self)
      exact .inr ⟨idle, rfl, whole, attempts, rfl⟩
    · rw [waits e (List.mem_cons_of_mem x later)] at hs
      nomatch hs

theorem settled_waiting {sent : List TxEntry} {t : State} (h : Restarts sent t) {e : TxEntry}
    (he : e ∈ (settle t).link.txq) (hw : e.sending = false) : Told e.frame.kind := by
  change e ∈ (settleLine t).link.txq at he
  rcases settleLine_cases t with same | ⟨x, rest, _, _, _, queue, started⟩
  · rw [same] at he
    exact (h.2.waiting e he hw).1
  · rw [started] at he
    rcases List.mem_cons.1 he with rfl | later
    · nomatch hw
    · exact (h.2.waiting e (by rw [queue]; exact List.mem_cons_of_mem x later) hw).1

theorem settled_stays {sent : List TxEntry} {t : State} (h : Restarts sent t) (all : ∀ e ∈ sent, e.sending = true)
    {e : TxEntry} (he : e ∈ sent) : e ∈ (settle t).link.txq := by
  change e ∈ (settleLine t).link.txq
  rcases settleLine_cases t with same | ⟨x, rest, _, _, none, queue, started⟩
  · rw [same]
    exact h.2.stays e he
  · have waits := List.find?_eq_none.1 (Option.isNone_iff_eq_none.1 (by simpa [sendingEntry] using none)) e
      (h.2.stays e he)
    exact absurd (all e he) (by simpa using waits)

theorem complete_congr {s t : State} (station : t.station = s.station)
    (neighbours : t.peer.neighbours = s.peer.neighbours) : Complete t ↔ Complete s := by
  unfold Complete State.isHead State.isTail State.hasProfile State.item State.items State.upstream State.downstream
    State.transferDistance
  rw [station, neighbours]

/-- The state that a restart enters, by the fault input and the record (R14). -/
theorem restartTarget_eq {s : State} {b : Bool} (input : s.faultIn = b) :
    restartTarget s = if b then .faulted else restState (chained s) := by
  unfold restartTarget
  rw [input]

theorem chained_complete (s : State) : Complete (chained s) ↔ Complete s := by
  have items : (chained s).items = s.items := by
    have e := congrArg State.items (chained_afresh s)
    exact e
  have held : (chained s).hasProfile = s.hasProfile := by
    have e := afresh_hasProfile (chained_afresh s)
    exact e
  have neighbours : (chained s).peer.neighbours = s.peer.neighbours := by
    have e := congrArg (fun v : State => v.peer.neighbours) (chained_afresh s)
    exact e
  unfold Complete State.isHead State.isTail State.item State.upstream State.downstream State.transferDistance
  rw [items, held, neighbours]

/-- A restart is into FAULTED exactly with the fault input active. -/
theorem restartTarget_faulted (s : State) : restartTarget s = .faulted ↔ s.faultIn = true := by
  cases input : s.faultIn <;> rw [restartTarget_eq input]
  · refine ⟨fun h => ?_, nofun⟩
    rcases restState_cases (chained s) with r | r
    · exact nomatch r.symm.trans h
    · exact nomatch r.symm.trans h
  · exact ⟨fun _ => rfl, fun _ => rfl⟩

theorem entering_limiter (s : State) : (entering s).flow.driveLimiter = s.flow.driveLimiter := by
  have posture := congrArg (fun v : State => v.flow.driveLimiter)
    (Postures.freshPosture_eq { chained s with mode := restartTarget s })
  have chain := congrArg (fun v : State => v.flow.driveLimiter) (Sampling.evaluateChain_sends (latched s))
  have latch := congrArg FlowUnit.driveLimiter (latched_flow s)
  exact Eq.trans (b := (chained s).flow.driveLimiter) posture
    (Eq.trans (b := (latched s).flow.driveLimiter) chain latch)

theorem entering_gapRun {s : State} (h : s.peer.chainDefrost = true ∨ s.defrost.want = false) :
    (entering s).flow.gapRun = none := by
  have posture := congrArg (fun v : State => v.flow.gapRun)
    (Postures.freshPosture_eq { chained s with mode := restartTarget s })
  exact Eq.trans (b := (chained s).flow.gapRun) posture (chained_gapRun h)

/-- What handing a frame on keeps of the station that takes it. -/
structure Found (s v : State) : Prop where
  station : v.station = s.station
  mode : v.mode = s.mode
  input : v.faultIn = s.faultIn
  line : v.link.line = s.link.line
  neighbours : v.peer.neighbours = s.peer.neighbours
  statusTimer : v.peer.statusTimer = s.peer.statusTimer
  chain : v.peer.chainDefrost = s.peer.chainDefrost
  tagSeq : v.tracking.tagSeq = s.tracking.tagSeq
  lot : v.tracking.currentLot = s.tracking.currentLot
  dose : v.dose = s.dose
  door : v.flow.doorLimiter = s.flow.doorLimiter
  defrost : v.defrost = s.defrost
  packing : v.packing = s.packing
  now : v.now = s.now
  pending : v.pending = s.pending

theorem handed_found (f : Frame) (rest : List Frame) (s : State) : Found s (handed f rest s) := by
  have whole := handed_eq f rest s
  generalize taken f rest s = u at whole
  generalize handed f rest s = v at whole
  constructor
  case station => have e := congrArg State.station whole; exact e
  case mode => have e := congrArg State.mode whole; exact e
  case input => have e := congrArg State.faultIn whole; exact e
  case line => have e := congrArg (fun v : State => v.link.line) whole; exact e
  case neighbours => have e := congrArg (fun v : State => v.peer.neighbours) whole; exact e
  case statusTimer => have e := congrArg (fun v : State => v.peer.statusTimer) whole; exact e
  case chain => have e := congrArg (fun v : State => v.peer.chainDefrost) whole; exact e
  case tagSeq => have e := congrArg (fun v : State => v.tracking.tagSeq) whole; exact e
  case lot => have e := congrArg (fun v : State => v.tracking.currentLot) whole; exact e
  case dose => have e := congrArg State.dose whole; exact e
  case door => have e := congrArg (fun v : State => v.flow.doorLimiter) whole; exact e
  case defrost => have e := congrArg State.defrost whole; exact e
  case packing => have e := congrArg State.packing whole; exact e
  case now => have e := congrArg State.now whole; exact e
  case pending => have e := congrArg State.pending whole; exact e

theorem isHead_congr {s t : State} (h : t.station = s.station) : t.isHead = s.isHead := by
  unfold State.isHead State.hasProfile State.item State.items
  rw [h]

theorem infeedDuty_congr {s t : State} (h : t.station = s.station) : t.infeedDuty = s.infeedDuty := by
  unfold State.infeedDuty State.item State.items
  rw [h]

theorem unstoppable_congr {s t : State} (h : t.station = s.station) : t.unstoppable = s.unstoppable := by
  unfold State.unstoppable State.hasRole State.role State.items
  rw [h]

theorem entering_unstoppable (s : State) : (entering s).unstoppable = s.unstoppable := by
  have e := congrArg State.unstoppable (entering_afresh s)
  exact e

/-- Settles O19, from `lineRestart_restarted`, `lineRestart_halted` and `lineRestart_restarts`: the restart's blocks empty
what it empties, and the state that it enters finds nothing to close, to discard or to store. -/
theorem restartClears : Obligations.RestartClears := by
  intro f rest s ho ha profile
  have exec := exec_restart ho ha
  have found := handed_found f rest s
  have other := handed_of_other (f := f) (rest := rest) (s := s)
  have queue := handed_sendingOf f rest s
  have flow := Handover.taken_flow f rest s
  generalize taken f rest s = u at other flow
  generalize handed f rest s = v at exec found other queue
  have held : v.hasProfile = true := by
    unfold State.hasProfile
    rw [found.station]
    exact profile
  have restarted := lineRestart_restarted f v
  have halted := lineRestart_halted f held
  have restarts := lineRestart_restarts f v
  generalize lineRestart f v = w at exec restarted halted restarts
  have complete := (chained_complete v).trans (complete_congr found.station found.neighbours)
  refine next_of_done exec ⟨?station, ?faulted, ?ready, ?profiled, (settle_rxq _).trans restarted.buffer, restarted.peers, restarted.walk,
    ?neighbours, restarted.statusTimer.trans found.statusTimer, ?tracking, restarted.arrivals, restarted.dose.trans found.dose,
    halted.drive, ?duty, restarted.throttle, restarted.load.1, restarted.load.2.1, restarted.load.2.2, ?history,
    ?doorHistory, ?debt, ?elapsed, ?stay, ?want, ?packing, restarted.clock.1.trans found.now,
    restarted.clock.2.trans found.pending, fun e he hw => settled_waiting restarts he hw, ?stays, ?sending, ?line, ?gap,
    ?deferred, ?doorDeferred⟩
  case station => rw [settle_station, restarted.station, found.station, found.input]
  case faulted => exact fun active => restarted.mode.trans ((restartTarget_faulted v).2 (found.input.trans active))
  case ready =>
    intro inactive known
    exact restarted.mode.trans ((restartTarget_eq (found.input.trans inactive)).trans (restState_complete (complete.2 known)))
  case profiled =>
    intro inactive unknown
    exact restarted.mode.trans ((restartTarget_eq (found.input.trans inactive)).trans
      (restState_incomplete fun known => unknown (complete.1 known)))
  case neighbours =>
    rw [settle_peer, restarted.neighbours, found.neighbours, found.mode]
    exact if_congr (and_congr_right' ((restartTarget_faulted v).trans (by rw [found.input]))) rfl rfl
  case tracking => rw [settle_tracking, restarted.tracking, found.tagSeq, found.lot]
  case duty => rw [settle_flow, restarted.duty, isHead_congr found.station, infeedDuty_congr found.station]
  case history =>
    intro elsewhere
    rw [settle_flow, halted.history, entering_limiter, other elsewhere, flow]
  case doorHistory => rw [settle_flow, restarted.door.1, found.door]
  case debt => rw [settle_defrost, restarted.defrost.1, found.defrost]
  case elapsed => exact restarted.defrost.2.1
  case stay => rw [settle_defrost, restarted.defrost.2.2.1, found.defrost]
  case want => rw [settle_defrost, restarted.defrost.2.2.2, found.defrost]
  case packing => rw [settle_packing, restarted.packing, found.packing]
  case stays =>
    intro e he hs
    refine settled_stays restarts (severed_sending v) (List.mem_map.2 ⟨e, List.mem_filter.2 ⟨?_, hs⟩, rfl⟩)
    exact (queue e hs).2 he
  case sending =>
    intro e he hs
    rcases settled_sending restarts he hs with found | ⟨idle, started⟩
    · obtain ⟨x, hx, rfl⟩ := List.mem_map.1 found
      obtain ⟨hx, sends⟩ := List.mem_filter.1 hx
      exact .inl ⟨x, (queue x sends).1 hx, sends, rfl⟩
    · exact .inr ⟨(restarted.line.trans found.line).symm.trans idle, started⟩
  case line => exact lineKept_trans (lineKept_refl (restarted.line.trans found.line)) (settle_blocks _).2.2
  case gap =>
    intro held
    rw [settle_flow, halted.gapRun]
    exact entering_gapRun (by rw [found.chain, found.defrost]; exact held)
  case deferred =>
    intro stoppable
    exact halted.deferred ((entering_unstoppable v).trans ((unstoppable_congr found.station).trans stoppable))
  case doorDeferred =>
    intro asked
    exact restarted.door.2 (by rw [found.packing]; exact asked)

end Sys2Proof.Restarting


/-! PROOFS. Acceptance of a profile (R22), and the channels of the states that acceptance, RESTART and FAULT_CLEAR
enter. -/

namespace Sys2Proof.Acceptance

open Sys2Proof Sys2Proof.Machine Sys2Proof.Safety Sys2Proof.Laws Sys2Proof.Commands Sys2Proof.Postures

/-! ### What entering a state leaves of the accepted values -/

/-- What the blocks leave of the values that acceptance gives them. -/
structure Stands (s t : State) : Prop where
  mode : t.mode = s.mode
  station : t.station = s.station
  neighbours : t.peer.neighbours = s.peer.neighbours
  statusTimer : t.peer.statusTimer = s.peer.statusTimer
  dose : t.dose = s.dose
  duty : t.flow.duty = s.flow.duty
  debt : t.defrost.debt = s.defrost.debt

theorem stands_trans {s t u : State} (h : Stands s t) (h' : Stands t u) : Stands s u :=
  ⟨h'.mode.trans h.mode, h'.station.trans h.station, h'.neighbours.trans h.neighbours,
    h'.statusTimer.trans h.statusTimer, h'.dose.trans h.dose, h'.duty.trans h.duty, h'.debt.trans h.debt⟩

theorem stands_blocks {s t : State} (h : BlocksResponded s t) : Stands s t := by
  have whole := h.1
  constructor
  case mode => have e := congrArg State.mode whole; exact e
  case station => have e := congrArg State.station whole; exact e
  case neighbours => have e := congrArg (fun v : State => v.peer.neighbours) whole; exact e
  case statusTimer => have e := congrArg (fun v : State => v.peer.statusTimer) whole; exact e
  case dose => have e := congrArg State.dose whole; exact e
  case duty => have e := congrArg (fun v : State => v.flow.duty) whole; exact e
  case debt => have e := congrArg (fun v : State => v.defrost.debt) whole; exact e

theorem stateAborts_stands (s : State) : Stands s (stateAborts s) := by
  have cycle : Stands s (abortDefrost s) := by
    unfold abortDefrost
    split
    · exact ⟨rfl, rfl, rfl, rfl, rfl, rfl, rfl⟩
    · exact stands_blocks (blocksResponded_refl s)
  have door : Stands (abortDefrost s) (abortDoor (abortDefrost s)) := by
    unfold abortDoor
    exact stands_trans (stands_blocks (withdrawDoor_blocks _)) ⟨rfl, rfl, rfl, rfl, rfl, rfl, rfl⟩
  unfold stateAborts
  split
  · exact stands_trans cycle door
  · split
    · exact stands_blocks (withdrawDoor_blocks s)
    · exact stands_blocks (blocksResponded_refl s)

/-- The responses to a state that is entered from elsewhere than WALKING and closes no segment. -/
theorem respondToState_stands {old : StationState} {s : State} (walk : old ≠ .walking)
    (unended : s.formingNow = false ∨ endsFormation old s.mode = false) : Stands s (respondToState old s) := by
  have unclosed : (if endsFormation old s.mode then closeForming enterRecord queueChanged id s else s) = s := by
    rcases unended with h | h
    · split
      · exact closeForming_none _ _ _ h
      · rfl
    · exact if_neg (by rw [h]; exact Bool.false_ne_true)
  have kept : discardWalk old s = s := if_neg fun h => walk h.1
  unfold respondToState
  dsimp only
  rw [unclosed, kept]
  exact stands_trans (stateAborts_stands s) (stands_blocks (blocksResponded_trans (refreshReasons_blocks _)
    (blocksResponded_trans (evaluateDrive_blocks _) (blocksResponded_trans (defrostTest_blocks _)
      (blocksResponded_trans (doorTest_blocks _) (framesQueued_blocks (queueStatus_framesQueued _)))))))

theorem enterState_stands (new : StationState) {s : State} (joining : s.mode = .joining) :
    Stands { s with mode := new } (enterState new s) := by
  have posture := changePosture_blocks s.mode { s with mode := new }
  unfold enterState
  exact stands_trans (stands_blocks posture) (respondToState_stands (by rw [joining]; nofun)
    (.inr (by rw [joining]; rfl)))

/-! ### Acceptance -/

/-- The station with its profile frozen and its flags evaluated. -/
def frozen (s : State) : State :=
  evaluateChain (if (freezeProfile s).hasRole .freeze then evaluateWant (freezeProfile s) else freezeProfile s)

theorem acceptProfile_eq (s : State) : acceptProfile s = queueHold (enterState (acceptedState (frozen s)) (frozen s)) := rfl

theorem exec_accept {f : Frame} {rest : List Frame} {s : State} (ho : Oldest .profileEnd f rest s) (ha : Admitted f s)
    (joining : s.mode = .joining)
    (passes : profileFailure s.station.pendingProfile (payloadByte f.payload 0) = none) :
    exec .profileEnd s = done (acceptProfile (handed f rest s)) := by
  rw [exec_profileEnd ho ha]
  unfold endProfile
  rw [if_pos (by rw [handed_mode]; exact joining), handed_station, passes]

theorem frozen_stands (s : State) : Stands (freezeProfile s) (frozen s) := by
  have want : Stands (freezeProfile s)
      (if (freezeProfile s).hasRole .freeze then evaluateWant (freezeProfile s) else freezeProfile s) := by
    split
    · have kept : Stands (freezeProfile s)
          { freezeProfile s with defrost.want := wantAfter (freezeProfile s) } := ⟨rfl, rfl, rfl, rfl, rfl, rfl, rfl⟩
      exact stands_trans kept (stands_blocks (Defrost.evaluateWant_blocks _))
    · exact stands_blocks (blocksResponded_refl _)
  exact stands_trans want (stands_blocks (evaluateChain_blocks _))

/-- The accepted station, as what its blocks leave of the frozen profile's values. -/
theorem acceptProfile_stands {s : State} (joining : s.mode = .joining) :
    Stands { freezeProfile s with mode := acceptedState (frozen s) } (acceptProfile s) := by
  have values := frozen_stands s
  have entered := enterState_stands (acceptedState (frozen s)) (s := frozen s) (values.mode.trans joining)
  have start : Stands { freezeProfile s with mode := acceptedState (frozen s) }
      { frozen s with mode := acceptedState (frozen s) } :=
    ⟨rfl, values.station, values.neighbours, values.statusTimer, values.dose, values.duty, values.debt⟩
  rw [acceptProfile_eq]
  exact stands_trans start (stands_trans entered (stands_blocks (framesQueued_blocks (queueHold_framesQueued _))))

theorem frozen_accepted {s : State} (joining : s.mode = .joining) :
    (acceptProfile s).station = (frozen s).station
      ∧ (acceptProfile s).peer.neighbours = (frozen s).peer.neighbours := by
  have accepted := acceptProfile_stands joining
  have values := frozen_stands s
  exact ⟨Eq.trans (b := (freezeProfile s).station) accepted.station values.station.symm,
    Eq.trans (b := (freezeProfile s).peer.neighbours) accepted.neighbours values.neighbours.symm⟩

/-- Settles O21, from what `freezeProfile` writes and what entering the accepted state leaves of it. -/
theorem profileAccepted : Obligations.ProfileAccepted := by
  intro f rest s ho ha joining passes
  have exec := exec_accept ho ha joining passes
  have mode : (handed f rest s).mode = .joining := (handed_mode ..).trans joining
  have station : (handed f rest s).station = s.station := handed_station ..
  have now := Handover.handed_now f rest s
  generalize handed f rest s = v at exec mode station now
  obtain ⟨same, known⟩ := frozen_accepted mode
  have accepted := acceptProfile_stands mode
  have complete := Restarting.complete_congr same known
  have latch : (frozen v).station.faultLatch = s.station.faultLatch := by
    rw [(frozen_stands v).station, ← station]
    rfl
  generalize acceptProfile v = w at exec accepted complete same
  have frozenStation : w.station = { s.station with pendingProfile := [], frozen := some s.station.pendingProfile } := by
    refine Eq.trans (b := (freezeProfile v).station) accepted.station ?_
    rw [← station]
    rfl
  have items : v.station.pendingProfile = s.station.pendingProfile := by rw [station]
  have head : w.isHead = (freezeProfile v).isHead := Restarting.isHead_congr accepted.station
  have freeze : w.hasRole .freeze = (freezeProfile v).hasRole .freeze := by
    unfold State.hasRole State.role State.items
    rw [accepted.station]
  rw [← items, ← now]
  refine next_of_done exec ⟨by rw [items]; exact frozenStation, accepted.neighbours, ?faulted, ?ready, ?profiled,
    accepted.statusTimer, accepted.dose, ?duty, ?debt⟩
  case faulted => exact fun latched => accepted.mode.trans (if_pos (latch.trans latched))
  case ready =>
    intro clear known
    have rests := restState_complete (complete.1 known)
    exact accepted.mode.trans ((if_neg (by rw [latch, clear]; exact Bool.false_ne_true)).trans rests)
  case profiled =>
    intro clear unknown
    have rests := restState_incomplete fun h => unknown (complete.2 h)
    exact accepted.mode.trans ((if_neg (by rw [latch, clear]; exact Bool.false_ne_true)).trans rests)
  case duty =>
    rw [settle_isHead, head]
    exact accepted.duty
  case debt =>
    rw [settle_hasRole, freeze]
    exact accepted.debt

/-! ### The channels of the states entered (R156, R157, R171 to R173) -/

/-- What acceptance says of the channels: a state entered with a fresh run. -/
theorem accept_channels {s : State} (joining : s.mode = .joining)
    (live : liveState (acceptedState (frozen s)) = true) :
    Pulsed (freshPosture { frozen s with mode := acceptedState (frozen s) }) (acceptProfile s) := by
  have mode : (frozen s).mode = .joining := (frozen_stands s).mode.trans joining
  have posture : changePosture .joining { frozen s with mode := acceptedState (frozen s) }
      = freshPosture { frozen s with mode := acceptedState (frozen s) } := by
    unfold changePosture
    rw [show liveState .joining = false from rfl, live]
    rfl
  have responds := respondToState_pulsed (old := .joining)
    (s := freshPosture { frozen s with mode := acceptedState (frozen s) }) (.inr rfl)
  rw [acceptProfile_eq]
  unfold enterState
  rw [mode, posture]
  exact pulsed_trans responds (rested_pulsed (Rest.framesQueued_rested (queueHold_framesQueued _)))

theorem lineRestart_pulsed (f : Frame) (s : State) : Pulsed (Restarting.entering s) (lineRestart f s) := by
  have unforming := (Restarting.entering_empty s).2.1
  rw [Restarting.lineRestart_eq]
  exact pulsed_trans (respondToState_pulsed (.inl unforming)) (rested_pulsed (setReasons_rested _ _))

theorem lineRestart_still (f : Frame) {s : State} (profiled : Restarting.restartTarget s = .profiled) :
    (lineRestart f s).channels = (Restarting.entering s).channels := by
  obtain ⟨_, unforming, _, _, _, mode⟩ := Restarting.entering_empty s
  have still := respondToState_still (old := (Restarting.chained s).mode) (s := Restarting.entering s) (.inl unforming)
    (by rw [mode, profiled]; rfl) (by rw [mode, profiled]; rfl)
  rw [Restarting.lineRestart_eq]
  exact (rested_channels (setReasons_rested _ _)).trans still

/-- A fresh posture, as the commands that enter a state state it. -/
theorem posture_follows {s t : State} {r : Nat → ChannelRecord} (record : ∀ ch, s.channelRecord ch = r ch)
    (mode : t.mode = s.mode) (follows : liveState s.mode = true → Pulsed (freshPosture s) t) :
    (settle t).mode = .ready ∨ (settle t).mode = .faulted → BasesAtStart (settle t)
      ∧ ∀ ch (h : ch < 6), (r ch).mode ≠ .eventPulse →
          ((settle t).mode = .faulted → (r ch).faultGoverned = true → (settle t).channels.chans[ch].run = .forced)
          ∧ ((settle t).mode = .ready ∨ (r ch).faultGoverned = false →
              Started (r ch) (settle t).channels.chans[ch]) := by
  intro entered
  rw [settle_mode, mode] at entered ⊢
  have live : liveState s.mode = true := by rcases entered with h | h <;> rw [h] <;> rfl
  obtain ⟨bases, chans⟩ := fresh_follows live (follows live)
  refine ⟨bases, fun ch hc hm => ?_⟩
  rw [← record] at hm ⊢
  obtain ⟨forced, started⟩ := chans ch hc hm
  exact ⟨forced, fun h => started (h.imp_left fun ready => by rw [ready]; nofun)⟩

theorem handed_channels (f : Frame) (rest : List Frame) (s : State) : (handed f rest s).channels = s.channels :=
  (rested_channels (Rest.handDownstream_rested _ _)).trans (taken_channels f rest s)

theorem accepted_channelsFollow {f : Frame} {rest : List Frame} {s : State} (ho : Oldest .profileEnd f rest s)
    (ha : Admitted f s) (joining : s.mode = .joining)
    (passes : profileFailure s.station.pendingProfile (payloadByte f.payload 0) = none) :
    ∃ t, Next .profileEnd s t
      ∧ (t.mode = .ready ∨ t.mode = .faulted → BasesAtStart t
          ∧ ∀ ch (h : ch < 6), (t.channelRecord ch).mode ≠ .eventPulse →
              (t.mode = .faulted → (t.channelRecord ch).faultGoverned = true → t.channels.chans[ch].run = .forced)
              ∧ (t.mode = .ready ∨ (t.channelRecord ch).faultGoverned = false →
                  Started (t.channelRecord ch) t.channels.chans[ch])) := by
  have exec := exec_accept ho ha joining passes
  have mode : (handed f rest s).mode = .joining := (handed_mode ..).trans joining
  generalize handed f rest s = v at exec mode
  have accepted := acceptProfile_stands mode
  have follows := accept_channels mode
  obtain ⟨same, _⟩ := frozen_accepted mode
  generalize acceptProfile v = w at exec accepted same follows
  rw [show acceptedState (frozen v) = w.mode from accepted.mode.symm] at follows
  have record : ∀ ch, (settle w).channelRecord ch = w.channelRecord ch := fun _ => rfl
  exact next_of_done exec (posture_follows (s := { frozen v with mode := w.mode })
    (fun ch => (channelRecord_station same.symm ch).trans (record ch).symm) rfl follows)

theorem restart_channelsFollow {f : Frame} {rest : List Frame} {s : State} (ho : Oldest .restart f rest s)
    (ha : Admitted f s) :
    ∃ t, Next .restart s t
      ∧ (t.mode = .profiled → Dormant t)
      ∧ (t.mode = .ready ∨ t.mode = .faulted → BasesAtStart t
          ∧ ∀ ch (h : ch < 6), (s.channelRecord ch).mode ≠ .eventPulse →
              (t.mode = .faulted → (s.channelRecord ch).faultGoverned = true → t.channels.chans[ch].run = .forced)
              ∧ (t.mode = .ready ∨ (s.channelRecord ch).faultGoverned = false →
                  Started (s.channelRecord ch) t.channels.chans[ch])) := by
  have exec := Restarting.exec_restart ho ha
  have station : (handed f rest s).station = s.station := handed_station ..
  generalize handed f rest s = v at exec station
  have restarted := Restarting.lineRestart_restarted f v
  have still := lineRestart_still f (s := v)
  have follows := lineRestart_pulsed f v
  generalize lineRestart f v = w at exec restarted still follows
  have items : (Restarting.chained v).items = s.items := by
    have e := congrArg State.items (Restarting.chained_afresh v)
    refine Eq.trans (b := v.items) e ?_
    unfold State.items
    rw [station]
  have record : ∀ ch, ({ Restarting.chained v with mode := Restarting.restartTarget v } : State).channelRecord ch
      = s.channelRecord ch := fun ch => by
    exact congrArg (Machine.channelRecord · ch) items
  refine next_of_done exec ⟨fun profiled => ?_, ?_⟩
  · have target : Restarting.restartTarget v = .profiled := restarted.mode.symm.trans profiled
    exact dormant_follows (s := { Restarting.chained v with mode := Restarting.restartTarget v })
      (by rw [target]; rfl) (still target)
  · exact posture_follows (s := { Restarting.chained v with mode := Restarting.restartTarget v }) record
      restarted.mode (fun _ => follows)

theorem cleared_channelsFollow {f : Frame} {rest : List Frame} {s : State} (ho : Oldest .faultClear f rest s)
    (ha : Admitted f s) (inactive : s.faultIn = false) :
    ∃ t, Next .faultClear s t
      ∧ (t.mode = .profiled → Dormant t)
      ∧ (t.mode = .ready → BasesAtStart t
          ∧ ∀ ch (h : ch < 6), (s.channelRecord ch).mode ≠ .eventPulse →
              ((s.channelRecord ch).faultGoverned = true → Started (s.channelRecord ch) t.channels.chans[ch])
              ∧ ((s.channelRecord ch).faultGoverned = false → s.channels.chans[ch].run = .running →
                  t.channels.chans[ch]
                    = { channelTakes (s.channelRecord ch) 0 false s.channels.chans[ch] with
                        out := t.channels.chans[ch].out })) := by
  have exec := exec_faultClear ho ha
  have found := Restarting.handed_found f rest s
  have pulsed := handed_pulsed f rest s
  have channels := handed_channels f rest s
  generalize handed f rest s = v at exec found pulsed channels
  have faulted : v.mode = .faulted := found.mode.trans (by simpa [StateAccepts, ho.2.1] using ha.2.2)
  have record : ∀ ch, v.channelRecord ch = s.channelRecord ch := channelRecord_station found.station
  refine next_of_done exec ?_
  rcases clearFault_cases f faulted (found.input.trans inactive) with ⟨entered, mode⟩ | ⟨entered, mode⟩
  · rw [mode, entered]
    refine ⟨nofun, fun _ => ?_⟩
    obtain ⟨bases, chans⟩ := ready_channels (s := { v with station.faultLatch := false }) faulted
    refine ⟨bases, fun ch hc hm => ?_⟩
    have both := chans ch hc
    have same : ({ v with station.faultLatch := false } : State).channelRecord ch = s.channelRecord ch := record ch
    have chan : ({ v with station.faultLatch := false } : State).channels.chans[ch] = s.channels.chans[ch] := by
      have e := congrArg (fun c : Channels => c.chans[ch]) channels
      exact e
    rw [same, chan] at both
    exact both hm
  · rw [mode, entered]
    exact ⟨fun _ => profiled_channels (s := { v with station.faultLatch := false }) faulted, nofun⟩

theorem run_channelsFollow {f : Frame} {rest : List Frame} {s : State} (ho : Oldest .run f rest s)
    (ha : Admitted f s) :
    ∃ t, Next .run s t
      ∧ t.channels.tb0 = s.channels.tb0 ∧ t.channels.tb1 = s.channels.tb1 ∧ t.channels.belt = s.channels.belt
      ∧ (∀ ch (h : ch < 6), (s.channelRecord ch).mode ≠ .eventPulse →
          t.channels.chans[ch] = { s.channels.chans[ch] with out := t.channels.chans[ch].out }) := by
  have from' : (handed f rest s).mode = .ready ∨ (handed f rest s).mode = .draining := by
    rw [handed_mode]
    simpa [StateAccepts, ho.2.1] using ha.2.2
  exact next_of_done (exec_run ho ha) (pulsed_settle (pulsed_trans (handed_pulsed f rest s) (run_pulsed from')))

/-- Settles O60, a clause for each of the four commands. -/
theorem channelsFollowState : Obligations.ChannelsFollowState :=
  ⟨fun _ _ _ ho ha joining passes => accepted_channelsFollow ho ha joining passes,
    fun _ _ _ ho ha _ => restart_channelsFollow ho ha,
    fun _ _ _ ho ha inactive => cleared_channelsFollow ho ha inactive,
    fun _ _ _ ho ha => run_channelsFollow ho ha⟩

end Sys2Proof.Acceptance


/-! PROOFS. The held tags stay unique (R72, R103): a command issues at most 49 tags, each the first of the sequence that
no list holds, and takes others only from the lists and from the receive buffer. -/

namespace Sys2Proof.Tags

open Sys2Proof Sys2Proof.Machine Sys2Proof.Safety Sys2Proof.Laws Sys2Proof.Changes

/-! ### The tag sequence -/

theorem mkTag_injective {n a b : Nat} (ha : a < 2048) (hb : b < 2048) (h : mkTag n a = mkTag n b) : a = b := by
  have e := congrArg BitVec.toNat h
  simp only [mkTag, BitVec.toNat_ofNat] at e
  omega

/-- The tag that is `j` places ahead in the sequence of the station that the command found. -/
def tagAt (s : State) (j : Nat) : Tag := mkTag s.station.number ((s.tracking.tagSeq + j) % 2048)

theorem tagAt_injective {s : State} {i j : Nat} (hi : i < 2048) (hj : j < 2048) (h : tagAt s i = tagAt s j) : i = j := by
  have e := mkTag_injective (Nat.mod_lt _ (by decide)) (Nat.mod_lt _ (by decide)) h
  omega

/-- The tags of the queue and of the arrivals list. -/
def listedTags (s : State) : List Tag := s.tracking.zone.map (·.tag) ++ s.arrivals.map (·.image.tag)

theorem mem_listedTags {s : State} {t : Tag} : t ∈ listedTags s ↔ (s.zoneHolds t || s.arrivalsHold t) = true := by
  simp [listedTags, State.zoneHolds, State.arrivalsHold]

/-- The search for a free tag passes listed ones only, and stops at the first that is not (R72). -/
theorem freeSequence_walks (s : State) (fuel seq : Nat) (small : seq < 2048) :
    ∃ k ≤ fuel, freeSequence s fuel seq = (seq + k) % 2048
      ∧ (∀ j < k, mkTag s.station.number ((seq + j) % 2048) ∈ listedTags s)
      ∧ (k < fuel → mkTag s.station.number ((seq + k) % 2048) ∉ listedTags s) := by
  induction fuel generalizing seq with
  | zero => exact ⟨0, le_rfl, (Nat.mod_eq_of_lt small).symm, nofun, nofun⟩
  | succ fuel ih =>
    unfold freeSequence
    dsimp only
    have here : mkTag s.station.number seq = mkTag s.station.number ((seq + 0) % 2048) := by
      rw [Nat.add_zero, Nat.mod_eq_of_lt small]
    split
    · next held =>
      obtain ⟨k, le, value, passed, stops⟩ := ih ((seq + 1) % 2048) (Nat.mod_lt _ (by decide))
      have shift : ∀ j, ((seq + 1) % 2048 + j) % 2048 = (seq + (j + 1)) % 2048 := fun j => by omega
      refine ⟨k + 1, Nat.succ_le_succ le, value.trans (shift k), fun j hj => ?_, fun more => ?_⟩
      · cases j with
        | zero => exact here ▸ mem_listedTags.2 held
        | succ j => exact shift j ▸ passed j (Nat.lt_of_succ_lt_succ hj)
      · exact shift k ▸ stops (Nat.lt_of_succ_lt_succ more)
    · next free =>
      refine ⟨0, Nat.zero_le _, (Nat.mod_eq_of_lt small).symm, nofun, fun _ => ?_⟩
      rw [← here, mem_listedTags]
      exact free

/-- A run of tags that all are in a list is no longer than the list. -/
theorem run_length_le {n seq k : Nat} {l : List Tag} (short : k ≤ 2048)
    (h : ∀ j < k, mkTag n ((seq + j) % 2048) ∈ l) : k ≤ l.length := by
  have nodup : ((List.range k).map fun j => mkTag n ((seq + j) % 2048)).Nodup := by
    refine List.Nodup.map_on (fun i hi j hj same => ?_) List.nodup_range
    have e := mkTag_injective (Nat.mod_lt _ (by decide)) (Nat.mod_lt _ (by decide)) same
    have hi := List.mem_range.1 hi
    have hj := List.mem_range.1 hj
    omega
  have sub := (nodup.subperm fun t ht => by
    obtain ⟨j, hj, rfl⟩ := List.mem_map.1 ht
    exact h j (List.mem_range.1 hj) : List.Subperm _ l).length_le
  simpa using sub

/-- The tag that is issued: the first free one, with at most as many passed as are listed. -/
theorem issueTag_walks {s : State} (small : s.tracking.tagSeq < 2048) (few : (listedTags s).length < 2048) :
    ∃ k ≤ (listedTags s).length,
      issueTag s = (tagAt s k, { s with tracking.tagSeq := (s.tracking.tagSeq + (k + 1)) % 2048 })
        ∧ (∀ j < k, tagAt s j ∈ listedTags s) ∧ tagAt s k ∉ listedTags s := by
  obtain ⟨k, le, value, passed, stops⟩ := freeSequence_walks s 2048 s.tracking.tagSeq small
  have short := run_length_le le passed
  refine ⟨k, short, ?_, passed, stops (by omega)⟩
  unfold issueTag
  dsimp only
  rw [value]
  have next : ((s.tracking.tagSeq + k) % 2048 + 1) % 2048 = (s.tracking.tagSeq + (k + 1)) % 2048 := by omega
  rw [next]
  rfl

/-! ### What a command keeps of the tags -/

/-- The tags of a command that began in `s0` and has taken `a` places of the sequence. -/
structure TagsKept (s0 : State) (d : Owed) (s : State) (a : Nat) : Prop where
  nodup : (heldTags s ++ d.tags).Nodup
  known : ∀ t ∈ heldTags s ++ d.tags, t ∈ namedTags s0 ∨ ∃ i < a, t = tagAt s0 i
  sequence : s.tracking.tagSeq = (s0.tracking.tagSeq + a) % 2048
  count : a ≤ d.issued + (List.range a).countP (fun i => decide (tagAt s0 i ∈ namedTags s0))
  merge : ∀ m, s.tracking.mergeBound = some m → ∀ j, a ≤ j → j < 128 → tagAt s0 j ≠ m.tag
  bound : a ≤ 128

variable {s0 : State} {d : Owed}

/-- At most as many of the taken places are passed as tags are named. -/
theorem passed_le {a : Nat} (h : a ≤ 2048) :
    (List.range a).countP (fun i => decide (tagAt s0 i ∈ namedTags s0)) ≤ (namedTags s0).length := by
  rw [List.countP_eq_length_filter]
  have nodup : (((List.range a).filter fun i => decide (tagAt s0 i ∈ namedTags s0)).map (tagAt s0)).Nodup := by
    refine List.Nodup.map_on (fun i hi j hj same => ?_) (List.nodup_range.filter _)
    have hi := List.mem_range.1 (List.mem_filter.1 hi).1
    have hj := List.mem_range.1 (List.mem_filter.1 hj).1
    exact tagAt_injective (by omega) (by omega) same
  have sub := (nodup.subperm fun t ht => by
    obtain ⟨j, hj, rfl⟩ := List.mem_map.1 ht
    exact of_decide_eq_true (List.mem_filter.1 hj).2 : List.Subperm _ (namedTags s0)).length_le
  simpa using sub

theorem nodup_of_subperm {l l' : List Tag} (h : l.Subperm l') (n : l'.Nodup) : l.Nodup := by
  obtain ⟨r, perm, sub⟩ := h
  exact perm.nodup_iff.1 (n.sublist sub)

/-- Changes that bring in no tag. -/
theorem tagsKept_of_subperm {e : Owed} {s t : State} {a : Nat} (k : TagsKept s0 d s a)
    (tags : (heldTags t ++ e.tags).Subperm (heldTags s ++ d.tags)) (sequence : t.tracking.tagSeq = s.tracking.tagSeq)
    (issued : d.issued ≤ e.issued)
    (merge : ∀ m, t.tracking.mergeBound = some m → ∃ m', s.tracking.mergeBound = some m' ∧ m.tag = m'.tag) :
    TagsKept s0 e t a where
  nodup := nodup_of_subperm tags k.nodup
  known x hx := k.known x (tags.subset hx)
  sequence := sequence.trans k.sequence
  count := k.count.trans (Nat.add_le_add_right issued _)
  merge m hm j low high := by
    obtain ⟨m', hm', same⟩ := merge m hm
    rw [same]
    exact k.merge m' hm' j low high
  bound := k.bound

theorem tagsKept_same {e : Owed} {s t : State} {a : Nat} (k : TagsKept s0 d s a) (held : heldTags t = heldTags s)
    (tags : e.tags = d.tags) (sequence : t.tracking.tagSeq = s.tracking.tagSeq) (issued : d.issued ≤ e.issued)
    (merge : t.tracking.mergeBound = s.tracking.mergeBound) : TagsKept s0 e t a :=
  tagsKept_of_subperm k (by rw [held, tags]) sequence issued fun m hm => ⟨m, merge ▸ hm, rfl⟩

theorem sameUnits_tags {z z' : List UnitRecord} (h : SameUnits z z') : z'.map (·.tag) = z.map (·.tag) := by
  have e := congrArg (List.map (·.tag)) h
  simpa only [List.map_map, Function.comp_def, withoutHandover] using e

theorem tagsKept_frames {e : Owed} {s t : State} {a : Nat} (h : FramesQueued s t) (k : TagsKept s0 d s a)
    (tags : e.tags = d.tags) (issued : d.issued ≤ e.issued) : TagsKept s0 e t a := by
  have zone := sameUnits_tags h.2
  have arrivals : t.arrivals = s.arrivals := by have g := congrArg State.arrivals h.1; exact g
  have merge : t.tracking.mergeBound = s.tracking.mergeBound := by
    have g := congrArg (fun v : State => v.tracking.mergeBound) h.1
    exact g
  have sequence : t.tracking.tagSeq = s.tracking.tagSeq := by
    have g := congrArg (fun v : State => v.tracking.tagSeq) h.1
    exact g
  refine tagsKept_same k ?_ tags sequence issued merge
  unfold heldTags
  rw [zone, arrivals, merge]

/-! ### The single changes -/

theorem Act.issued_le {e : Owed} {s t : State} (h : Act s0 d s e t) : d.issued ≤ e.issued := by
  cases h with
  | owe h => exact h.issued
  | issue => exact Nat.le_succ _
  | _ => exact le_rfl

/-- The tags of the lists and of a merge-bound segment, in their order. -/
theorem heldTags_eq (s : State) :
    heldTags s = listedTags s ++ (s.tracking.mergeBound.map (·.tag)).toList := rfl

theorem listed_known {s : State} {a : Nat} (k : TagsKept s0 d s a) {t : Tag} (h : t ∈ listedTags s) :
    t ∈ namedTags s0 ∨ ∃ i < a, t = tagAt s0 i :=
  k.known t (List.mem_append_left _ (List.mem_append_left _ h))

/-- The tag of an entering record leaves the hand of the command (R71). -/
theorem zoneMore_subperm {t : Tag} {z z' l m tags : List Tag} (h : z'.Subperm (t :: z)) :
    (((z' ++ l) ++ m) ++ tags).Subperm (((z ++ l) ++ m) ++ (t :: tags)) := by
  have mid : (((z ++ l) ++ m) ++ (t :: tags)).Perm ((t :: z) ++ (l ++ (m ++ tags))) := by
    simpa using List.perm_middle (a := t) (l₁ := z ++ (l ++ m)) (l₂ := tags)
  have start : (((z' ++ l) ++ m) ++ tags) = z' ++ (l ++ (m ++ tags)) := by simp
  rw [start]
  exact ((List.subperm_append_right _).2 h).trans mid.symm.subperm

/-- A tag is issued: none of the named ones, and none that the command has issued before. -/
theorem issue_tagsKept {s : State} {a : Nat} (k : TagsKept s0 d s a) (empty : d.tags = []) (few : d.issued ≤ 49)
    (named : (namedTags s0).length ≤ 33) (tracking : TrackingKept s) (number : s.station.number = s0.station.number) :
    ∃ a', TagsKept s0 { d with tags := [(issueTag s).1], issued := d.issued + 1 } (issueTag s).2 a' := by
  have short : a ≤ 82 := by
    have := passed_le (s0 := s0) (k.bound.trans (by decide : 128 ≤ 2048))
    have := k.count
    omega
  have lists : (listedTags s).length ≤ 28 := by
    unfold listedTags
    rw [List.length_append, List.length_map, List.length_map]
    exact Nat.add_le_add tracking.zone tracking.arrivals
  have at_eq : ∀ j, tagAt s j = tagAt s0 (a + j) := fun j => by
    unfold tagAt
    rw [number, k.sequence]
    congr 1
    omega
  obtain ⟨n, few', value, passed, free⟩ := issueTag_walks tracking.tagSequence (by omega : (listedTags s).length < 2048)
  have named' : ∀ j < n, tagAt s0 (a + j) ∈ namedTags s0 := fun j hj => by
    rcases listed_known k (passed j hj) with h | ⟨i, hi, same⟩
    · exact at_eq j ▸ h
    · rw [at_eq] at same
      have := tagAt_injective (by omega) (by omega) same
      omega
  have unheld : tagAt s0 (a + n) ∉ heldTags s := by
    rw [← at_eq, heldTags_eq, List.mem_append]
    rintro (h | h)
    · exact free h
    · obtain ⟨m, hm, same⟩ : ∃ m, s.tracking.mergeBound = some m ∧ m.tag = tagAt s n := by simpa using h
      exact k.merge m hm (a + n) (Nat.le_add_right _ _) (by omega) ((at_eq n).symm.trans same.symm)
  rw [value, at_eq]
  refine ⟨a + (n + 1), ?nodup, ?known, ?sequence, ?count, ?merge, by omega⟩
  case nodup =>
    have old := k.nodup
    rw [empty, List.append_nil] at old
    exact List.nodup_append'.2 ⟨old, List.nodup_singleton _, List.disjoint_singleton.2 unheld⟩
  case known =>
    intro t ht
    rcases List.mem_append.1 ht with h | h
    · rcases k.known t (List.mem_append_left _ h) with h | ⟨i, hi, same⟩
      · exact .inl h
      · exact .inr ⟨i, by omega, same⟩
    · exact .inr ⟨a + n, by omega, List.mem_singleton.1 h⟩
  case sequence =>
    show (s.tracking.tagSeq + (n + 1)) % 2048 = _
    rw [k.sequence]
    omega
  case count =>
    have all : n ≤ (List.range (n + 1)).countP ((fun i => decide (tagAt s0 i ∈ namedTags s0)) ∘ (a + ·)) := by
      have passes : (List.range n).countP ((fun i => decide (tagAt s0 i ∈ namedTags s0)) ∘ (a + ·)) = n :=
        (List.countP_eq_length.2 fun j hj => decide_eq_true (named' j (List.mem_range.1 hj))).trans List.length_range
      rw [List.range_succ, List.countP_append, passes]
      exact Nat.le_add_right _ _
    have := k.count
    show a + (n + 1) ≤ d.issued + 1 + _
    rw [List.range_add, List.countP_append, List.countP_map]
    omega
  case merge => exact fun m hm j low high => k.merge m hm j (by omega) high

/-- The arrival that is taken was the only one of its tag. -/
theorem withoutArrival_tags {x : Tag} {l : List Arrival} (h : (l.map (·.image.tag)).Nodup) :
    x ∉ (withoutArrival x l).map (·.image.tag) := by
  unfold withoutArrival
  induction l with
  | nil => nofun
  | cons y l ih =>
    obtain ⟨new, rest⟩ := List.nodup_cons.1 h
    by_cases same : y.image.tag = x
    · rw [List.eraseP_cons_of_pos (by simpa using same), ← same]
      exact new
    · rw [List.eraseP_cons_of_neg (by simpa using same), List.map_cons, List.mem_cons]
      rintro (found | later)
      · exact same found.symm
      · exact ih rest later

/-- What each change keeps of the tags. -/
theorem Act.tagsKept {e : Owed} {s t : State} {a : Nat} (h : Act s0 d s e t) (k : TagsKept s0 d s a)
    (few : d.issued ≤ 49) (named : (namedTags s0).length ≤ 33) (fresh : FreshTags s0) (tracking : TrackingKept s)
    (number : s.station.number = s0.station.number) : ∃ a', TagsKept s0 e t a' := by
  cases h with
  | owe h => exact ⟨a, tagsKept_same k rfl h.tags.symm rfl h.issued rfl⟩
  | frame f _ _ _ => exact ⟨a, tagsKept_frames (queueFrame_framesQueued f s) k rfl le_rfl⟩
  | statusFrame => exact ⟨a, tagsKept_frames (queueStatus_framesQueued s) k rfl le_rfl⟩
  | holdFrame => exact ⟨a, tagsKept_frames (queueHold_framesQueued s) k rfl le_rfl⟩
  | holdAnswer => exact ⟨a, tagsKept_frames (queueFrame_framesQueued _ s) k rfl le_rfl⟩
  | loss n x => exact ⟨a, tagsKept_frames (settleLoss_framesQueued n x s) k rfl le_rfl⟩
  | grant i | defer i | withdraw i | expire i => cases i <;> exact ⟨a, tagsKept_same k rfl rfl rfl le_rfl rfl⟩
  | zone z tags _ =>
    refine ⟨a, tagsKept_same k ?_ rfl rfl le_rfl rfl⟩
    unfold heldTags
    rw [tags]
  | zoneLess z h =>
    refine ⟨a, tagsKept_of_subperm k (List.Sublist.subperm ?_) rfl le_rfl fun m hm => ⟨m, hm, rfl⟩⟩
    exact ((((h.map _).append_right _).append_right _).append_right _)
  | zoneMore r _ _ =>
    refine ⟨a, tagsKept_of_subperm k (zoneMore_subperm ?_) rfl le_rfl fun m hm => ⟨m, hm, rfl⟩⟩
    exact ((insertByHead_perm r _).map _).subperm
  | zoneSwap r _ _ =>
    refine ⟨a, tagsKept_of_subperm k (zoneMore_subperm ?_) rfl le_rfl fun m hm => ⟨m, hm, rfl⟩⟩
    exact ((insertByHead_perm r _).map _).subperm.trans
      (((List.dropLast_sublist s.tracking.zone).map _).cons_cons r.tag).subperm
  | tagGone x =>
    exact ⟨a, tagsKept_of_subperm k ((List.sublist_cons_self x e.tags).append_left _).subperm rfl le_rfl
      fun m hm => ⟨m, hm, rfl⟩⟩
  | issue empty => exact issue_tagsKept k empty few named tracking number
  | mergeGrows m n found =>
    refine ⟨a, tagsKept_of_subperm k ?_ rfl le_rfl fun m' hm => ⟨m, found, by rw [← Option.some.inj hm]⟩⟩
    unfold heldTags
    rw [found]
    exact List.Subperm.refl _
  | mergeEnds m found =>
    refine ⟨a, tagsKept_of_subperm k ?_ rfl le_rfl nofun⟩
    unfold heldTags
    rw [found]
    simp [List.Subperm.refl]
  | mergeStarts m n none tag last =>
    have small := tracking.tagSequence
    refine ⟨a, ⟨?nodup, ?known, k.sequence, k.count, ?merge, k.bound⟩⟩
    case nodup =>
      have old := k.nodup
      unfold heldTags at old ⊢
      rw [none] at old
      simpa using old
    case known =>
      intro x hx
      refine k.known x ?_
      unfold heldTags at hx ⊢
      rw [none]
      simpa using hx
    case merge =>
      intro m' hm j low high same
      obtain rfl := Option.some.inj hm
      rw [tag, number] at same
      have value := congrArg BitVec.toNat same
      have seq := k.sequence
      simp only [tagAt, mkTag, BitVec.toNat_ofNat] at value
      omega
  | arrivals l tags =>
    refine ⟨a, tagsKept_same k ?_ rfl rfl le_rfl rfl⟩
    unfold heldTags
    rw [tags]
  | arrivalsLess l h =>
    refine ⟨a, tagsKept_of_subperm k (List.Sublist.subperm ?_) rfl le_rfl fun m hm => ⟨m, hm, rfl⟩⟩
    exact ((((h.map _).append_left _).append_right _).append_right _)
  | arrivalTaken x known zone merge empty =>
    have unlisted : x ∉ s.tracking.zone.map (·.tag) := by
      simpa [State.zoneHolds] using zone
    have left : ((withoutArrival x s.arrivals).map (·.image.tag)).Sublist (s.arrivals.map (·.image.tag)) :=
      List.eraseP_sublist.map _
    have old := k.nodup
    unfold heldTags at old
    rw [merge, empty] at old
    have lists : (s.tracking.zone.map (·.tag) ++ s.arrivals.map (·.image.tag)).Nodup := by simpa using old
    have gone := withoutArrival_tags (x := x) (List.nodup_append'.1 lists).2.1
    have held : heldTags (dropArrival x s)
        = s.tracking.zone.map (·.tag) ++ (withoutArrival x s.arrivals).map (·.image.tag) := by
      show _ ++ _ ++ (s.tracking.mergeBound.map (·.tag)).toList = _
      rw [merge]
      simp [dropArrival]
    refine ⟨a, ⟨?nodup, ?known, k.sequence, k.count, k.merge, k.bound⟩⟩
    case nodup =>
      rw [held]
      refine List.nodup_append'.2 ⟨lists.sublist (left.append_left _), List.nodup_singleton x, ?_⟩
      rw [List.disjoint_singleton, List.mem_append]
      exact fun h => h.elim unlisted gone
    case known =>
      intro y hy
      rw [held] at hy
      rcases List.mem_append.1 hy with h | h
      · exact listed_known k ((left.append_left _).subset h)
      · exact .inl (List.mem_singleton.1 h ▸ known)
  | arrivalMore x f _ _ merge heard image zone held empty =>
    have arrives : x.image.tag ∉ heldTags s := by
      rw [heldTags_eq, List.mem_append, mem_listedTags, zone, held]
      rintro (h | h)
      · nomatch h
      · obtain ⟨m, hm, same⟩ : ∃ m, s.tracking.mergeBound = some m ∧ m.tag = x.image.tag := by simpa using h
        exact (fresh m (merge ▸ hm)).1 f heard (image.symm.trans same.symm)
    have tags : (heldTags { s with arrivals := s.arrivals ++ [x] }).Perm (x.image.tag :: heldTags s) := by
      unfold heldTags
      simp only [List.map_append, List.map_cons, List.map_nil]
      simpa using List.perm_middle (a := x.image.tag)
        (l₁ := s.tracking.zone.map (·.tag) ++ s.arrivals.map (·.image.tag))
        (l₂ := (s.tracking.mergeBound.map (·.tag)).toList)
    have old := k.nodup
    rw [empty, List.append_nil] at old
    refine ⟨a, ⟨?nodup, ?known, k.sequence, k.count, k.merge, k.bound⟩⟩
    case nodup =>
      show (heldTags { s with arrivals := s.arrivals ++ [x] } ++ d.tags).Nodup
      rw [empty, List.append_nil, tags.nodup_iff]
      exact List.nodup_cons.2 ⟨arrives, old⟩
    case known =>
      intro y hy
      have hy : y ∈ heldTags { s with arrivals := s.arrivals ++ [x] } ++ d.tags := hy
      rw [empty, List.append_nil, tags.mem_iff, List.mem_cons] at hy
      rcases hy with rfl | h
      · refine .inl ?_
        unfold namedTags
        exact List.mem_append_right _ (List.mem_map.2 ⟨f, heard, image.symm⟩)
      · exact k.known y (List.mem_append_left _ h)
  | _ => exact ⟨a, tagsKept_same k rfl rfl rfl le_rfl rfl⟩

/-! ### The commands -/

theorem tagsKept_start {s : State} (h : UniqueTags s) (fresh : FreshTags s) (small : s.tracking.tagSeq < 2048) :
    TagsKept s .none s 0 where
  nodup := by rw [show Owed.none.tags = [] from rfl, List.append_nil]; exact h
  known t ht := by
    rw [show Owed.none.tags = [] from rfl, List.append_nil] at ht
    exact .inl (List.mem_append_left _ ht)
  sequence := (Nat.mod_eq_of_lt small).symm
  count := Nat.zero_le _
  merge m hm j _ high := (fresh m hm).2 j high
  bound := by decide

theorem namedTags_length {s : State} (h : Capacities s) : (namedTags s).length ≤ 33 := by
  have merge : ((s.tracking.mergeBound.map (·.tag)).toList).length ≤ 1 := by
    cases s.tracking.mergeBound with
    | none => exact Nat.zero_le _
    | some _ => exact le_rfl
  have zone := h.zoneQueue
  have arrivals := h.arrivalsList
  have buffer := h.receiveBuffer
  simp only [namedTags, heldTags, List.length_append, List.length_map] at merge ⊢
  omega

/-- Every command but FULL_RESET keeps the held tags unique. -/
theorem next_uniqueTags {c : Instr} {s t : State} (h : Next c s t) (hc : ∀ n r, c ≠ .fullReset n r) (k : Capacities s)
    (unique : UniqueTags s) (fresh : FreshTags s) : UniqueTags t := by
  obtain ⟨e, u, ha, ht, hm⟩ := next_acts h hc
  have kept := ha.keeps (P := fun d u => TrackingKept u ∧ SameStation s u ∧ (d.issued ≤ 49 → ∃ a, TagsKept s d u a))
    (fun act ⟨tracking, station, tags⟩ => ⟨act.trackingKept tracking, act.sameStation station, fun few => by
      have few := (Act.issued_le act).trans few
      obtain ⟨a, tags⟩ := tags few
      exact Act.tagsKept act tags few (namedTags_length k) fresh tracking station.number⟩)
    ⟨trackingKept_of_capacities k, sameStation_refl s, fun _ => ⟨0, tagsKept_start unique fresh k.tagSequence⟩⟩
  obtain ⟨a, tags⟩ := kept.2.2 (hm.issued k.zoneQueue)
  have nodup := tags.nodup
  rw [hm.tags, List.append_nil] at nodup
  have held : heldTags t = heldTags u := by rw [ht.eq]; rfl
  unfold UniqueTags
  rw [held]
  exact nodup

/-! ### The door (R182) -/

theorem doorRests_iff {s : State} : DoorServed s ↔ DoorRests s := by
  unfold DoorServed DoorRests doorState
  simp only [Bool.and_eq_false_iff, Bool.not_eq_false', decide_eq_false_iff_not, List.isEmpty_iff, List.mem_cons,
    List.not_mem_nil, or_false]
  cases s.hasRole .transfer <;> simp <;> tauto

/-- A door that rests goes on resting with no more carriers, and in the same state of the same station. -/
theorem doorRests_of {s t : State} (h : DoorRests s) (mode : t.mode = s.mode) (items : t.items = s.items)
    (door : t.packing.door = s.packing.door) (list : s.packing.doorList = [] → t.packing.doorList = []) :
    DoorRests t := by
  rw [← doorRests_iff] at h ⊢
  have role : t.hasRole .transfer = s.hasRole .transfer := by
    unfold State.hasRole State.role
    rw [items]
  unfold DoorServed at h ⊢
  rw [role, mode, door]
  exact fun transfer live => (h transfer live).imp_left list

theorem doorRests_frames {s t : State} (h : FramesQueued s t) (k : DoorRests s) : DoorRests t := by
  rw [h.1]
  exact k

/-- Where a command does not owe the door's request test, no carrier waits at an IDLE door. -/
theorem Act.doorRests {e : Owed} {s t : State} (h : Act s0 d s e t) (k : d.door = false → DoorRests s) :
    e.door = false → DoorRests t := by
  intro served
  cases h with
  | owe h => exact k (by cases hd : d.door with | false => rfl | true => exact (h.door hd).symm.trans served)
  | frame f _ _ _ => exact doorRests_frames (queueFrame_framesQueued f s) (k served)
  | statusFrame => exact doorRests_frames (queueStatus_framesQueued s) (k served)
  | holdFrame => exact doorRests_frames (queueHold_framesQueued s) (k served)
  | holdAnswer => exact doorRests_frames (queueFrame_framesQueued _ s) (k served)
  | loss n x => exact doorRests_frames (settleLoss_framesQueued n x s) (k served)
  | grant i | defer i | withdraw i | expire i => cases i <;> exact k served
  | doorMore | doorIdle | freeze | mode => nomatch served
  | doorLess l h => exact doorRests_of (k served) rfl rfl rfl fun empty => List.sublist_nil.1 (empty ▸ h)
  | doorBusy c busy => exact doorRests_iff.1 fun _ _ => .inr busy
  | doorRests h => exact h
  | quiet => exact doorRests_iff.1 fun _ live => by rcases live with h | h | h | h <;> nomatch h
  | _ => exact k served

theorem next_doorServed {c : Instr} {s t : State} (h : Next c s t) (hc : ∀ n r, c ≠ .fullReset n r)
    (k : DoorServed s) : DoorServed t := by
  obtain ⟨e, u, ha, ht, hm⟩ := next_acts h hc
  have kept := ha.keeps (P := fun d u => d.door = false → DoorRests u) Act.doorRests fun _ => doorRests_iff.1 k
  have rests := kept hm.door
  rw [ht.eq]
  exact doorRests_iff.2 rests

/-! ### FULL_RESET and the millisecond -/

theorem resetBlocks_capacities (n r : Nat) (s : State) : Capacities (resetBlocks n r s) where
  transmitQueue := Start.reset_capacities.transmitQueue
  transmitOrder := List.Pairwise.nil
  ownFrames := nofun
  receiveBuffer := Start.reset_capacities.receiveBuffer
  zoneQueue := Start.reset_capacities.zoneQueue
  arrivalsList := Start.reset_capacities.arrivalsList
  doorList := Start.reset_capacities.doorList
  openCarrier := nofun
  joiningNoProfile _ := rfl
  noCarrierBefore _ := rfl
  offRun := Start.reset_capacities.offRun
  reverseDebt := Start.reset_capacities.reverseDebt
  tagSequence := Start.reset_capacities.tagSequence
  counters := Start.reset_capacities.counters
  zoneOrder := List.Pairwise.nil
  debt := Start.reset_capacities.debt
  pendingOrder := List.Pairwise.nil
  driveHistory := Start.reset_capacities.driveHistory
  doorHistory := Start.reset_capacities.doorHistory
  driveDeferral := nofun
  doorDeferral := nofun
  noDeferralBefore _ := ⟨rfl, rfl⟩
  idleLine := nofun

/-- What FULL_RESET leaves: the reset values, with the latch and its event where the fault input is active. -/
theorem fullReset_cases {n r : Nat} {s t : State} (h : Next (.fullReset n r) s t) :
    t = resetBlocks n r s
      ∨ t = { resetBlocks n r s with
          station.faultLatch := true
          link.txq := [⟨eventOf (resetBlocks n r s) 16 0 0, 0, false, false⟩] } := by
  obtain rfl := Host.Outcome.next.inj ((Reset.exec_fullReset n r s).symm.trans h)
  by_cases active : (resetBlocks n r s).faultIn = true ∧ (resetBlocks n r s).mode = .joining
  · exact .inr (Reset.joinWithFault_active active.1 active.2 rfl)
  · exact .inl (if_neg active)

theorem fullReset_capacities {n r : Nat} {s t : State} (h : Next (.fullReset n r) s t) : Capacities t := by
  have reset := resetBlocks_capacities n r s
  rcases fullReset_cases h with rfl | rfl
  · exact reset
  · exact
      { reset with
        transmitQueue := (by decide : 1 ≤ 8)
        transmitOrder := List.pairwise_singleton _ _
        ownFrames := fun e he => by rw [List.mem_singleton.1 he]; rfl
        idleLine := nofun }

theorem fullReset_empty {n r : Nat} {s t : State} (h : Next (.fullReset n r) s t) :
    heldTags t = [] ∧ t.packing.doorList = [] := by
  rcases fullReset_cases h with rfl | rfl <;> exact ⟨rfl, rfl⟩

/-- A step, as the millisecond or as the front command on the rest of the queue. -/
theorem step_cases {s t : State} (h : step s = .next t) :
    t = tick s ∨ ∃ c rest, Next c { s with pending := rest } t := by
  unfold step at h
  split at h
  · exact .inl (Host.Outcome.next.inj h).symm
  · next c rest _ => exact .inr ⟨c, rest, h⟩

theorem tick_capacities {s : State} (k : Capacities s) : Capacities (tick s) := { k with }

/-- Settles O2: the single changes of a command keep each part; FULL_RESET and the millisecond are read off. -/
theorem capacitiesKept : Obligations.CapacitiesKept := by
  refine ⟨fun s t k h => ?_, fun s t k unique fresh h => ?_, fun s t served h => ?_⟩
  · rcases step_cases h with rfl | ⟨c, rest, h⟩
    · exact tick_capacities k
    · by_cases reset : ∃ n r, c = .fullReset n r
      · obtain ⟨n, r, rfl⟩ := reset
        exact fullReset_capacities h
      · exact next_capacities h (fun n r hc => reset ⟨n, r, hc⟩) { k with }
  · rcases step_cases h with rfl | ⟨c, rest, h⟩
    · exact unique
    · by_cases reset : ∃ n r, c = .fullReset n r
      · obtain ⟨n, r, rfl⟩ := reset
        unfold UniqueTags
        rw [(fullReset_empty h).1]
        exact List.nodup_nil
      · exact next_uniqueTags h (fun n r hc => reset ⟨n, r, hc⟩) { k with } unique fresh
  · rcases step_cases h with rfl | ⟨c, rest, h⟩
    · exact served
    · by_cases reset : ∃ n r, c = .fullReset n r
      · obtain ⟨n, r, rfl⟩ := reset
        exact fun _ _ => .inl (fullReset_empty h).2
      · exact next_doorServed h (fun n r hc => reset ⟨n, r, hc⟩) served

end Sys2Proof.Tags


/-! PROOFS. The output pins and the holding reasons (R126, R127, R135, R156 to R170). -/

namespace Sys2Proof.Following

open Sys2Proof Sys2Proof.Machine Sys2Proof.Safety Sys2Proof.Laws Sys2Proof.Changes

/-! ### Output pins -/

theorem gateOpen_iff (s : State) : s.gateOpen = true ↔ GateOpen s := by
  have stops : s.downstreamStops = false ↔ (s.downstream ≠ 0 →
      (s.peerEntry s.downstream).holding = false ∧ (s.peerEntry s.downstream).stale = false) := by
    unfold State.downstreamStops State.downstreamEntry
    split
    · next none => simp [none]
    · next some => simp [some]
  unfold State.gateOpen GateOpen
  simp only [Bool.and_eq_true, Bool.not_eq_true', decide_eq_true_eq, stops, Bool.or_eq_true, Option.isNone_iff_eq_none,
    and_assoc]
  rfl

/-- The level that FOLLOW's sources name (R169). -/
theorem sourceLevel_iff (s : State) (source : Nat) :
    sourceLevel s source = true ↔ (source = 4 ∧ s.defrost.cycle ≠ none)
      ∨ (source = 5 ∧ ∃ e, s.packing.door = .opened e)
      ∨ (source = 6 ∧ s.flow.reasons ≠ ⟨false, false, false, false, false⟩) := by
  have door : s.doorOpen = true ↔ ∃ e, s.packing.door = .opened e := by
    unfold State.doorOpen
    cases s.packing.door <;> simp
  have holding : s.holding = true ↔ s.flow.reasons ≠ ⟨false, false, false, false, false⟩ := by
    rw [← not_iff_not, Bool.not_eq_true, not_not]
    unfold State.holding Reasons.holding
    rcases s.flow.reasons with ⟨level, idle, fault, defrost, full⟩
    simp only [Bool.or_eq_false_iff, Reasons.mk.injEq, and_assoc]
  unfold sourceLevel
  split
  · next h => simp [h, State.defrostActive, Option.isSome_iff_ne_none]
  split
  · next h => simp [h, door]
  split
  · next h => simp [h, holding]
  · next h4 h5 h6 => simp [h4, h5, h6]

/-- A RUNNING channel's output, row by row of its mode. -/
theorem channelOutput_row (s : State) (ch : Nat) {c : Channel} (running : c.run = .running) :
    OutputRow s ch (s.channelRecord ch) c.level (channelOutput s ch c) := by
  unfold channelOutput OutputRow
  dsimp only
  rw [if_neg (by rw [running]; exact fun h => h rfl)]
  generalize s.channelRecord ch = r
  cases mode : r.mode with
  | off => rfl
  | setAt | clearAt | toggle | onePulse | repeatPulse | eventPulse => rfl
  | segmentWindow =>
    simp only [windowMatches, UnitRecord.tail, List.any_eq_true, Bool.and_eq_true, decide_eq_true_eq]
    constructor
    · rintro ⟨u, mem, ⟨⟨disposition, low⟩, high⟩, some⟩
      exact ⟨some, u, mem, disposition, low, of_decide_eq_true high⟩
    · rintro ⟨some, u, mem, disposition, low, high⟩
      exact ⟨u, mem, ⟨⟨disposition, low⟩, decide_eq_true high⟩, some⟩
  | follow => exact sourceLevel_iff s r.source
  | duty =>
    intro v p reads
    have value : dutyBase s r = some (v, p) := by
      unfold dutyBase
      rcases reads with ⟨base, value, rfl⟩ | ⟨base, value, rfl⟩ <;> rw [base, value] <;> rfl
    dsimp only
    rw [value]
    refine ⟨fun free => ?_, fun head infeed => ?_⟩
    · dsimp only
      rw [if_neg fun both => free.elim (fun h => Bool.false_ne_true (h.symm.trans both.1)) fun h => h both.2]
      exact decide_eq_true_iff
    · dsimp only
      rw [if_pos ⟨head, infeed⟩, Bool.and_eq_true, gateOpen_iff]
      exact and_congr_right' decide_eq_true_iff

/-- Once a command has ended each pin is at its channel's level. -/
theorem settle_outputsFollow (u : State) : OutputsFollow (settle u) := by
  intro ch hc
  have get : (settle u).channels.chans[ch]
      = { u.channels.chans[ch] with out := channelOutput (settleLine u) ch u.channels.chans[ch] } :=
    mapChannels_get _ _ ch hc
  rw [get]
  refine ⟨fun stopped => Line.channelOutput_stopped _ ch stopped, fun running => ?_⟩
  exact channelOutput_row (settleLine u) ch running

theorem step_outputsFollow {s t : State} (k : OutputsFollow s) (h : step s = .next t) : OutputsFollow t := by
  rcases Tags.step_cases h with rfl | ⟨c, rest, h⟩
  · exact k
  · by_cases reset : ∃ n r, c = .fullReset n r
    · obtain ⟨n, r, rfl⟩ := reset
      have channels : t.channels = State.reset.channels := by
        rcases Tags.fullReset_cases h with rfl | rfl <;> rfl
      intro ch hc
      have stopped : t.channels.chans[ch] = stoppedChannel := by
        have e := congrArg (fun c : Channels => c.chans[ch]) channels
        exact e.trans (Start.reset_channel ch hc)
      rw [stopped]
      exact ⟨fun _ => rfl, nofun⟩
    · obtain ⟨e, u, _, settled, _⟩ := next_acts h (fun n r hc => reset ⟨n, r, hc⟩)
      cases settled with
      | outputs => exact settle_outputsFollow u
      | none i p r eq =>
        subst eq
        exact k

/-! ### Holding reasons -/

theorem beltState_iff (s : State) : beltState s.mode = true ↔ BeltMode s := by
  unfold beltState BeltMode
  simp only [decide_eq_true_eq, List.mem_cons, List.not_mem_nil, or_false]
  tauto

/-- The reasons other than LEVEL are those in force (R126). -/
theorem reasonsStand_iff (s : State) :
    s.reasonsInForce s.flow.reasons.level = s.flow.reasons ↔
      (s.flow.reasons.idle = true ↔ ¬ BeltMode s) ∧ (s.flow.reasons.fault = true ↔ s.mode = .faulted)
        ∧ (s.flow.reasons.defrost = true ↔ ∃ e, s.defrost.cycle = some ⟨.normal, e⟩)
        ∧ (s.flow.reasons.door = true ↔ s.hasRole .transfer = true ∧ 4 ≤ s.packing.doorList.length) := by
  have idle : (!beltState s.mode) = true ↔ ¬ BeltMode s := by
    rw [Bool.not_eq_true', ← Bool.not_eq_true, beltState_iff]
  have defrost : s.defrost.cycle.any (fun c => decide (c.kind = .normal)) = true
      ↔ ∃ e, s.defrost.cycle = some ⟨.normal, e⟩ := by
    rcases s.defrost.cycle with _ | ⟨kind, e⟩
    · simp
    · cases kind <;> simp
  have door : s.doorListFull = true ↔ s.hasRole .transfer = true ∧ 4 ≤ s.packing.doorList.length := by
    unfold State.doorListFull
    rw [Bool.and_eq_true, decide_eq_true_iff]
  have fault : decide (s.mode = .faulted) = true ↔ s.mode = .faulted := decide_eq_true_iff
  rw [← idle, ← fault, ← defrost, ← door, ← Bool.eq_iff_iff, ← Bool.eq_iff_iff, ← Bool.eq_iff_iff, ← Bool.eq_iff_iff]
  unfold State.reasonsInForce
  rcases s.flow.reasons with ⟨level, i, f, d, o⟩
  simp only [Reasons.mk.injEq, true_and]
  constructor
  · rintro ⟨rfl, rfl, rfl, rfl⟩
    exact ⟨rfl, rfl, rfl, rfl⟩
  · rintro ⟨rfl, rfl, rfl, rfl⟩
    exact ⟨rfl, rfl, rfl, rfl⟩

/-- LEVEL is as the hysteresis leaves it (R127). -/
def LevelStands (s : State) : Prop :=
  (s.holdLevel ≤ s.tracking.zone.length + s.arrivals.length → s.flow.reasons.level = true)
    ∧ (s.tracking.zone.length + s.arrivals.length < s.holdLevel →
      s.tracking.zone.length + s.arrivals.length ≤ s.releaseLevel → s.flow.reasons.level = false)

/-- A station before acceptance has nothing that could hold. -/
def Bare (s : State) : Prop :=
  s.mode = .joining ∧ s.tracking.zone = [] ∧ s.arrivals = [] ∧ s.packing.doorList = [] ∧ s.defrost.cycle = none
    ∧ s.flow.reasons.level = false

/-- What the changes of a command keep of the holding reasons. -/
structure ReasonsKept (d : Owed) (s : State) : Prop where
  joining : d.accepting = false → s.mode = .joining → s.station.frozen = none
  stands : s.mode ≠ .quiet → d.reasons = false → s.reasonsInForce s.flow.reasons.level = s.flow.reasons
  level : s.mode ≠ .quiet → s.hasProfile = true → d.level = false → LevelStands s
  bare : s.hasProfile = false → s.mode ≠ .quiet → Bare s

theorem reasonsFollow_iff (s : State) : ReasonsFollow s ↔ ReasonsKept .none s := by
  constructor
  · rintro ⟨joining, idle, fault, defrost, door, set, clear, bare⟩
    exact ⟨fun _ => joining, fun awake _ => (reasonsStand_iff s).2 ⟨idle awake, fault awake, defrost awake, door awake⟩,
      fun awake profile _ => ⟨set awake profile, clear awake profile⟩, bare⟩
  · rintro ⟨joining, stands, level, bare⟩
    have rows := fun awake => (reasonsStand_iff s).1 (stands awake rfl)
    exact ⟨joining rfl, fun awake => (rows awake).1, fun awake => (rows awake).2.1, fun awake => (rows awake).2.2.1,
      fun awake => (rows awake).2.2.2, fun awake profile => (level awake profile rfl).1,
      fun awake profile => (level awake profile rfl).2, bare⟩

variable {s0 : State} {d : Owed}

/-- The parts of a station that the holding reasons are read from stand. -/
structure SameReasons (s t : State) : Prop where
  mode : t.mode = s.mode
  frozen : t.station.frozen = s.station.frozen
  zone : t.tracking.zone.length = s.tracking.zone.length
  arrivals : t.arrivals.length = s.arrivals.length
  doorList : t.packing.doorList = s.packing.doorList
  cycle : t.defrost.cycle = s.defrost.cycle
  reasons : t.flow.reasons = s.flow.reasons

theorem bare_iff (s : State) : Bare s ↔ s.mode = .joining ∧ s.tracking.zone.length = 0 ∧ s.arrivals.length = 0
    ∧ s.packing.doorList = [] ∧ s.defrost.cycle = none ∧ s.flow.reasons.level = false := by
  unfold Bare
  rw [List.length_eq_zero_iff, List.length_eq_zero_iff]

theorem reasonsKept_of {e : Owed} {s t : State} (k : ReasonsKept d s) (h : SameReasons s t)
    (reasons : e.reasons = false → d.reasons = false) (level : e.level = false → d.level = false)
    (accepting : e.accepting = false → d.accepting = false) : ReasonsKept e t := by
  have items : t.items = s.items := by unfold State.items; rw [h.frozen]
  have profile : t.hasProfile = s.hasProfile := by unfold State.hasProfile; rw [h.frozen]
  refine ⟨fun a m => ?_, fun awake r => ?_, fun awake held l => ?_, fun none awake => ?_⟩
  · rw [h.frozen]
    exact k.joining (accepting a) (h.mode ▸ m)
  · have old := k.stands (h.mode ▸ awake) (reasons r)
    unfold State.reasonsInForce State.doorListFull State.hasRole State.role at old ⊢
    rw [h.reasons, h.mode, h.cycle, h.doorList, items]
    exact old
  · have old := k.level (h.mode ▸ awake) (profile ▸ held) (level l)
    unfold LevelStands State.holdLevel State.releaseLevel State.item at old ⊢
    rw [h.reasons, h.zone, h.arrivals, items]
    exact old
  · rw [bare_iff, h.mode, h.zone, h.arrivals, h.doorList, h.cycle, h.reasons, ← bare_iff]
    exact k.bare (profile ▸ none) (h.mode ▸ awake)

theorem sameReasons_frames {s t : State} (h : FramesQueued s t) : SameReasons s t := by
  have zone := sameUnits_length h.2
  have whole := h.1
  constructor
  case zone => exact zone
  case mode => have e := congrArg State.mode whole; exact e
  case frozen => have e := congrArg (fun v : State => v.station.frozen) whole; exact e
  case arrivals => have e := congrArg (fun v : State => v.arrivals.length) whole; exact e
  case doorList => have e := congrArg (fun v : State => v.packing.doorList) whole; exact e
  case cycle => have e := congrArg (fun v : State => v.defrost.cycle) whole; exact e
  case reasons => have e := congrArg (fun v : State => v.flow.reasons) whole; exact e

/-- A station that is not bare holds a profile or is not told to. -/
theorem not_bare {s : State} (active : Active s) (none : s.hasProfile = false) : ¬ s.mode = .joining := by
  rcases active with h | h
  · exact absurd (h.symm.trans none) nofun
  · exact h

/-- Changes of a station that no longer is bare. -/
theorem bare_of_active {s t : State} (k : ReasonsKept d s) (active : Active s) (mode : t.mode = s.mode)
    (profile : t.hasProfile = s.hasProfile) : t.hasProfile = false → t.mode ≠ .quiet → Bare t := by
  intro none awake
  exact absurd (k.bare (profile ▸ none) (mode ▸ awake)).1 (not_bare active (profile ▸ none))

theorem levelAfter_stands {s t : State} (level : t.flow.reasons.level = levelAfter s)
    (items : t.items = s.items) (zone : t.tracking.zone = s.tracking.zone) (arrivals : t.arrivals = s.arrivals) :
    LevelStands t := by
  unfold LevelStands State.holdLevel State.releaseLevel State.item
  rw [level, items, zone, arrivals]
  unfold levelAfter State.holdLevel State.releaseLevel State.item
  dsimp only
  refine ⟨fun full => if_pos full, fun less low => ?_⟩
  rw [if_neg (by omega), if_pos low]

theorem levelStands_reasons {s : State} (h : s.reasonsInForce (levelAfter s) = s.flow.reasons) :
    s.reasonsInForce s.flow.reasons.level = s.flow.reasons := by
  have level : s.flow.reasons.level = levelAfter s := by rw [← h]; rfl
  rw [level, h]

/-- What each change keeps of the holding reasons. -/
theorem Act.reasonsKept {e : Owed} {s t : State} (h : Act s0 d s e t) (k : ReasonsKept d s) : ReasonsKept e t := by
  cases h with
  | owe h =>
    have lower : ∀ {a b : Bool}, (a = true → b = true) → b = false → a = false := fun {a b} imp hb => by
      cases a with
      | false => rfl
      | true => exact absurd (imp rfl) (by rw [hb]; nofun)
    exact reasonsKept_of k ⟨rfl, rfl, rfl, rfl, rfl, rfl, rfl⟩ (lower h.reasons) (lower h.level) (lower h.accepting)
  | frame f _ _ _ => exact reasonsKept_of k (sameReasons_frames (queueFrame_framesQueued f s)) id id id
  | statusFrame => exact reasonsKept_of k (sameReasons_frames (queueStatus_framesQueued s)) id id id
  | holdFrame => exact reasonsKept_of k (sameReasons_frames (queueHold_framesQueued s)) id id id
  | holdAnswer => exact reasonsKept_of k (sameReasons_frames (queueFrame_framesQueued _ s)) id id id
  | loss n x => exact reasonsKept_of k (sameReasons_frames (settleLoss_framesQueued n x s)) id id id
  | reasonsStand h => exact ⟨k.joining, fun _ _ => h, k.level, k.bare⟩
  | reasons => exact ⟨k.joining, fun _ _ => rfl, k.level, k.bare⟩
  | levelStands active h =>
    exact ⟨k.joining, fun _ _ => levelStands_reasons h, fun _ _ _ =>
      levelAfter_stands (by rw [← h]; rfl) rfl rfl rfl, k.bare⟩
  | level active =>
    exact ⟨k.joining, fun _ _ => rfl, fun _ _ _ => levelAfter_stands rfl rfl rfl rfl,
      bare_of_active k active rfl rfl⟩
  | flow f reasons _ _ => exact reasonsKept_of k ⟨rfl, rfl, rfl, rfl, rfl, rfl, reasons⟩ id id id
  | grant i | defer i | withdraw i | expire i =>
    cases i <;> exact reasonsKept_of k ⟨rfl, rfl, rfl, rfl, rfl, rfl, rfl⟩ id id id
  | zone z tags _ =>
    have length := congrArg List.length tags
    simp only [List.length_map] at length
    exact reasonsKept_of k ⟨rfl, rfl, length, rfl, rfl, rfl, rfl⟩ id id id
  | zoneLess z h =>
    refine ⟨k.joining, k.stands, nofun, fun none awake => ?_⟩
    obtain ⟨joining, zone, rest⟩ := k.bare none awake
    exact ⟨joining, List.sublist_nil.1 (zone ▸ h), rest⟩
  | zoneMore r _ active | zoneSwap r _ active =>
    exact ⟨k.joining, k.stands, nofun, bare_of_active k active rfl rfl⟩
  | arrivals l tags =>
    have length := congrArg List.length tags
    simp only [List.length_map] at length
    exact reasonsKept_of k ⟨rfl, rfl, rfl, length, rfl, rfl, rfl⟩ id id id
  | arrivalsLess l h =>
    refine ⟨k.joining, k.stands, nofun, fun none awake => ?_⟩
    obtain ⟨joining, zone, arrivals, rest⟩ := k.bare none awake
    exact ⟨joining, zone, List.sublist_nil.1 (arrivals ▸ h), rest⟩
  | arrivalTaken x =>
    refine ⟨k.joining, k.stands, nofun, fun none awake => ?_⟩
    obtain ⟨joining, zone, arrivals, rest⟩ := k.bare none awake
    refine ⟨joining, zone, ?_, rest⟩
    show withoutArrival x s.arrivals = []
    rw [arrivals]
    rfl
  | arrivalMore a f _ active => exact ⟨k.joining, k.stands, nofun, bare_of_active k active rfl rfl⟩
  | doorMore x active => exact ⟨k.joining, nofun, k.level, bare_of_active k active rfl rfl⟩
  | doorLess l h =>
    refine ⟨k.joining, nofun, k.level, fun none awake => ?_⟩
    obtain ⟨joining, zone, arrivals, list, rest⟩ := k.bare none awake
    exact ⟨joining, zone, arrivals, List.sublist_nil.1 (list ▸ h), rest⟩
  | cycle c h =>
    refine ⟨k.joining, nofun, k.level, fun none awake => ?_⟩
    obtain ⟨joining, zone, arrivals, list, _, level⟩ := k.bare none awake
    rcases h with rfl | active
    · exact ⟨joining, zone, arrivals, list, rfl, level⟩
    · exact absurd joining (not_bare active none)
  | freeze n joining passes _ fresh =>
    have none : s.hasProfile = false := by
      unfold State.hasProfile
      rw [k.joining fresh joining]
      rfl
    obtain ⟨_, zone, arrivals, _, _, level⟩ := k.bare none (by rw [joining]; nofun)
    have levels := (Stages.passes_of_none passes).levels
    refine ⟨nofun, nofun, fun _ _ _ => ⟨fun full => ?_, fun _ _ => level⟩, nofun⟩
    have full : itemNat s.station.pendingProfile 7 ≤ s.tracking.zone.length + s.arrivals.length := full
    rw [zone, arrivals] at full
    simp only [List.length_nil] at full
    omega
  | mode m active awake joining quiet =>
    refine ⟨fun _ h => absurd h joining, nofun, fun _ held l => k.level awake held l, fun none _ => ?_⟩
    exact absurd (k.bare none awake).1 (not_bare active none)
  | quiet =>
    have asleep : ∀ {P : Prop}, (StationState.quiet ≠ .quiet) → P := fun h => absurd rfl h
    exact ⟨nofun, fun h => asleep h, fun h => asleep h, fun _ h => asleep h⟩
  | _ => exact reasonsKept_of k ⟨rfl, rfl, rfl, rfl, rfl, rfl, rfl⟩ id id id

theorem reset_reasonsFollow {n r : Nat} {s t : State} (h : Next (.fullReset n r) s t) : ReasonsFollow t := by
  have reset : ReasonsFollow (resetBlocks n r s) := by
    cases straps : strapsValid n r with
    | false =>
      have quiet : (resetBlocks n r s).mode = .quiet := by rw [resetBlocks, straps]; rfl
      exact ⟨fun _ => rfl, fun h => absurd quiet h, fun h => absurd quiet h, fun h => absurd quiet h,
        fun h => absurd quiet h, nofun, nofun, fun _ h => absurd quiet h⟩
    | true =>
      have joining : (resetBlocks n r s).mode = .joining := by rw [resetBlocks, straps]; rfl
      have reasons : (resetBlocks n r s).flow.reasons = ⟨false, true, false, false, false⟩ := by
        rw [resetBlocks, straps]
      have rows := (reasonsStand_iff (resetBlocks n r s)).1 (by
        unfold State.reasonsInForce
        rw [reasons, joining]
        rfl)
      exact ⟨fun _ => rfl, fun _ => rows.1, fun _ => rows.2.1, fun _ => rows.2.2.1, fun _ => rows.2.2.2, nofun, nofun,
        fun _ _ => ⟨joining, rfl, rfl, rfl, rfl, by rw [reasons]⟩⟩
  rcases Tags.fullReset_cases h with rfl | rfl
  · exact reset
  · exact { reset with }

theorem step_reasonsFollow {s t : State} (k : ReasonsFollow s) (h : step s = .next t) : ReasonsFollow t := by
  rcases Tags.step_cases h with rfl | ⟨c, rest, h⟩
  · exact { k with }
  · by_cases reset : ∃ n r, c = .fullReset n r
    · obtain ⟨n, r, rfl⟩ := reset
      exact reset_reasonsFollow h
    · obtain ⟨e, u, acts, settled, meant⟩ := next_acts h (fun n r hc => reset ⟨n, r, hc⟩)
      have start : ReasonsFollow { s with pending := rest } := { k with }
      have kept := acts.keeps (P := ReasonsKept) Act.reasonsKept ((reasonsFollow_iff _).1 start)
      have ended : ReasonsKept .none u := reasonsKept_of kept ⟨rfl, rfl, rfl, rfl, rfl, rfl, rfl⟩
        (fun _ => meant.reasons) (fun _ => meant.level) fun _ => meant.accepting
      rw [settled.eq]
      exact { (reasonsFollow_iff u).2 ended with }

/-- Settles O59: the end of every command sets the pins, and the single changes of a command keep the reasons. -/
theorem outputsFollowKept : Obligations.OutputsFollowKept :=
  ⟨fun _ _ k h => step_outputsFollow k h, fun _ _ k h => step_reasonsFollow k h⟩

end Sys2Proof.Following


/-! PROOFS. LEVEL (R127), and the HOLD and the STATUS that a change of the reasons leaves (R52, R128). -/

namespace Sys2Proof.Announce

open Sys2Proof Sys2Proof.Machine Sys2Proof.Safety Sys2Proof.Laws Sys2Proof.Changes

/-! ### What waits -/

/-- An entry of this frame waits. -/
def Waits (f : Frame) (s : State) : Prop := ∃ e ∈ s.link.txq, e.sending = false ∧ e.frame = f

/-- From `s` to `t` no waiting HOLD is lost, a waiting STATUS only with TX_DROP counted above `drops`, and no frame goes
into transmission. Frames of the kind `but` may have merged. -/
structure Holds (drops : Nat) (but : Kind) (s t : State) : Prop where
  hold : ∀ f, f.kind = .hold → f.kind ≠ but → Waits f s → Waits f t
  counter : drops < 65535 → drops ≤ s.counters.txDrop → drops ≤ t.counters.txDrop
  status : drops < 65535 → drops ≤ s.counters.txDrop → t.counters.txDrop = drops → s.counters.txDrop = drops
    ∧ ∀ f, f.kind = .status → f.kind ≠ but → Waits f s → Waits f t
  sending : t.link.txq.countP (·.sending) ≤ s.link.txq.countP (·.sending)

namespace Holds

variable {drops : Nat} {k : Kind} {s t u : State}

theorem of_same (queue : t.link.txq = s.link.txq) (counter : t.counters.txDrop = s.counters.txDrop) :
    Holds drops k s t := by
  have waits : ∀ f, Waits f s → Waits f t := fun f h => by
    unfold Waits
    rw [queue]
    exact h
  exact ⟨fun f _ _ => waits f, fun _ => by rw [counter]; exact id,
    fun _ _ same => ⟨counter ▸ same, fun f _ _ => waits f⟩, by rw [queue]⟩

theorem refl (s : State) : Holds drops k s s := of_same rfl rfl

theorem trans (h : Holds drops k s t) (h' : Holds drops k t u) : Holds drops k s u where
  hold f kind other w := h'.hold f kind other (h.hold f kind other w)
  counter few least := h'.counter few (h.counter few least)
  status few least same := by
    obtain ⟨mid, later⟩ := h'.status few (h.counter few least) same
    obtain ⟨start, first⟩ := h.status few least mid
    exact ⟨start, fun f kind other w => later f kind other (first f kind other w)⟩
  sending := h'.sending.trans h.sending

/-- What merges neither a HOLD nor a STATUS keeps both. -/
theorem but (h : Holds drops .event s t) : Holds drops k s t where
  hold f kind _ := h.hold f kind (by rw [kind]; nofun)
  counter := h.counter
  status few least same := by
    obtain ⟨start, keeps⟩ := h.status few least same
    exact ⟨start, fun f kind _ => keeps f kind (by rw [kind]; nofun)⟩
  sending := h.sending

end Holds

/-! ### One frame -/

theorem waits_insert {f : Frame} {e : TxEntry} {q : List TxEntry}
    (h : ∃ x ∈ q, x.sending = false ∧ x.frame = f) : ∃ x ∈ insertEntry e q, x.sending = false ∧ x.frame = f := by
  obtain ⟨x, hx, w⟩ := h
  exact ⟨x, mem_insertEntry.2 (.inr hx), w⟩

theorem insert_sending {e : TxEntry} (w : e.sending = false) (q : List TxEntry) :
    (insertEntry e q).countP (·.sending) = q.countP (·.sending) := by
  rw [(insertEntry_perm e q).countP_eq, List.countP_cons, w]
  rfl

/-- What gives way is the last waiting entry. -/
theorem waits_drop {f : Frame} {e : TxEntry} {q : List TxEntry} (last : lastWaiting q = some e)
    (other : e.frame ≠ f) (h : ∃ x ∈ q, x.sending = false ∧ x.frame = f) :
    ∃ x ∈ dropLastWaiting q, x.sending = false ∧ x.frame = f := by
  obtain ⟨x, hx, waiting, frame⟩ := h
  unfold lastWaiting at last
  unfold dropLastWaiting
  refine ⟨x, ?_, waiting, frame⟩
  rw [List.mem_reverse]
  rw [← List.mem_reverse] at hx
  generalize q.reverse = r at last hx
  induction r with
  | nil => nomatch hx
  | cons y r ih =>
    rw [List.find?_cons] at last
    cases hy : y.sending with
    | false =>
      rw [hy] at last
      obtain rfl := Option.some.inj last
      rw [List.eraseP_cons_of_pos (by rw [hy]; rfl)]
      rcases List.mem_cons.1 hx with rfl | hx
      · exact absurd frame other
      · exact hx
    | true =>
      rw [hy] at last
      rw [List.eraseP_cons_of_neg (by rw [hy]; nofun)]
      rcases List.mem_cons.1 hx with rfl | hx
      · exact List.mem_cons_self
      · exact List.mem_cons_of_mem _ (ih last hx)

theorem lastWaiting_waits {q : List TxEntry} {e : TxEntry} (h : lastWaiting q = some e) :
    e ∈ q ∧ e.sending = false := by
  unfold lastWaiting at h
  have mem := List.mem_of_find?_eq_some h
  have waits := List.find?_some h
  exact ⟨List.mem_reverse.1 mem, by simpa using waits⟩

theorem replaceWaiting_sending (f : Frame) (q : List TxEntry) :
    (replaceWaiting f q).countP (·.sending) = q.countP (·.sending) := by
  unfold replaceWaiting
  rw [List.countP_map]
  refine List.countP_congr fun e _ => ?_
  show (if e.frame.kind = f.kind ∧ e.sending = false then { e with frame := f } else e).sending = true ↔ _
  split <;> exact .rfl

theorem waits_replace {f g : Frame} {q : List TxEntry} (other : g.kind ≠ f.kind)
    (h : ∃ x ∈ q, x.sending = false ∧ x.frame = g) : ∃ x ∈ replaceWaiting f q, x.sending = false ∧ x.frame = g := by
  obtain ⟨x, hx, waiting, frame⟩ := h
  exact ⟨x, List.mem_map.2 ⟨x, hx, if_neg fun both => other (frame ▸ both.1)⟩, waiting, frame⟩

/-- A frame that the link controller takes, merges or loses. -/
theorem enqueue_holds (drops : Nat) (f : Frame) (s : State) : Holds drops f.kind s (enqueue f s).1 := by
  have dropped : ∀ {q : List TxEntry}, q.countP (·.sending) ≤ s.link.txq.countP (·.sending) →
      (∀ g, g.kind = .hold → Waits g s → ∃ x ∈ q, x.sending = false ∧ x.frame = g) →
      Holds drops f.kind s (count .txDrop { s with link.txq := q }) := fun sends keeps =>
    ⟨fun g kind _ w => keeps g kind w,
      fun few least => by
        show drops ≤ min (s.counters.txDrop + 1) 65535
        omega,
      fun few least same => by
        have same : min (s.counters.txDrop + 1) 65535 = drops := same
        omega,
      sends⟩
  rcases enqueue_cases f s with ⟨he, _⟩ | ⟨_, ⟨_, he⟩ | ⟨_, he⟩ | ⟨e, last, less, _, he⟩ | ⟨_, he⟩⟩ <;> rw [he]
  · exact .refl s
  · exact ⟨fun g _ other => waits_replace other, fun _ => id, fun _ _ same => ⟨same, fun g _ other => waits_replace other⟩,
      (replaceWaiting_sending f _).le⟩
  · exact ⟨fun g _ _ => waits_insert, fun _ => id, fun _ _ same => ⟨same, fun g _ _ => waits_insert⟩,
      (insert_sending (e := ⟨f, 0, false, false⟩) rfl _).le⟩
  · refine dropped ?_ fun g kind w => waits_insert (waits_drop last (fun same => ?_) w)
    · rw [insert_sending rfl]
      exact (dropLastWaiting_sublist _).countP_le
    · rw [same, kind] at less
      exact absurd less (Nat.not_lt_zero _)
  · exact dropped le_rfl fun _ _ w => w

theorem setHandover_holds (drops : Nat) (t : Tag) (h : HandoverState) (n : Nat) (s : State) :
    Holds drops .event s (setHandover t h n s) := .of_same rfl rfl

theorem settleLoss_holds (drops n : Nat) (e : TxEntry) (s : State) : Holds drops .event s (settleLoss n e s) := by
  refine settleLoss_induction (I := Holds drops .event s) (fun u _ _ _ h => h.trans (setHandover_holds ..))
    (fun u r h => h.trans ?_) n e s (.refl s)
  have offered := enqueue_holds drops (offerFrame r u) u
  exact ⟨fun f kind _ => offered.hold f kind (by rw [kind]; nofun), offered.counter,
    fun few least same => ⟨(offered.status few least same).1,
      fun f kind _ => (offered.status few least same).2 f kind (by rw [kind]; nofun)⟩, offered.sending⟩

theorem queueFrame_after (drops : Nat) (f : Frame) (s : State) :
    Holds drops .event (enqueue f s).1 (queueFrame f s) := by
  unfold queueFrame
  split
  · next s1 he => rw [he]; exact .refl s1
  · next s1 e he => rw [he]; exact settleLoss_holds drops 4 e s1

theorem queueFrame_holds (drops : Nat) (f : Frame) (s : State) : Holds drops f.kind s (queueFrame f s) :=
  (enqueue_holds drops f s).trans (queueFrame_after drops f s).but

theorem lastWaiting_isSome {q : List TxEntry} (h : q.countP (·.sending) < q.length) : ∃ e, lastWaiting q = some e := by
  rw [← Option.isSome_iff_exists]
  unfold lastWaiting
  rw [List.find?_isSome]
  by_contra none
  push Not at none
  refine absurd (List.countP_eq_length.2 fun e he => ?_) h.ne
  simpa using none e (List.mem_reverse.2 he)

theorem kindClass_hold {k : Kind} (h : kindClass k = 0) : k = .hold := by
  cases k <;> first | rfl | nomatch h

/-- A merging frame of which one waits takes its place. -/
theorem enqueue_merges {f : Frame} {s : State} (awake : s.mode ≠ .quiet) (loud : s.link.silencing = false)
    (merges : (mergingKind f.kind && kindWaits f.kind s.link.txq) = true) : Waits f (enqueue f s).1 := by
  unfold enqueue
  rw [if_neg (by rw [loud]; exact fun h => h.elim awake nofun), if_pos merges]
  obtain ⟨e, mem, waits⟩ := List.any_eq_true.1 (Bool.and_eq_true_iff.1 merges).2
  obtain ⟨same, waits⟩ := Bool.and_eq_true_iff.1 waits
  have waits : e.sending = false := by simpa using waits
  exact ⟨{ e with frame := f }, List.mem_map.2 ⟨e, mem, if_pos ⟨of_decide_eq_true same, waits⟩⟩, waits, rfl⟩

/-- A frame with room joins. -/
theorem enqueue_joins {f : Frame} {s : State} (awake : s.mode ≠ .quiet) (loud : s.link.silencing = false)
    (apart : (mergingKind f.kind && kindWaits f.kind s.link.txq) = false) (room : s.link.txq.length < 8) :
    Waits f (enqueue f s).1 := by
  unfold enqueue
  rw [if_neg (by rw [loud]; exact fun h => h.elim awake nofun), if_neg (by rw [apart]; exact Bool.false_ne_true),
    if_pos room]
  exact ⟨_, mem_insertEntry.2 (.inl rfl), rfl, rfl⟩

/-- A HOLD that is queued waits: it gives way to none, and of 8 entries one waits that it displaces (R39 to R41). -/
theorem queueFrame_hold {f : Frame} {s : State} (kind : f.kind = .hold) (awake : s.mode ≠ .quiet)
    (loud : s.link.silencing = false) (few : s.link.txq.countP (·.sending) ≤ 4) : Waits f (queueFrame f s) := by
  refine (queueFrame_after 0 f s).hold f kind (by rw [kind]; nofun) ?_
  cases merges : mergingKind f.kind && kindWaits f.kind s.link.txq with
  | true => exact enqueue_merges awake loud merges
  | false =>
    by_cases room : s.link.txq.length < 8
    · exact enqueue_joins awake loud merges room
    · obtain ⟨e, last⟩ := lastWaiting_isSome (q := s.link.txq) (by omega)
      obtain ⟨mem, waits⟩ := lastWaiting_waits last
      have less : kindClass f.kind < kindClass e.frame.kind := by
        rw [kind]
        refine Nat.pos_of_ne_zero fun zero => ?_
        have same := kindClass_hold zero
        have found : kindWaits .hold s.link.txq = true :=
          List.any_eq_true.2 ⟨e, mem, by rw [same, waits]; rfl⟩
        rw [kind, found] at merges
        nomatch merges
      unfold enqueue
      rw [if_neg (by rw [loud]; exact fun h => h.elim awake nofun), if_neg (by rw [merges]; exact Bool.false_ne_true),
        if_neg room, last]
      dsimp only
      rw [if_pos less]
      exact ⟨_, mem_insertEntry.2 (.inl rfl), rfl, rfl⟩

/-- A STATUS that is queued waits, or a frame is lost. -/
theorem queueFrame_status {f : Frame} {s : State} {drops : Nat} (kind : f.kind = .status) (awake : s.mode ≠ .quiet)
    (loud : s.link.silencing = false) (small : drops < 65535) (least : drops ≤ s.counters.txDrop)
    (same : (queueFrame f s).counters.txDrop = drops) : Waits f (queueFrame f s) := by
  have first := enqueue_holds drops f s
  have later := queueFrame_after drops f s
  obtain ⟨mid, keeps⟩ := later.status small (first.counter small least) same
  refine keeps f kind (by rw [kind]; nofun) ?_
  cases merges : mergingKind f.kind && kindWaits f.kind s.link.txq with
  | true => exact enqueue_merges awake loud merges
  | false =>
    by_cases room : s.link.txq.length < 8
    · exact enqueue_joins awake loud merges room
    · have lost : (enqueue f s).1.counters.txDrop = min (s.counters.txDrop + 1) 65535 := by
        unfold enqueue
        rw [if_neg (by rw [loud]; exact fun h => h.elim awake nofun), if_neg (by rw [merges]; exact Bool.false_ne_true),
          if_neg room]
        split
        · split <;> rfl
        · rfl
      omega

/-! ### The single changes -/

variable {s0 : State} {d : Owed}

/-- What the changes of a command keep of the HOLD and the STATUS that it owes once it has changed the reasons. -/
structure Announced (s0 : State) (d : Owed) (s : State) : Prop where
  sending : s.link.txq.countP (·.sending) ≤ 4
  counter : s0.counters.txDrop < 65535 → s0.counters.txDrop ≤ s.counters.txDrop
  loud : d.line = false → s.link.silencing = false
  hold : d.line = false → d.answered = false → d.hold = false → s.mode ≠ .quiet → s.flow.reasons ≠ s0.flow.reasons →
    s.upstream ≠ 0 → Waits (holdFrame s) s
  status : d.line = false → d.answered = false → d.status = false → s.mode ≠ .quiet → s.mode ≠ .joining →
    s.flow.reasons ≠ s0.flow.reasons → s0.counters.txDrop < 65535 → s.counters.txDrop = s0.counters.txDrop →
    ∃ f, f.kind = .status ∧ f.payload.getD 2 0#8 = s.flow.reasons.byte ∧ Waits f s

/-- `t` keeps of `s` what a HOLD is built from. -/
structure SameHold (s t : State) : Prop where
  number : t.station.number = s.station.number
  reasons : t.flow.reasons = s.flow.reasons

theorem holdFrame_congr {s t : State} (h : SameHold s t) (upstream : t.upstream = s.upstream) :
    holdFrame t = holdFrame s := by
  unfold holdFrame ownFrame State.holding
  rw [h.number, h.reasons, upstream]

/-- Changes that queue no STATUS and no HOLD. -/
theorem announced_of {e : Owed} {s t : State} (k : Announced s0 d s) (h : Holds s0.counters.txDrop .event s t)
    (same : SameHold s t) (awake : t.mode ≠ .quiet → s.mode ≠ .quiet)
    (loud : e.line = false → d.line = false ∧ t.link.silencing = s.link.silencing)
    (answered : e.answered = false → d.answered = false)
    (hold : e.hold = false → d.hold = false ∧ t.upstream = s.upstream)
    (status : e.status = false → d.status = false ∧ t.mode = s.mode) : Announced s0 e t where
  sending := h.sending.trans k.sending
  counter small := h.counter small (k.counter small)
  loud l := (loud l).2.trans (k.loud (loud l).1)
  hold l a o m changed named := by
    obtain ⟨o, upstream⟩ := hold o
    rw [same.reasons] at changed
    rw [upstream] at named
    rw [holdFrame_congr same upstream]
    exact h.hold _ rfl nofun (k.hold (loud l).1 (answered a) o (awake m) changed named)
  status l a o m j changed small kept := by
    obtain ⟨o, mode⟩ := status o
    rw [same.reasons] at changed ⊢
    obtain ⟨before, keeps⟩ := h.status small (k.counter small) kept
    obtain ⟨f, kind, byte, waits⟩ := k.status (loud l).1 (answered a) o (awake m) (mode ▸ j) changed small before
    exact ⟨f, kind, byte, keeps f kind (by rw [kind]; nofun) waits⟩

theorem sameHold_frames {s t : State} (h : FramesQueued s t) : SameHold s t := by
  have whole := h.1
  have number := congrArg (fun v : State => v.station.number) whole
  have reasons := congrArg (fun v : State => v.flow.reasons) whole
  exact ⟨number, reasons⟩

/-- Frames that are neither a STATUS nor a HOLD. -/
theorem announced_frames {s t : State} (k : Announced s0 d s) (frames : FramesQueued s t)
    (h : Holds s0.counters.txDrop .event s t) : Announced s0 d t := by
  have mode := framesQueued_mode frames
  have silencing := congrArg (fun v : State => v.link.silencing) frames.1
  have upstream := congrArg State.upstream frames.1
  exact announced_of k h (sameHold_frames frames) (by rw [mode]; exact id) (fun l => ⟨l, silencing⟩) id
    (fun o => ⟨o, upstream⟩) fun o => ⟨o, mode⟩

/-- A frame that does not merge. -/
theorem queueFrame_apart {f : Frame} (drops : Nat) (s : State) (hold : f.kind ≠ .hold) (status : f.kind ≠ .status) :
    Holds drops .event s (queueFrame f s) := by
  have queued := queueFrame_holds drops f s
  exact ⟨fun g kind _ => queued.hold g kind (by rw [kind]; exact hold.symm), queued.counter,
    fun few least same => ⟨(queued.status few least same).1,
      fun g kind _ => (queued.status few least same).2 g kind (by rw [kind]; exact status.symm)⟩, queued.sending⟩

theorem statusFrame_announced {s : State} (k : Announced s0 d s) :
    Announced s0 { d with status := false } (queueStatus s) := by
  have frames := queueStatus_framesQueued s
  have mode := framesQueued_mode frames
  have silencing := congrArg (fun v : State => v.link.silencing) frames.1
  have upstream := congrArg State.upstream frames.1
  have same := sameHold_frames frames
  have queued := queueFrame_holds s0.counters.txDrop (ownFrame .status 0 s.statusPayload s) s
  refine ⟨queued.sending.trans k.sending, fun small => queued.counter small (k.counter small),
    fun l => Eq.trans (b := s.link.silencing) silencing (k.loud l), fun l a o m changed named => ?_,
    fun l a _ m j changed small kept => ?_⟩
  · rw [same.reasons] at changed
    rw [show (queueStatus s).upstream = s.upstream from upstream] at named
    rw [holdFrame_congr same upstream]
    exact queued.hold _ rfl nofun (k.hold l a o (mode ▸ m) changed named)
  · refine ⟨_, rfl, ?_, queueFrame_status (f := ownFrame .status 0 s.statusPayload s) rfl (mode ▸ m) (k.loud l) small
      (k.counter small) kept⟩
    rw [same.reasons]
    show s.statusPayload.getD 2 0#8 = _
    unfold State.statusPayload
    rw [if_neg (mode ▸ j)]
    rfl

theorem holdFrame_announced {s : State} (k : Announced s0 d s) :
    Announced s0 { d with hold := false } (queueHold s) := by
  unfold queueHold
  split
  · next none =>
    exact ⟨k.sending, k.counter, k.loud, fun _ _ _ _ _ named => absurd none named, k.status⟩
  · have frames := queueFrame_framesQueued (holdFrame s) s
    have mode := framesQueued_mode frames
    have silencing := congrArg (fun v : State => v.link.silencing) frames.1
    have upstream := congrArg State.upstream frames.1
    have same := sameHold_frames frames
    have queued := queueFrame_holds s0.counters.txDrop (holdFrame s) s
    refine ⟨queued.sending.trans k.sending, fun small => queued.counter small (k.counter small),
      fun l => Eq.trans (b := s.link.silencing) silencing (k.loud l), fun l a _ m changed named => ?_,
      fun l a o m j changed small kept => ?_⟩
    · rw [holdFrame_congr same upstream]
      exact queueFrame_hold rfl (mode ▸ m) (k.loud l) k.sending
    · rw [same.reasons] at changed ⊢
      obtain ⟨before, keeps⟩ := queued.status small (k.counter small) kept
      obtain ⟨f, kind, byte, waits⟩ := k.status l a o (mode ▸ m) (mode ▸ j) changed small before
      exact ⟨f, kind, byte, keeps f kind (by rw [kind]; nofun) waits⟩

/-- What each change keeps of the HOLD and the STATUS. -/
theorem Act.announced {e : Owed} {s t : State} (h : Act s0 d s e t) (k : Announced s0 d s) : Announced s0 e t := by
  have lower : ∀ {a b : Bool}, (a = true → b = true) → b = false → a = false := fun {a b} imp hb => by
    cases a with
    | false => rfl
    | true => exact absurd (imp rfl) (by rw [hb]; nofun)
  cases h with
  | owe h =>
    exact ⟨k.sending, k.counter, fun l => k.loud (lower h.line l),
      fun l a o => k.hold (lower h.line l) (lower h.answered a) (lower h.hold o),
      fun l a o => k.status (lower h.line l) (lower h.answered a) (lower h.status o)⟩
  | counter c other =>
    have same : (count c s).counters.txDrop = s.counters.txDrop := by cases c <;> first | rfl | exact absurd rfl other
    exact announced_of k (.of_same rfl same) ⟨rfl, rfl⟩ id (fun l => ⟨l, rfl⟩) id (fun o => ⟨o, rfl⟩) fun o => ⟨o, rfl⟩
  | frame f _ hold status =>
    exact announced_frames k (queueFrame_framesQueued f s) (queueFrame_apart _ s hold status)
  | statusFrame => exact statusFrame_announced k
  | holdFrame => exact holdFrame_announced k
  | holdAnswer =>
    have silencing := congrArg (fun v : State => v.link.silencing) (queueFrame_framesQueued (Machine.holdAnswer s) s).1
    have queued := queueFrame_holds s0.counters.txDrop (Machine.holdAnswer s) s
    exact ⟨queued.sending.trans k.sending, fun small => queued.counter small (k.counter small),
      fun l => Eq.trans (b := s.link.silencing) silencing (k.loud l), nofun, nofun⟩
  | loss n x => exact announced_frames k (settleLoss_framesQueued n x s) (settleLoss_holds _ n x s)
  | txq q leaves keeps =>
    rcases keeps with waits | unchanged
    · have kept : ∀ f, Waits f s → Waits f { s with link.txq := q } := fun f ⟨x, hx, w, frame⟩ =>
        ⟨x, waits x hx w, w, frame⟩
      exact announced_of k ⟨fun f _ _ => kept f, fun _ => id, fun _ _ same => ⟨same, fun f _ _ => kept f⟩, leaves.sending⟩
        ⟨rfl, rfl⟩ id (fun l => ⟨l, rfl⟩) id (fun o => ⟨o, rfl⟩) fun o => ⟨o, rfl⟩
    · exact ⟨leaves.sending.trans k.sending, k.counter, k.loud, fun _ _ _ _ changed => absurd unchanged changed,
        fun _ _ _ _ _ changed => absurd unchanged changed⟩
  | silence kind awake => exact ⟨Nat.zero_le _, k.counter, nofun, nofun, nofun⟩
  | busy => exact ⟨k.sending, k.counter, nofun, nofun, nofun⟩
  | idle => exact ⟨k.sending, k.counter, nofun, nofun, nofun⟩
  | reasons | level => exact ⟨k.sending, k.counter, k.loud, nofun, nofun⟩
  | flow f reasons => 
    exact announced_of k (.of_same rfl rfl) ⟨rfl, reasons⟩ id (fun l => ⟨l, rfl⟩) id (fun o => ⟨o, rfl⟩) fun o => ⟨o, rfl⟩
  | grant i | defer i | withdraw i | expire i =>
    cases i <;> exact announced_of k (.of_same rfl rfl) ⟨rfl, rfl⟩ id (fun l => ⟨l, rfl⟩) id (fun o => ⟨o, rfl⟩)
      fun o => ⟨o, rfl⟩
  | peer p upstream =>
    exact announced_of k (.of_same rfl rfl) ⟨rfl, rfl⟩ id (fun l => ⟨l, rfl⟩) id (fun o => ⟨o, upstream⟩)
      fun o => ⟨o, rfl⟩
  | upstream p | freeze =>
    exact announced_of k (.of_same rfl rfl) ⟨rfl, rfl⟩ id (fun l => ⟨l, rfl⟩) id nofun fun o => ⟨o, rfl⟩
  | mode m _ awake =>
    exact announced_of k (.of_same rfl rfl) ⟨rfl, rfl⟩ (fun _ => awake) (fun l => ⟨l, rfl⟩) id (fun o => ⟨o, rfl⟩) nofun
  | quiet =>
    exact ⟨k.sending, k.counter, fun _ => rfl, fun _ _ _ m => absurd rfl m, fun _ _ _ m => absurd rfl m⟩
  | _ => exact announced_of k (.of_same rfl rfl) ⟨rfl, rfl⟩ id (fun l => ⟨l, rfl⟩) id (fun o => ⟨o, rfl⟩) fun o => ⟨o, rfl⟩

theorem waits_settle {f : Frame} {u : State} (h : Waits f u) : ∃ e ∈ (settle u).link.txq, e.frame = f := by
  obtain ⟨e, mem, _, frame⟩ := h
  have found : f ∈ (settle u).link.txq.map (·.frame) := by
    rw [settle_frames]
    exact List.mem_map.2 ⟨e, mem, frame⟩
  exact List.mem_map.1 found

/-- A command that changes the reasons leaves a HOLD and a STATUS with them (R52, R128). -/
theorem next_announces {c : Instr} {s t : State} (hc : ∀ n r, c ≠ .fullReset n r) (h : Next c s t)
    (awake : t.mode ≠ .quiet) (joined : t.mode ≠ .joining) (loud : s.link.silencing = false)
    (room : s.link.txq.length ≤ 4) (changed : t.flow.reasons ≠ s.flow.reasons) :
    (t.upstream ≠ 0 → ∃ e ∈ t.link.txq, e.frame = holdFrame t)
      ∧ (s.counters.txDrop < 65535 → t.counters.txDrop = s.counters.txDrop →
        ∃ e ∈ t.link.txq, e.frame.kind = .status ∧ e.frame.payload.getD 2 0#8 = t.flow.reasons.byte) := by
  obtain ⟨e, u, acts, settled, meant⟩ := next_acts h hc
  have kept := acts.keeps (P := Announced s) Act.announced
    ⟨List.countP_le_length.trans room, fun _ => le_rfl, fun _ => loud, fun _ _ _ _ new => absurd rfl new,
      fun _ _ _ _ _ new => absurd rfl new⟩
  have line : e.line = false := by
    by_contra written
    exact changed (meant.line (by simpa using written)).2
  have answered : e.answered = false := by
    by_contra written
    exact changed (meant.answered (by simpa using written))
  cases settled with
  | none i p r eq =>
    subst eq
    exact absurd rfl changed
  | outputs =>
    refine ⟨fun named => waits_settle (kept.hold line answered meant.hold awake changed named), fun small same => ?_⟩
    obtain ⟨f, kind, byte, waits⟩ := kept.status line answered meant.status awake joined changed small same
    obtain ⟨x, mem, frame⟩ := waits_settle waits
    exact ⟨x, mem, by rw [frame]; exact kind, by rw [frame]; exact byte⟩

/-- Settles O52: LEVEL is what `levelAfter` says, and the frames are what `next_announces` leaves. -/
theorem levelHysteresis : Obligations.LevelHysteresis := by
  refine ⟨fun s apart => ?_, fun c s t hc h awake joined loud room changed => next_announces hc h awake joined loud room changed⟩
  have level : (evaluateLevel s).flow.reasons.level = levelAfter s := by
    have flow := Restarting.setReasons_flow_eq (levelAfter s) s
    unfold evaluateLevel
    rw [flow]
    rfl
  rw [level]
  unfold levelAfter
  dsimp only
  refine ⟨fun full => if_pos full, fun low => ?_, fun above below => ?_⟩
  · rw [if_neg (by omega), if_pos low]
  · rw [if_neg (by omega), if_neg (by omega)]

end Sys2Proof.Announce


/-! PROOFS. The transmit queue: what it does with a frame that a block hands it (R15, R39 to R42). -/

namespace Sys2Proof.Displacing

open Sys2Proof Sys2Proof.Machine Sys2Proof.Safety Sys2Proof.Laws

/-! ### The queue's own operations -/

/-- A frame joins behind those of its arbitration value and before those of a higher one (R39). -/
theorem insertEntry_between {e : TxEntry} {before after : List TxEntry}
    (low : ∀ x ∈ before, arbitration x.frame ≤ arbitration e.frame)
    (high : ∀ x ∈ after, arbitration e.frame < arbitration x.frame) :
    insertEntry e (before ++ after) = before ++ e :: after := by
  induction before with
  | nil =>
    cases after with
    | nil => rfl
    | cons x after => exact if_pos (high x List.mem_cons_self)
  | cons x before ih =>
    rw [List.cons_append, insertEntry, if_neg (Nat.not_lt.2 (low x List.mem_cons_self)),
      ih fun y hy => low y (List.mem_cons_of_mem x hy)]
    rfl

/-- The last waiting entry: only entries in transmission stand behind it. -/
theorem lastWaiting_eq {before after : List TxEntry} {e : TxEntry} (waits : e.sending = false)
    (sends : ∀ x ∈ after, x.sending = true) :
    lastWaiting (before ++ e :: after) = some e ∧ dropLastWaiting (before ++ e :: after) = before ++ after := by
  have behind : ∀ x ∈ after.reverse, ¬ (!x.sending) = true := fun x hx => by
    rw [sends x (List.mem_reverse.1 hx)]
    nofun
  unfold lastWaiting dropLastWaiting
  rw [List.reverse_append, List.reverse_cons, List.append_assoc]
  refine ⟨?_, ?_⟩
  · rw [List.find?_append, List.find?_eq_none.2 behind]
    simp [waits]
  · rw [List.eraseP_append_right _ behind]
    simp [waits]

/-- A merging frame takes the place of the one that waits (R40). -/
theorem replaceWaiting_eq {f : Frame} {before after : List TxEntry} {e : TxEntry} (kind : e.frame.kind = f.kind)
    (waits : e.sending = false) (others : ∀ x ∈ before ++ after, x.frame.kind = f.kind → x.sending = true) :
    replaceWaiting f (before ++ e :: after) = before ++ { e with frame := f } :: after := by
  have kept : ∀ q : List TxEntry, (∀ x ∈ q, x.frame.kind = f.kind → x.sending = true) → replaceWaiting f q = q :=
    fun q hq => by
      unfold replaceWaiting
      refine (List.map_congr_left fun x hx => ?_).trans (List.map_id q)
      exact if_neg fun both => by
        rw [hq x hx both.1] at both
        nomatch both.2
  have split : replaceWaiting f (before ++ e :: after)
      = replaceWaiting f before ++ { e with frame := f } :: replaceWaiting f after := by
    unfold replaceWaiting
    rw [List.map_append, List.map_cons, if_pos ⟨kind, waits⟩]
  rw [split, kept before fun x hx => others x (List.mem_append_left _ hx),
    kept after fun x hx => others x (List.mem_append_right _ hx)]

theorem kindWaits_none {k : Kind} {q : List TxEntry} (h : ∀ x ∈ q, x.frame.kind = k → x.sending = true) :
    kindWaits k q = false := by
  unfold kindWaits
  rw [List.any_eq_false]
  intro x hx both
  obtain ⟨kind, waits⟩ := Bool.and_eq_true_iff.1 both
  rw [h x hx (of_decide_eq_true kind)] at waits
  nomatch waits

/-! ### Handing a frame over, by the answer -/

section Awake

variable {f : Frame} {s : State} (awake : s.mode ≠ .quiet) (loud : s.link.silencing = false)

include awake loud

theorem enqueue_of_merges (merges : (mergingKind f.kind && kindWaits f.kind s.link.txq) = true) :
    enqueue f s = ({ s with link.txq := replaceWaiting f s.link.txq }, none) := by
  unfold enqueue
  rw [if_neg (by rw [loud]; exact fun h => h.elim awake nofun), if_pos merges]

variable (apart : (mergingKind f.kind && kindWaits f.kind s.link.txq) = false)

include apart

theorem enqueue_of_room (room : s.link.txq.length < 8) :
    enqueue f s = ({ s with link.txq := insertEntry ⟨f, 0, false, false⟩ s.link.txq }, none) := by
  unfold enqueue
  rw [if_neg (by rw [loud]; exact fun h => h.elim awake nofun), if_neg (by rw [apart]; exact Bool.false_ne_true),
    if_pos room]

variable (full : 8 ≤ s.link.txq.length)

include full

theorem enqueue_of_less {e : TxEntry} (last : lastWaiting s.link.txq = some e)
    (less : kindClass f.kind < kindClass e.frame.kind) :
    enqueue f s = (count .txDrop { s with
      link.txq := insertEntry ⟨f, 0, false, false⟩ (dropLastWaiting s.link.txq) }, some e) := by
  unfold enqueue
  rw [if_neg (by rw [loud]; exact fun h => h.elim awake nofun), if_neg (by rw [apart]; exact Bool.false_ne_true),
    if_neg (Nat.not_lt.2 full), last]
  exact if_pos less

theorem enqueue_of_lost (lost : ∀ e, lastWaiting s.link.txq = some e → kindClass e.frame.kind ≤ kindClass f.kind) :
    enqueue f s = (count .txDrop s, some ⟨f, 0, false, false⟩) := by
  unfold enqueue
  rw [if_neg (by rw [loud]; exact fun h => h.elim awake nofun), if_neg (by rw [apart]; exact Bool.false_ne_true),
    if_neg (Nat.not_lt.2 full)]
  split
  · next e last => exact if_neg (Nat.not_lt.2 (lost e last))
  · rfl

end Awake

theorem queueFrame_of_taken {f : Frame} {s u : State} (h : enqueue f s = (u, none)) : queueFrame f s = u := by
  unfold queueFrame
  rw [h]

theorem queueFrame_of_lost {f : Frame} {s u : State} {e : TxEntry} (h : enqueue f s = (u, some e)) :
    queueFrame f s = settleLoss 4 e u := by
  unfold queueFrame
  rw [h]

/-! ### An OFFER that gives way (log entries 15, 38 and 42) -/

/-- A full queue whose waiting entries are of the class of an OFFER or below. -/
structure Crowded (u : State) : Prop where
  awake : u.mode ≠ .quiet
  loud : u.link.silencing = false
  full : 8 ≤ u.link.txq.length
  classes : ∀ x ∈ u.link.txq, x.sending = false → kindClass x.frame.kind ≤ 1

theorem crowded_offer {u : State} (h : Crowded u) (r : UnitRecord) :
    enqueue (offerFrame r u) u = (count .txDrop u, some ⟨offerFrame r u, 0, false, false⟩) :=
  enqueue_of_lost h.awake h.loud rfl h.full fun e last => by
    obtain ⟨mem, waits⟩ := Announce.lastWaiting_waits last
    exact h.classes e mem waits

theorem findRecord_single {u : State} {r : UnitRecord} {t : Tag} (zone : u.tracking.zone = [r]) (tag : t = r.tag) :
    u.findRecord t = some r := by
  unfold State.findRecord
  rw [zone, tag]
  simp

theorem setHandover_single {u : State} {r : UnitRecord} {t : Tag} (zone : u.tracking.zone = [r]) (tag : t = r.tag)
    (h : HandoverState) (n : Nat) :
    setHandover t h n u = { u with tracking.zone := [{ r with handover := h, attempts := n }] } := by
  unfold setHandover updateRecord
  rw [zone, List.map_cons, List.map_nil, if_pos tag.symm]

/-- The record of a lost OFFER after `n` re-offers that met the full queue again. -/
theorem settleLoss_chain (n : Nat) {fuel : Nat} {u : State} {r : UnitRecord} {e : TxEntry} (crowded : Crowded u)
    (walking : u.mode ≠ .walking) (named : u.downstream ≠ 0) (enough : n < fuel) (attempts : r.attempts + n = 3)
    (zone : u.tracking.zone = [r]) (sending : r.handover = .offered .sending) (offer : e.frame.kind = .offer)
    (tag : (imageOf e.frame.payload).tag = r.tag) (image : imageOf (imageBytes (recordImage r)) = recordImage r)
    (limit : u.counters.txDrop ≤ 65535) :
    settleLoss fuel e u
      = { u with
          counters.txDrop := min (u.counters.txDrop + n) 65535
          tracking.zone := [{ r with handover := .offered .resting, attempts := 3 }] } := by
  induction n generalizing fuel u r e with
  | zero =>
    obtain ⟨fuel, rfl⟩ := Nat.exists_eq_succ_of_ne_zero (by omega : fuel ≠ 0)
    have rests : nextOffer u r = ({ r with handover := .offered .resting }, false) :=
      if_pos (.inr (.inr (by omega)))
    have counter : min (u.counters.txDrop + 0) 65535 = u.counters.txDrop := by omega
    have three : r.attempts = 3 := by omega
    rw [counter]
    unfold settleLoss
    rw [if_neg (by rw [offer]; exact fun h => h rfl)]
    dsimp only
    rw [findRecord_single zone tag]
    dsimp only
    rw [if_neg (fun h => h sending), rests, if_neg Bool.false_ne_true, setHandover_single zone tag, three]
  | succ n ih =>
    obtain ⟨fuel, rfl⟩ := Nat.exists_eq_succ_of_ne_zero (by omega : fuel ≠ 0)
    have again : nextOffer u r = ({ r with handover := .offered .sending, attempts := r.attempts + 1 }, true) :=
      if_neg (by rintro (h | h | h); exacts [walking h, named h, by omega])
    unfold settleLoss
    rw [if_neg (by rw [offer]; exact fun h => h rfl)]
    dsimp only
    rw [findRecord_single zone tag]
    dsimp only
    rw [if_neg (fun h => h sending), again, if_pos rfl, setHandover_single zone tag]
    have moved : Crowded { u with
        tracking.zone := [{ r with handover := .offered .sending, attempts := r.attempts + 1 }] } :=
      ⟨crowded.awake, crowded.loud, crowded.full, crowded.classes⟩
    rw [crowded_offer moved]
    dsimp only
    have next := ih (fuel := fuel)
      (u := count .txDrop { u with
        tracking.zone := [{ r with handover := .offered .sending, attempts := r.attempts + 1 }] })
      (r := { r with handover := .offered .sending, attempts := r.attempts + 1 })
      (e := ⟨offerFrame { r with handover := .offered .sending, attempts := r.attempts + 1 }
        { u with tracking.zone := [{ r with handover := .offered .sending, attempts := r.attempts + 1 }] },
        0, false, false⟩)
      ⟨crowded.awake, crowded.loud, crowded.full, crowded.classes⟩ walking named (by omega)
      (show r.attempts + 1 + n = 3 by omega) rfl rfl rfl (congrArg UnitImage.tag image) image
      (Nat.min_le_right _ _)
    refine next.trans ?_
    have counter : min (min (u.counters.txDrop + 1) 65535 + n) 65535 = min (u.counters.txDrop + (n + 1)) 65535 := by
      omega
    show ({ u with counters.txDrop := min (min (u.counters.txDrop + 1) 65535 + n) 65535, tracking.zone := _ } : State) = _
    rw [counter]

/-! ### The statement -/

theorem mergingKind_iff {k : Kind} : mergingKind k = true ↔ k = .status ∨ k = .hold := by
  unfold mergingKind
  rw [Bool.or_eq_true, decide_eq_true_iff, decide_eq_true_iff]

/-- A frame that does not merge, or of whose kind none waits. -/
theorem apart_of {f : Frame} {q : List TxEntry}
    (h : (f.kind ≠ .status ∧ f.kind ≠ .hold) ∨ ∀ x ∈ q, x.frame.kind = f.kind → x.sending = true) :
    (mergingKind f.kind && kindWaits f.kind q) = false := by
  rcases h with ⟨status, hold⟩ | sends
  · cases merges : mergingKind f.kind with
    | false => rfl
    | true => exact absurd (mergingKind_iff.1 merges) fun h => h.elim status hold
  · rw [kindWaits_none sends, Bool.and_false]

/-- What a queue of 8 makes of a frame of a lower class, where the entry that gives way is no OFFER. -/
theorem queueFrame_displaces {f : Frame} {s : State} {before after : List TxEntry} {e : TxEntry} (awake : s.mode ≠ .quiet)
    (loud : s.link.silencing = false) (apart : (mergingKind f.kind && kindWaits f.kind s.link.txq) = false)
    (full : 8 ≤ s.link.txq.length) (queue : s.link.txq = before ++ e :: after) (waits : e.sending = false)
    (sends : ∀ x ∈ after, x.sending = true) (less : kindClass f.kind < kindClass e.frame.kind) :
    queueFrame f s = settleLoss 4 e { s with
      link.txq := queued f (before ++ after)
      counters.txDrop := min (s.counters.txDrop + 1) 65535 } := by
  obtain ⟨last, rest⟩ := lastWaiting_eq (before := before) waits sends
  rw [← queue] at last rest
  have displaced := enqueue_of_less awake loud apart full last less
  rw [rest] at displaced
  exact queueFrame_of_lost displaced

/-- An OFFER that gives way is made again until its record rests (log entries 15, 38 and 42). -/
theorem queueFrame_displaces_offer {f : Frame} {s : State} {before after : List TxEntry} {e : TxEntry} {r : UnitRecord}
    (awake : s.mode ≠ .quiet) (loud : s.link.silencing = false)
    (apart : (mergingKind f.kind && kindWaits f.kind s.link.txq) = false) (queue : s.link.txq = before ++ e :: after)
    (waits : e.sending = false) (sends : ∀ x ∈ after, x.sending = true)
    (less : kindClass f.kind < kindClass e.frame.kind) (offer : e.frame.kind = .offer) (walking : s.mode ≠ .walking)
    (named : s.downstream ≠ 0) (eight : s.link.txq.length = 8) (zone : s.tracking.zone = [r])
    (tag : (imageOf e.frame.payload).tag = r.tag) (image : imageOf (imageBytes (recordImage r)) = recordImage r)
    (classes : ∀ x ∈ before, kindClass x.frame.kind ≤ 1) (sending : r.handover = .offered .sending)
    (attempts : r.attempts ≤ 3) :
    queueFrame f s
      = { s with
          link.txq := queued f (before ++ after)
          counters.txDrop := min (s.counters.txDrop + 4 - r.attempts) 65535
          tracking.zone := [{ r with handover := .offered .resting, attempts := 3 }] } := by
  have low : kindClass f.kind ≤ 1 := by
    rw [offer] at less
    exact Nat.le_of_lt less
  have crowded : Crowded { s with
      link.txq := queued f (before ++ after)
      counters.txDrop := min (s.counters.txDrop + 1) 65535 } := by
    refine ⟨awake, loud, ?_, fun x hx wait => ?_⟩
    · have length : (queued f (before ++ after)).length = before.length + after.length + 1 := by
        rw [queued, (Changes.insertEntry_perm _ _).length_eq, List.length_cons, List.length_append]
      rw [queue, List.length_append, List.length_cons] at eight
      show 8 ≤ (queued f (before ++ after)).length
      omega
    · rcases Changes.mem_insertEntry.1 hx with rfl | hx
      · exact low
      · rcases List.mem_append.1 hx with hx | hx
        · exact classes x hx
        · exact absurd ((sends x hx).symm.trans wait) nofun
  rw [queueFrame_displaces awake loud apart eight.ge queue waits sends less,
    settleLoss_chain (3 - r.attempts) crowded walking named (by omega) (by omega) zone sending offer tag image
      (Nat.min_le_right _ _)]
  have counter : min (min (s.counters.txDrop + 1) 65535 + (3 - r.attempts)) 65535
      = min (s.counters.txDrop + 4 - r.attempts) 65535 := by omega
  show ({ s with
    link.txq := _
    counters.txDrop := min (min (s.counters.txDrop + 1) 65535 + (3 - r.attempts)) 65535
    tracking.zone := _ } : State) = _
  rw [counter]

/-- Settles O28, from what the link controller answers in each case of the queue. -/
theorem queueMergesAndDisplaces : Obligations.QueueMergesAndDisplaces := by
  intro s f
  refine ⟨fun deaf => queueFrame_of_taken (if_pos deaf), fun awake loud =>
    ⟨fun before after e kind queue same waits others => ?_, fun single =>
      ⟨fun before after room queue low high => ?_, fun before after e full queue waits sends =>
        ⟨fun less other => ?_, fun least other => ?_, ?_⟩⟩⟩⟩
  · have merges : (mergingKind f.kind && kindWaits f.kind s.link.txq) = true := by
      rw [mergingKind_iff.2 kind, Bool.true_and]
      refine List.any_eq_true.2 ⟨e, by rw [queue]; exact List.mem_append_right _ List.mem_cons_self, ?_⟩
      rw [same, waits]
      simp
    rw [queueFrame_of_taken (enqueue_of_merges awake loud merges), queue, replaceWaiting_eq same waits others]
  · rw [queueFrame_of_taken (enqueue_of_room awake loud (apart_of single) room), queue, insertEntry_between low high]
  · rw [queueFrame_displaces awake loud (apart_of single) full queue waits sends less, Room.settleLoss_other other]
  · have lost := enqueue_of_lost awake loud (apart_of single) full fun x last => by
      rw [queue, (lastWaiting_eq (before := before) waits sends).1] at last
      rw [← Option.some.inj last]
      exact least
    rw [queueFrame_of_lost lost, Room.settleLoss_other other]
    rfl
  · intro r less offer walking named eight zone tag image classes sending attempts
    exact queueFrame_displaces_offer awake loud (apart_of single) queue waits sends less offer walking named eight zone tag
      image classes sending attempts

end Sys2Proof.Displacing


/-! PROOFS. STATUS (R11, R48, R53, R94, R137). -/

namespace Sys2Proof.Told

open Sys2Proof Sys2Proof.Machine Sys2Proof.Safety Sys2Proof.Laws Sys2Proof.Commands Sys2Proof.Peers Sys2Proof.Room

/-! ### Revival (R94) -/

/-- A resting offer made again. -/
def renewed (r : UnitRecord) : UnitRecord := { r with handover := .offered .sending, attempts := 0 }

/-- One resting record's offer made again. -/
def reviveOne (s : State) (t : Tag) : State :=
  match s.findRecord t with
  | none => s
  | some r => queueFrame (offerFrame (renewed r) (setHandover t (.offered .sending) 0 s)) (setHandover t (.offered .sending) 0 s)

/-- The tags of the resting records. -/
def restingTags (z : List UnitRecord) : List Tag :=
  (z.filter (fun r => decide (r.handover = .offered .resting))).map (·.tag)

theorem revive_eq {s : State} (h : s.mode ≠ .walking) :
    revive s = (restingTags s.tracking.zone).foldl reviveOne s :=
  if_neg h

theorem restingTags_sublist (z : List UnitRecord) : (restingTags z).Sublist (z.map (·.tag)) :=
  List.filter_sublist.map _

theorem mem_restingTags {z : List UnitRecord} {r : UnitRecord} (mem : r ∈ z) (rests : r.handover = .offered .resting) :
    r.tag ∈ restingTags z := List.mem_map.2 ⟨r, List.mem_filter.2 ⟨mem, decide_eq_true rests⟩, rfl⟩

/-- What reviving the records of the tags `l` leaves, of a queue with room for their offers. -/
structure Revived (l : List Tag) (n : Nat) (s t : State) : Prop where
  room : Spare false n t
  station : t.station = s.station
  neighbours : t.peer.neighbours = s.peer.neighbours
  carried : ∀ g, mergingKind g.kind = false → Carries g s → Carries g t
  renewed : ∀ r ∈ s.tracking.zone, r.tag ∈ l →
    Told.renewed r ∈ t.tracking.zone ∧ Carries (offerFrame r s) t
  kept : ∀ r ∈ s.tracking.zone, r.tag ∉ l → r ∈ t.tracking.zone

/-- With room the record's offer is made, and no other record changes. -/
theorem reviveOne_some {s : State} {t : Tag} {r : UnitRecord} {n : Nat} (found : s.findRecord t = some r)
    (room : Spare false (n + 1) s) :
    reviveOne s t = { s with
      tracking.zone := s.tracking.zone.map (fun x => if x.tag = t then renewed x else x)
      link.txq := queued (offerFrame r s) s.link.txq } := by
  unfold reviveOne
  rw [found]
  have length := room.length
  exact queueFrame_accepts (s := setHandover t (.offered .sending) 0 s)
    ⟨room.awake, room.loud, (by omega : s.link.txq.length < 8), rfl⟩

theorem findRecord_mem {s : State} {t : Tag} {r : UnitRecord} (h : s.findRecord t = some r) :
    r ∈ s.tracking.zone ∧ r.tag = t := by
  unfold State.findRecord at h
  have found := List.find?_some h
  exact ⟨List.mem_of_find?_eq_some h, of_decide_eq_true found⟩

theorem revived_fold (l : List Tag) : ∀ (n : Nat) (s : State), l.Nodup → (s.tracking.zone.map (·.tag)).Nodup →
    Spare false (n + l.length) s → Revived l n s (l.foldl reviveOne s) := by
  induction l with
  | nil =>
    exact fun n s _ _ room => ⟨room, rfl, rfl, fun _ _ c => c, (fun _ _ h => nomatch h), fun _ h _ => h⟩
  | cons t l ih =>
    intro n s nodup unique room
    obtain ⟨new, nodup⟩ := List.nodup_cons.1 nodup
    rw [List.foldl_cons]
    cases found : s.findRecord t with
    | none =>
      have same : reviveOne s t = s := by
        unfold reviveOne
        rw [found]
      have absent : ∀ r ∈ s.tracking.zone, r.tag ≠ t := fun r hr h => by
        have none := List.find?_eq_none.1 found r hr
        exact none (decide_eq_true h)
      obtain ⟨room, station, neighbours, carried, renews, kept⟩ := ih n s nodup unique (room.mono (by simp))
      rw [same]
      exact ⟨room, station, neighbours, carried,
        fun r hr h => renews r hr ((List.mem_cons.1 h).resolve_left (absent r hr)),
        fun r hr h => kept r hr fun later => h (List.mem_cons_of_mem t later)⟩
    | some r0 =>
      have one := reviveOne_some (n := n + l.length) found (by rw [List.length_cons] at room; exact room)
      have tags : (s.tracking.zone.map (fun x => if x.tag = t then renewed x else x)).map (·.tag)
          = s.tracking.zone.map (·.tag) := by
        rw [List.map_map]
        refine List.map_congr_left fun x _ => ?_
        show (if x.tag = t then renewed x else x).tag = x.tag
        split <;> rfl
      have joins : Spare false (n + l.length) (reviveOne s t) := by
        rw [one]
        have length := length_queued (offerFrame r0 s) s.link.txq
        refine ⟨room.awake, room.loud, ?_⟩
        have old := room.room
        rw [List.length_cons] at old
        show (queued (offerFrame r0 s) s.link.txq).length
          + (if kindWaits .status (queued (offerFrame r0 s) s.link.txq) then 0 else 1) + _ + _ ≤ 8
        rw [kindWaits_queued, length]
        simp only [Bool.false_and, Bool.false_eq_true, if_false] at old ⊢
        have other : decide ((offerFrame r0 s).kind = .status) = false := rfl
        rw [other, Bool.false_or]
        omega
      have member : r0 ∈ s.tracking.zone ∧ r0.tag = t :=
        findRecord_mem found
      have only : ∀ r ∈ s.tracking.zone, r.tag = t → r = r0 := fun r hr h =>
        List.inj_on_of_nodup_map unique hr member.1 (h.trans member.2.symm)
      obtain ⟨spare, station, neighbours, carried, renews, kept⟩ := ih n (reviveOne s t) nodup (by
        rw [one]
        exact tags ▸ unique) joins
      rw [one] at station neighbours carried renews kept
      rw [one] at spare ⊢
      have offers : ∀ g, g = offerFrame r0 s ∨ Carries g s → Carries g { s with
          tracking.zone := s.tracking.zone.map (fun x => if x.tag = t then renewed x else x)
          link.txq := queued (offerFrame r0 s) s.link.txq } := fun g h => carries_queued h
      refine ⟨spare, station, neighbours, fun g apart c => carried g apart (offers g (.inr c)), fun r hr h => ?_,
        fun r hr h => ?_⟩
      · by_cases here : r.tag = t
        · obtain rfl := only r hr here
          refine ⟨kept (renewed r) (List.mem_map.2 ⟨r, hr, if_pos here⟩) (here ▸ new), carried _ rfl (offers _ (.inl rfl))⟩
        · exact renews r (List.mem_map.2 ⟨r, hr, if_neg here⟩) ((List.mem_cons.1 h).resolve_left here)
      · obtain ⟨other, later⟩ := not_or.1 (mt List.mem_cons.2 h)
        exact kept r (List.mem_map.2 ⟨r, hr, if_neg other⟩) later

/-- Reviving makes every resting record's offer again. -/
theorem revive_revived {s : State} {n : Nat} (walking : s.mode ≠ .walking) (unique : (s.tracking.zone.map (·.tag)).Nodup)
    (room : Spare false (n + s.tracking.zone.length) s) :
    Spare false n (revive s) ∧ (∀ g, mergingKind g.kind = false → Carries g s → Carries g (revive s))
      ∧ ∀ r ∈ s.tracking.zone, r.handover = .offered .resting →
        renewed r ∈ (revive s).tracking.zone ∧ Carries (offerFrame r s) (revive s) := by
  rw [revive_eq walking]
  have fewer := (restingTags_sublist s.tracking.zone).length_le
  rw [List.length_map] at fewer
  obtain ⟨spare, _, _, carried, renews, _⟩ := revived_fold _ n s (unique.sublist (restingTags_sublist _)) unique
    (room.mono (Nat.add_le_add_left fewer n))
  exact ⟨spare, carried, fun r hr rests => renews r hr (mem_restingTags hr rests)⟩

/-! ### The chain flags stand while a drain completes -/

/-- The peer view and the gap run stand. -/
def ChainKept (s t : State) : Prop := t.peer = s.peer ∧ t.flow.gapRun = s.flow.gapRun

theorem chainKept_refl (s : State) : ChainKept s s := ⟨rfl, rfl⟩

theorem chainKept_trans {s t u : State} (h : ChainKept s t) (h' : ChainKept t u) : ChainKept s u :=
  ⟨h'.1.trans h.1, h'.2.trans h.2⟩

theorem chainKept_flow {s t : State} (h : FlowResponded s t) : ChainKept s t := by
  have peer := congrArg State.peer h.1
  have gap := congrArg (fun v : State => v.flow.gapRun) h.1
  exact ⟨peer, gap⟩

theorem chainKept_frames {s t : State} (h : FramesQueued s t) : ChainKept s t :=
  chainKept_flow (framesQueued_flowResponded h)

theorem startDueCycle_chain (s : State) : ChainKept s (startDueCycle s) := by
  unfold startDueCycle
  split
  · split <;> exact ⟨rfl, rfl⟩
  · exact chainKept_refl s

theorem defrostTest_chain (s : State) : ChainKept s (defrostTest s) := by
  unfold defrostTest
  dsimp only
  split
  · exact startDueCycle_chain s
  · exact chainKept_trans (startDueCycle_chain s)
      (chainKept_trans (chainKept_flow (setReasons_flow _ _)) (chainKept_frames (queueStatus_framesQueued _)))

theorem requestStart_chain (i : LimiterId) (s : State) : ChainKept s (requestStart i s).1 := by
  have set : ∀ l, ChainKept s (setLimiter i l s) := fun l => by cases i <;> exact ⟨rfl, rfl⟩
  unfold requestStart
  split
  · exact chainKept_refl s
  split
  · exact set _
  · next l _ _ _ =>
    have counted : ChainKept s (count .startDeferred (setLimiter i l s)) := set l
    exact chainKept_trans counted (chainKept_frames (queueEvent_framesQueued _ _ _ _))

theorem doorTest_chain (s : State) : ChainKept s (doorTest s) := by
  have asked := requestStart_chain .door s
  unfold doorTest
  split
  · split
    · next s1 h => rw [h] at asked; exact asked
    · next s1 h => rw [h] at asked; exact asked
  · exact chainKept_refl s

theorem queueChanged_chain (c : Nat × Nat) (s : State) : ChainKept s (queueChanged c s) := by
  have first : ChainKept s (reportCounts c (evaluateDrive (evaluateLevel s))) :=
    chainKept_trans (chainKept_flow (setReasons_flow _ s))
      (chainKept_trans (chainKept_flow (evaluateDrive_flow _)) (chainKept_frames (reportCounts_framesQueued c _)))
  unfold queueChanged testEmptied
  split
  · exact chainKept_trans first (defrostTest_chain _)
  · exact first

theorem passRecord_chain (s : State) (t : Tag) : ChainKept s (passRecord s t) := by
  unfold passRecord
  split
  · exact chainKept_refl s
  · dsimp only
    refine chainKept_trans ?_ (chainKept_frames (queueFrame_framesQueued _ _))
    split <;> exact ⟨rfl, rfl⟩

theorem examineZone_chain (s : State) : ChainKept s (examineZone s) := by
  have passes : ∀ (l : List Tag) (u : State), ChainKept u (l.foldl passRecord u) := fun l => by
    induction l with
    | nil => exact chainKept_refl
    | cons t l ih => exact fun u => chainKept_trans (passRecord_chain u t) (ih _)
  unfold examineZone
  split
  · exact chainKept_trans (chainKept_frames (makeOffers_framesQueued s))
      (chainKept_trans (passes _ _) (chainKept_flow (evaluateDrive_flow _)))
  · exact chainKept_flow (evaluateDrive_flow s)

theorem gainLoad_chain (mass : Nat) (s : State) : ChainKept s (gainLoad mass s) := by
  unfold gainLoad
  split <;> exact ⟨rfl, rfl⟩

theorem mergeInto_chain (last r : UnitRecord) (s : State) : ChainKept s (mergeInto last r s) := by
  have written : ChainKept s (count .merged { s with tracking.zone := replaceLast (absorb last r) s.tracking.zone }) :=
    ⟨rfl, rfl⟩
  exact chainKept_trans written (chainKept_frames (queueEvent_framesQueued _ _ _ _))

theorem enterRecord_chain (r : UnitRecord) (s : State) : ChainKept s (enterRecord r s) := by
  have joins : ∀ u v : State, ChainKept u v → ChainKept u (examineZone (insertRecord r v)) := fun u v h =>
    chainKept_trans (chainKept_trans (t := v) h ⟨rfl, rfl⟩) (examineZone_chain _)
  unfold enterRecord enterVia
  split
  · exact joins s s (chainKept_refl s)
  split
  · exact joins s s (chainKept_refl s)
  · split
    · split
      · exact joins s _ ⟨rfl, rfl⟩
      · exact chainKept_trans (gainLoad_chain _ s) (mergeInto_chain _ _ _)
    · exact mergeInto_chain _ _ _

theorem closeForming_chain (f : Nat → Nat) (s : State) :
    ChainKept s (closeForming enterRecord queueChanged f s) := by
  unfold closeForming
  split
  · next m _ =>
    dsimp only
    split
    · exact ⟨rfl, rfl⟩
    · have unbound : ChainKept s { s with tracking.mergeBound := none } := ⟨rfl, rfl⟩
      exact chainKept_trans (chainKept_trans unbound (chainKept_trans (gainLoad_chain _ _) (enterRecord_chain _ _)))
        (queueChanged_chain _ _)
  · split
    · exact chainKept_refl s
    · split
      · dsimp only
        split
        · exact chainKept_trans (t := { s with tracking.zone := s.tracking.zone.dropLast }) ⟨rfl, rfl⟩
            (queueChanged_chain _ _)
        · exact chainKept_trans (t := { s with tracking.zone := replaceLast _ s.tracking.zone }) ⟨rfl, rfl⟩
            (gainLoad_chain _ _)
      · exact chainKept_refl s

/-- A drain that completes. -/
theorem drainTest_chain (s : State) : ChainKept s (drainTest s) := by
  unfold drainTest
  split
  · next h =>
    have draining : s.mode = .draining := of_decide_eq_true (Bool.and_eq_true_iff.1 h).1
    have posture : changePosture s.mode { s with mode := .ready } = { s with mode := .ready } := by
      unfold changePosture
      rw [draining]
      rfl
    have stay : ∀ u : State, u.mode = .ready → discardWalk .draining u = u ∧ stateAborts u = u := fun u hu => by
      refine ⟨if_neg (fun both => nomatch both.1), ?_⟩
      unfold stateAborts
      rw [hu]
      rfl
    have ended : endsFormation .draining .ready = true := rfl
    unfold enterState respondToState
    rw [posture, draining]
    dsimp only
    rw [if_pos ended]
    have closed : ChainKept s (closeForming enterRecord queueChanged id { s with mode := .ready }) :=
      chainKept_trans (t := { s with mode := .ready }) ⟨rfl, rfl⟩ (closeForming_chain id _)
    have mode : (closeForming enterRecord queueChanged id { s with mode := .ready }).mode = .ready :=
      (closeForming_queue _ enterRecord_queue _ queueChanged_queue id { s with mode := .ready }).2.1.elim id
        fun both => nomatch both.1
    generalize closeForming enterRecord queueChanged id { s with mode := .ready } = u at closed mode
    rw [(stay u mode).1, (stay u mode).2]
    exact chainKept_trans closed (chainKept_trans (chainKept_flow (setReasons_flow _ _))
      (chainKept_trans (chainKept_flow (evaluateDrive_flow _)) (chainKept_trans (defrostTest_chain _)
        (chainKept_trans (doorTest_chain _) (chainKept_frames (queueStatus_framesQueued _))))))
  · exact chainKept_refl s

/-! ### The chain flags (R53, R137) -/

theorem evaluateChain_chainLoad {s : State} (profile : s.hasProfile = true) :
    (evaluateChain s).peer.chainLoad = chainLoadNow s := by
  unfold evaluateChain
  rw [if_neg (by rw [profile]; exact Bool.false_ne_true)]
  dsimp only
  split
  · next h => exact h.1.symm
  · have e := fun u => congrArg State.peer (Sampling.queueStatus_sends u)
    refine (congrArg PeerView.chainLoad (e _)).trans ?_
    unfold startGapRun
    split
    · split <;> rfl
    · rfl

theorem evaluateChain_run {s : State} (profile : s.hasProfile = true) :
    (evaluateChain s).flow.gapRun
      = if s.isHead = true ∧ s.peer.chainDefrost = false ∧ chainDefrostNow s = true ∧ s.flow.gapRun = none then some 0
        else s.flow.gapRun := by
  by_cases rises : s.peer.chainDefrost = false ∧ chainDefrostNow s = true
  · unfold evaluateChain
    rw [if_neg (by rw [profile]; exact Bool.false_ne_true)]
    dsimp only
    rw [if_neg (fun same => by rw [rises.1, rises.2] at same; nomatch same.2), rises.1, rises.2, if_pos (show (true && !false) = true from rfl),
      Sampling.queueStatus_flow]
    by_cases starts : s.isHead = true ∧ s.flow.gapRun = none
    · rw [if_pos ⟨starts.1, rfl, rfl, starts.2⟩]
      refine congrArg (fun u : State => u.flow.gapRun) (if_pos ?_)
      show (s.isHead && s.flow.gapRun.isNone) = true
      rw [starts.1, starts.2]
      rfl
    · rw [if_neg fun h => starts ⟨h.1, h.2.2.2⟩]
      have still : ∀ u : State, u.isHead = s.isHead → u.flow = s.flow → (startGapRun u).flow.gapRun = s.flow.gapRun :=
        fun u head flow => by
          unfold startGapRun
          rw [head, flow, if_neg (by rw [Bool.and_eq_true, Option.isNone_iff_eq_none]; exact starts), flow]
      exact still _ rfl rfl
  · rw [if_neg fun h => rises ⟨h.2.1, h.2.2.1⟩, Restarting.evaluateChain_gapRun]
    by_cases set : s.peer.chainDefrost = true
    · exact .inl set
    · exact .inr (by
        cases now : chainDefrostNow s with
        | false => rfl
        | true => exact absurd ⟨by simpa using set, now⟩ rises)

/-! ### The command -/

/-- The entry of a STATUS's origin. -/
def toldEntry (f : Frame) (s : State) : PeerEntry :=
  { refreshedEntry s f.origin with
    state := payloadByte f.payload 0
    flags := f.payload.getD 1 0#8
    holding := (f.payload.getD 1 0#8).getLsbD 0 }

/-- The station once a STATUS is told and what it revives is revived. -/
def reviving (f : Frame) (rest : List Frame) (s : State) : State :=
  if statusRevives f s then revive (handedWith f rest (toldEntry f s) s) else handedWith f rest (toldEntry f s) s

theorem handedWith_flow (f : Frame) (rest : List Frame) (e : PeerEntry) (s : State) :
    FlowResponded (takenWith f rest e s) (handedWith f rest e s) :=
  Restarting.handDownstream_flowResponded _ _

theorem reviving_flow (f : Frame) (rest : List Frame) (s : State) :
    FlowResponded (takenWith f rest (toldEntry f s) s) (reviving f rest s) := by
  unfold reviving
  split
  · exact flowResponded_trans (handedWith_flow f rest _ s) (framesQueued_flowResponded (revive_framesQueued _))
  · exact handedWith_flow f rest _ s

/-- The station that a STATUS leaves, before the drain test. -/
def told (f : Frame) (rest : List Frame) (s : State) : State :=
  if f.origin = s.downstream then evaluateChain (reviving f rest s) else handedWith f rest (toldEntry f s) s

theorem handedWith_downstream (f : Frame) (rest : List Frame) (e : PeerEntry) (s : State) :
    (handedWith f rest e s).downstream = s.downstream :=
  (blocksResponded_downstream (handDownstream_blocks _ _)).trans (takenWith_downstream f rest e s)

theorem told_blocks (f : Frame) (rest : List Frame) (s : State) :
    BlocksResponded (takenWith f rest (toldEntry f s) s) (told f rest s) := by
  have handed : BlocksResponded (takenWith f rest (toldEntry f s) s) (handedWith f rest (toldEntry f s) s) :=
    handDownstream_blocks _ _
  unfold told reviving
  split
  · refine blocksResponded_trans ?_ (evaluateChain_blocks _)
    split
    · exact blocksResponded_trans handed (framesQueued_blocks (revive_framesQueued _))
    · exact handed
  · exact handed

theorem exec_status {f : Frame} {rest : List Frame} {s : State} (ho : Oldest .status f rest s) (low : 1 ≤ f.origin)
    (high : f.origin ≤ 31) :
    exec .status s = if f.origin = s.upstream then done (drainTest (told f rest s)) else done (told f rest s) := by
  have upstream : (told f rest s).upstream = s.upstream := by
    have e := congrArg Neighbours.upstream (blocksResponded_neighbours (told_blocks f rest s))
    obtain ⟨p, taken⟩ := takenWith_eq f rest (toldEntry f s) s
    rw [taken] at e
    exact e
  have start : execStatus s =
      let w := if f.origin = (handedWith f rest (toldEntry f s) s).downstream then evaluateChain (reviving f rest s)
        else handedWith f rest (toldEntry f s) s
      if f.origin = w.upstream then done (drainTest w) else done w := by
    unfold execStatus
    rw [takeFrame_oldest ho]
    dsimp only
    rw [taken_rewritten rest s (statusEntry f) low high]
    rfl
  show execStatus s = _
  rw [start, handedWith_downstream]
  change (if f.origin = (told f rest s).upstream then done (drainTest (told f rest s)) else done (told f rest s)) = _
  rw [upstream]

/-- Behind the downstream's STATUS with its holding flag clear every resting offer is revived, once. -/
theorem reviving_eq {f : Frame} (rest : List Frame) {s : State} (low : 1 ≤ f.origin) (high : f.origin ≤ 31)
    (own : f.origin = s.downstream) (clear : (f.payload.getD 1 0#8).getLsbD 0 = false) :
    reviving f rest s = revive (takenWith f rest (toldEntry f s) s)
      ∨ reviving f rest s = revive (evaluateDrive (takenWith f rest (toldEntry f s) s)) := by
  have after : (takenWith f rest (toldEntry f s) s).downstreamEntry = some (toldEntry f s) :=
    takenWith_downstreamEntry low high own
  have before : s.downstreamEntry = some (s.peerEntry s.downstream) := if_neg (by omega)
  have holding : (toldEntry f s).holding = false := clear
  have revives : statusRevives f s = !(s.peerEntry s.downstream).holding := by
    unfold statusRevives
    rw [clear, before]
    rfl
  unfold reviving handedWith handDownstream
  rw [revives, before, after]
  dsimp only
  rw [holding]
  cases (s.peerEntry s.downstream).holding with
  | true =>
    rw [if_neg (show ¬ (!true) = true by nofun), if_pos (show (true && !false) = true from rfl)]
    split
    · exact .inl rfl
    · exact .inr rfl
  | false =>
    rw [if_pos (show (!false) = true from rfl), if_neg (show ¬ (false && !false) = true by nofun)]
    split
    · exact .inl rfl
    · exact .inr rfl

/-- With room for them, the offers. -/
theorem reviving_offers {f : Frame} (rest : List Frame) {s : State} (low : 1 ≤ f.origin) (high : f.origin ≤ 31)
    (own : f.origin = s.downstream) (clear : (f.payload.getD 1 0#8).getLsbD 0 = false) (awake : s.mode ≠ .quiet)
    (walking : s.mode ≠ .walking) (loud : s.link.silencing = false) (unique : (s.tracking.zone.map (·.tag)).Nodup)
    (room : s.link.txq.length + s.tracking.zone.length ≤ 6) :
    Spare false 0 (reviving f rest s) ∧ ∀ r ∈ s.tracking.zone, r.handover = .offered .resting →
      renewed r ∈ (reviving f rest s).tracking.zone ∧ Carries (offerFrame r s) (reviving f rest s) := by
  obtain ⟨p, taken⟩ := takenWith_eq f rest (toldEntry f s) s
  have tracking := takenWith_tracking f rest (toldEntry f s) s
  have spare : Spare false (s.tracking.zone.length + 1) (takenWith f rest (toldEntry f s) s) := by
    rw [taken]
    exact spare_of_length awake loud (by show s.link.txq.length + 1 + 0 + _ ≤ 8; omega)
  have revived : ∀ u, FlowResponded (takenWith f rest (toldEntry f s) s) u → u.tracking = s.tracking →
      Spare false s.tracking.zone.length u → Spare false 0 (revive u) ∧ ∀ r ∈ s.tracking.zone,
        r.handover = .offered .resting → renewed r ∈ (revive u).tracking.zone ∧ Carries (offerFrame r s) (revive u) :=
    fun u flow tracking spare => by
      rw [taken] at flow
      have station : u.station = s.station := by have e := congrArg State.station flow.1; exact e
      have down : u.downstream = s.downstream := by have e := congrArg State.downstream flow.1; exact e
      have mode : u.mode = s.mode := by have e := congrArg State.mode flow.1; exact e
      have frame : ∀ r, offerFrame r u = offerFrame r s := fun r => by
        unfold offerFrame ownFrame
        rw [station, down]
      obtain ⟨left, _, offers⟩ := revive_revived (s := u) (n := 0) (by rw [mode]; exact walking)
        (by rw [tracking]; exact unique) (by rw [tracking, Nat.zero_add]; exact spare)
      rw [tracking] at offers
      exact ⟨left, fun r hr rests => frame r ▸ offers r hr rests⟩
  rcases reviving_eq rest low high own clear with h | h <;> rw [h]
  · exact revived _ (flowResponded_refl _) tracking (spare.mono (Nat.le_succ _))
  · exact revived _ (evaluateDrive_flow _) ((evaluateDrive_tracking _).trans tracking) (evaluateDrive_adds _ _ _ spare).1

/-- Settles O30: the STATUS rewrites its origin's entry, and what the downstream's revives and the chain's flags follow
from `reviving` and `evaluateChain`. -/
theorem statusHandled : Obligations.StatusHandled := by
  intro f rest s ho low high
  have exec := exec_status ho low high
  obtain ⟨p, taken⟩ := takenWith_eq f rest (toldEntry f s) s
  have blocks := told_blocks f rest s
  have chainFlow := reviving_flow f rest s
  have awake : s.mode ≠ .quiet := ho.2.2
  have ends : ∃ w, Machine.exec .status s = done w ∧ QueueResponded (takenWith f rest (toldEntry f s) s) w
      ∧ ChainKept (told f rest s) w ∧ ((told f rest s).tracking.zone ≠ [] → w = told f rest s)
      ∧ (f.origin = s.upstream → w = drainTest (told f rest s)) := by
    by_cases up : f.origin = s.upstream
    · rw [if_pos up] at exec
      refine ⟨_, exec, drainTest_responded blocks, drainTest_chain _, fun full => drainTest_undrained fun d => full d.1,
        fun _ => rfl⟩
    · rw [if_neg up] at exec
      exact ⟨_, exec, .inl blocks, chainKept_refl _, fun _ => rfl, fun h => absurd h up⟩
  obtain ⟨w, exec, responded, chain, full, drains⟩ := ends
  refine next_of_done exec ⟨queueResponded_settle responded, fun draining up ready empty none => ?_, fun own profile => ?_,
    fun own clear walking loud unique room r hr rests => ?_⟩
  · rw [settle_mode, drains up]
    refine drainTest_drained ((blocksResponded_mode blocks).trans ?_) ((drained_blocksResponded blocks).2 ?_)
    · rw [taken]
      exact draining
    · have entry : (takenWith f rest (toldEntry f s) s).peerEntry f.origin = toldEntry f s :=
        peerEntry_setPeerEntry _ _ _ ⟨low, high⟩
      have upstream : (takenWith f rest (toldEntry f s) s).upstream = f.origin := by rw [taken, up]; rfl
      refine ⟨by rw [taken]; exact empty, by rw [taken]; exact none, .inr (.inr ?_)⟩
      rw [upstream, entry]
      exact ready
  · have after : (reviving f rest s).downstreamEntry = some (toldEntry f s) := by
      have e := congrArg State.downstreamEntry chainFlow.1
      exact Eq.trans (b := (takenWith f rest (toldEntry f s) s).downstreamEntry) e (takenWith_downstreamEntry low high own)
    obtain ⟨peer, run⟩ := chain
    have held : (reviving f rest s).hasProfile = true := by
      have e := congrArg State.hasProfile chainFlow.1
      rw [taken] at e
      exact e.trans profile
    have load : (reviving f rest s).flow.loadHigh = s.flow.loadHigh := by
      have e := congrArg (fun v : State => v.flow.loadHigh) chainFlow.1
      rw [taken] at e
      exact e
    have want : (reviving f rest s).defrost.want = s.defrost.want := by
      have e := congrArg (fun v : State => v.defrost.want) chainFlow.1
      rw [taken] at e
      exact e
    have flag : (reviving f rest s).peer.chainDefrost = s.peer.chainDefrost := by
      have e := congrArg (fun v : State => v.peer.chainDefrost) chainFlow.1
      rw [taken] at e
      exact e
    have head : (reviving f rest s).isHead = s.isHead := by
      have e := congrArg State.isHead chainFlow.1
      rw [taken] at e
      exact e
    have gap : (reviving f rest s).flow.gapRun = s.flow.gapRun := by
      have e := congrArg (fun v : State => v.flow.gapRun) chainFlow.1
      rw [taken] at e
      exact e
    have loadNow : chainLoadNow (reviving f rest s) = (s.flow.loadHigh || (f.payload.getD 1 0#8).getLsbD 5) := by
      unfold chainLoadNow
      rw [load, after]
      rfl
    have defrostNow : chainDefrostNow (reviving f rest s) = (s.defrost.want || (f.payload.getD 1 0#8).getLsbD 6) := by
      unfold chainDefrostNow
      rw [want, after]
      rfl
    have value : told f rest s = evaluateChain (reviving f rest s) := if_pos own
    rw [settle_peer, settle_flow, peer, run, value, evaluateChain_chainLoad held,
      Restarting.evaluateChain_chainDefrost held, evaluateChain_run held, loadNow, defrostNow, head, flag, gap]
    exact ⟨rfl, rfl, rfl⟩
  · obtain ⟨left, offers⟩ := reviving_offers rest low high own clear awake walking loud unique room
    obtain ⟨renews, carries⟩ := offers r hr rests
    have value : told f rest s = evaluateChain (reviving f rest s) := if_pos own
    have zone : (told f rest s).tracking = (reviving f rest s).tracking := by rw [value, evaluateChain_tracking]
    have stays := full (by
      rw [zone]
      exact List.ne_nil_of_mem renews)
    rw [settle_tracking, stays, zone]
    refine ⟨renews, ?_⟩
    have carried : Carries (offerFrame r s) (told f rest s) := by
      rw [value]
      exact (evaluateChain_adds _ _ 0 left).2 _ rfl carries
    exact carries_settle carried

end Sys2Proof.Told


/-! PROOFS. An accepted forward count (R67), block by block: what every part of it leaves. -/

namespace Sys2Proof.Counting

open Sys2Proof Sys2Proof.Machine Sys2Proof.Safety Sys2Proof.Laws Sys2Proof.Postures

/-! ### What the blocks' turns leave -/

/-- `s`, with all that the blocks' turns at a count may write as `t` has it. -/
def withTurns (s t : State) : State :=
  { s with
    mode := t.mode
    link.txq := t.link.txq
    tracking.zone := t.tracking.zone
    tracking.mergeBound := t.tracking.mergeBound
    tracking.tagSeq := t.tracking.tagSeq
    arrivals := t.arrivals
    flow.reasons := t.flow.reasons
    flow.drive := t.flow.drive
    flow.driveLimiter := t.flow.driveLimiter
    flow.doorLimiter := t.flow.doorLimiter
    flow.loadInput := t.flow.loadInput
    defrost.cycle := t.defrost.cycle
    channels := t.channels
    packing := t.packing
    counters := t.counters
    orderDraws := t.orderDraws }

/-- From `s` to `t` the blocks took their turns: the peer view, the timers, the gap run, the line condition and the
bases stand. -/
def Turned (s t : State) : Prop := t = withTurns s t ∧ Pulsed s t

theorem turned_refl (s : State) : Turned s s := ⟨rfl, pulsed_refl s⟩

theorem turned_trans {s t u : State} (h : Turned s t) (h' : Turned t u) : Turned s u := by
  refine ⟨?_, pulsed_trans h.2 h'.2⟩
  have e := congrArg (withTurns · u) h.1
  exact h'.1.trans e

/-- Writes of fields that a turn may write, the channels left. -/
theorem turned_of {s t : State} (h : t = withTurns s t) (channels : t.channels = s.channels) : Turned s t :=
  ⟨h, pulsed_of_channels (by have e := congrArg State.station h; exact e) channels⟩

theorem turned_flow {s t : State} (h : FlowResponded s t) : Turned s t := by
  have whole := h.1
  have channels : t.channels = s.channels := by have e := congrArg State.channels whole; exact e
  refine turned_of ?_ channels
  have e := congrArg (withTurns s) whole
  exact whole.trans e.symm

theorem turned_frames {s t : State} (h : FramesQueued s t) : Turned s t := turned_flow (framesQueued_flowResponded h)

theorem turned_foldl {α : Type} {f : State → α → State} (step : ∀ s a, Turned s (f s a)) (l : List α) (s : State) :
    Turned s (l.foldl f s) := by
  induction l generalizing s with
  | nil => exact turned_refl s
  | cons a l ih => exact turned_trans (step s a) (ih _)

/-! ### The blocks' operations -/

theorem requestStart_turned (i : LimiterId) (s : State) : Turned s (requestStart i s).1 := by
  have set : ∀ l, Turned s (setLimiter i l s) := fun l => by cases i <;> exact turned_of rfl rfl
  unfold requestStart
  split
  · exact turned_refl s
  split
  · exact set _
  · next l _ _ _ =>
    have counted : Turned s (count .startDeferred (setLimiter i l s)) := by cases i <;> exact turned_of rfl rfl
    exact turned_trans counted (turned_frames (queueEvent_framesQueued _ _ _ _))

theorem giveEvent_turned (e : EventSource) (s : State) : Turned s (giveEvent e s) := ⟨rfl, giveEvent_pulsed e s⟩

theorem startDueCycle_turned (s : State) : Turned s (startDueCycle s) := by
  refine ⟨?_, startDueCycle_pulsed s⟩
  unfold startDueCycle
  split
  · split <;> rfl
  · rfl

theorem setReasons_turned (level : Bool) (s : State) : Turned s (setReasons level s) := turned_flow (setReasons_flow _ s)

theorem evaluateDrive_turned (s : State) : Turned s (evaluateDrive s) := turned_flow (evaluateDrive_flow s)

theorem queueStatus_turned (s : State) : Turned s (queueStatus s) := turned_frames (queueStatus_framesQueued s)

theorem defrostTest_turned (s : State) : Turned s (defrostTest s) := by
  unfold defrostTest
  dsimp only
  split
  · exact startDueCycle_turned s
  · exact turned_trans (startDueCycle_turned s) (turned_trans (setReasons_turned _ _) (queueStatus_turned _))

theorem doorTest_turned (s : State) : Turned s (doorTest s) := by
  have asked := requestStart_turned .door s
  unfold doorTest
  split
  · split
    · next s1 h =>
      rw [h] at asked
      have opened : Turned s1 { s1 with packing.door := .opened (s1.now + s1.doorTime) } := turned_of rfl rfl
      exact turned_trans asked (turned_trans opened (giveEvent_turned _ _))
    · next s1 h =>
      rw [h] at asked
      exact turned_trans asked (turned_of rfl rfl)
  · exact turned_refl s

theorem queueChanged_turned (c : Nat × Nat) (s : State) : Turned s (queueChanged c s) := by
  have first : Turned s (reportCounts c (evaluateDrive (evaluateLevel s))) :=
    turned_trans (setReasons_turned _ s) (turned_trans (evaluateDrive_turned _)
      (turned_frames (reportCounts_framesQueued c _)))
  unfold queueChanged testEmptied
  split
  · exact turned_trans first (defrostTest_turned _)
  · exact first

theorem passRecord_turned (s : State) (t : Tag) : Turned s (passRecord s t) := by
  unfold passRecord
  split
  · exact turned_refl s
  · dsimp only
    refine turned_trans ?_ (turned_frames (queueFrame_framesQueued _ _))
    split <;> exact turned_of rfl rfl

theorem makePasses_turned (s : State) : Turned s (makePasses s) := turned_foldl passRecord_turned _ s

theorem examineZone_turned (s : State) : Turned s (examineZone s) := by
  unfold examineZone
  split
  · exact turned_trans (turned_frames (makeOffers_framesQueued s))
      (turned_trans (makePasses_turned _) (evaluateDrive_turned _))
  · exact evaluateDrive_turned s

theorem gainLoad_turned (mass : Nat) (s : State) : Turned s (gainLoad mass s) := by
  unfold gainLoad
  split <;> exact turned_of rfl rfl

theorem mergeInto_turned (last r : UnitRecord) (s : State) : Turned s (mergeInto last r s) := by
  have written : Turned s (count .merged { s with tracking.zone := replaceLast (absorb last r) s.tracking.zone }) :=
    turned_of rfl rfl
  exact turned_trans written (turned_frames (queueEvent_framesQueued _ _ _ _))

theorem enterVia_turned {examine : State → State} (hx : ∀ s, Turned s (examine s)) (r : UnitRecord) (s : State) :
    Turned s (enterVia examine r s) := by
  have joins : ∀ u, Turned u (examine (insertRecord r u)) := fun u =>
    turned_trans (t := insertRecord r u) (turned_of rfl rfl) (hx _)
  unfold enterVia
  split
  · exact joins s
  split
  · exact joins s
  · split
    · split
      · exact turned_trans (t := { s with tracking.zone := s.tracking.zone.dropLast }) (turned_of rfl rfl) (joins _)
      · exact turned_trans (gainLoad_turned _ s) (mergeInto_turned _ _ _)
    · exact mergeInto_turned _ _ _

theorem enterRecord_turned (r : UnitRecord) (s : State) : Turned s (enterRecord r s) :=
  enterVia_turned examineZone_turned r s

theorem enterInCount_turned (r : UnitRecord) (s : State) : Turned s (enterInCount r s) :=
  enterVia_turned (examine := id) turned_refl r s

theorem closeForming_turned {enter : UnitRecord → State → State} {changed : Nat × Nat → State → State}
    (he : ∀ r s, Turned s (enter r s)) (hc : ∀ c s, Turned s (changed c s)) (f : Nat → Nat) (s : State) :
    Turned s (closeForming enter changed f s) := by
  unfold closeForming
  split
  · next m _ =>
    have unbound : Turned s { s with tracking.mergeBound := none } := turned_of rfl rfl
    dsimp only
    split
    · exact unbound
    · exact turned_trans (turned_trans unbound (turned_trans (gainLoad_turned _ _) (he _ _))) (hc _ _)
  · split
    · exact turned_refl s
    · split
      · dsimp only
        split
        · exact turned_trans (t := { s with tracking.zone := s.tracking.zone.dropLast }) (turned_of rfl rfl) (hc _ _)
        · exact turned_trans (t := { s with tracking.zone := replaceLast _ s.tracking.zone }) (turned_of rfl rfl)
            (gainLoad_turned _ _)
      · exact turned_refl s

/-- The responses to READY as a drain enters it. -/
theorem respondToReady_turned {s : State} (ready : s.mode = .ready) : Turned s (respondToState .draining s) := by
  have closed := closeForming_turned enterRecord_turned queueChanged_turned id s
  have mode : (closeForming enterRecord queueChanged id s).mode = .ready :=
    (closeForming_queue _ enterRecord_queue _ queueChanged_queue id s).2.1.elim (fun h => h.trans ready) fun both => both.2
  have ended : endsFormation .draining .ready = true := rfl
  unfold respondToState
  dsimp only
  rw [ready, if_pos ended]
  generalize closeForming enterRecord queueChanged id s = u at closed mode
  have stay : stateAborts (discardWalk .draining u) = u := by
    have walk : discardWalk .draining u = u := if_neg fun both => nomatch both.1
    rw [walk]
    unfold stateAborts
    rw [mode]
    rfl
  rw [stay]
  exact turned_trans closed (turned_trans (setReasons_turned _ _) (turned_trans (evaluateDrive_turned _)
    (turned_trans (defrostTest_turned _) (turned_trans (doorTest_turned _) (queueStatus_turned _)))))

theorem drainTest_turned (s : State) : Turned s (drainTest s) := by
  unfold drainTest
  split
  · next h =>
    have draining : s.mode = .draining := of_decide_eq_true (Bool.and_eq_true_iff.1 h).1
    have posture : changePosture s.mode { s with mode := .ready } = { s with mode := .ready } := by
      unfold changePosture
      rw [draining]
      rfl
    unfold enterState
    rw [posture, draining]
    exact turned_trans (t := { s with mode := .ready }) (turned_of rfl rfl) (respondToReady_turned rfl)
  · exact turned_refl s

theorem zoneChanged_turned (c : Nat × Nat) (s : State) : Turned s (zoneChanged c s) :=
  turned_trans (queueChanged_turned c s) (drainTest_turned _)

theorem count_turned (c : CounterName) (s : State) : Turned s (count c s) := turned_of rfl rfl

theorem queueEvent_turned (n : EventName) (d t : Nat) (s : State) : Turned s (queueEvent n d t s) :=
  turned_frames (queueEvent_framesQueued n d t s)

theorem removeRecord_turned (t : Tag) (s : State) : Turned s (removeRecord t s) :=
  turned_trans (t := dropRecord t s) (turned_of rfl rfl) (zoneChanged_turned _ _)

/-! ### Closes and verdicts -/

theorem closeDue_turned (s : State) : Turned s (closeDue s) := by
  unfold closeDue
  split
  · exact closeForming_turned enterInCount_turned zoneChanged_turned _ s
  split
  · exact closeForming_turned enterInCount_turned zoneChanged_turned _ s
  · exact turned_refl s

theorem reportVerdict_turned (o : Option Nat) (s : State) (r : UnitRecord) : Turned s (reportVerdict o s r) := by
  unfold reportVerdict
  split
  · exact turned_refl s
  · exact turned_trans (count_turned _ s) (queueEvent_turned _ _ _ _)

theorem judgeZone_turned (s : State) : Turned s (judgeZone s) :=
  turned_trans (t := { s with tracking.zone := s.tracking.zone.map (fun r => if verdictDue s r then judgedRecord s r else r) })
    (turned_of rfl rfl) (turned_foldl (fun u r => reportVerdict_turned _ u r) _ _)

theorem closeAndJudge_turned (s : State) : Turned s (closeAndJudge s) := by
  have judged := turned_trans (closeDue_turned s) (judgeZone_turned _)
  unfold closeAndJudge
  dsimp only
  split
  · exact turned_trans judged (examineZone_turned _)
  · exact judged

/-! ### Windows and packing -/

theorem divertRecord_turned (s : State) (t : Tag) : Turned s (divertRecord s t) := by
  unfold divertRecord
  split
  · exact turned_trans (removeRecord_turned t s) (count_turned _ _)
  · exact turned_refl s

theorem takeWindow_turned (present : List (Tag × UnitKind)) (s : State) (ch : Nat) : Turned s (takeWindow present s ch) := by
  unfold takeWindow
  split
  · exact turned_foldl divertRecord_turned _ s
  · exact turned_refl s

theorem takeWindows_turned (present : List (Tag × UnitKind)) (takes : Nat → Bool) (s : State) :
    Turned s (takeWindows present takes s) :=
  turned_foldl (takeWindow_turned present) _ s

theorem issueTag_turned (s : State) : Turned s (issueTag s).2 := turned_of rfl rfl

theorem closeBag_turned (disposition : Nat) (b : Bag) (s : State) : Turned s (closeBag disposition b s) := by
  have unbagged : Turned s { s with packing.openBag := none } := turned_of rfl rfl
  exact turned_trans unbagged (turned_trans (issueTag_turned _) (turned_trans (queueEvent_turned _ _ _ _)
    (turned_trans (count_turned _ _) (turned_trans (giveEvent_turned _ _) (enterRecord_turned _ _)))))

theorem closeOtherLot_turned (lot : Nat) (s : State) : Turned s (closeOtherLot lot s) := by
  unfold closeOtherLot
  split
  · exact turned_refl s
  · split
    · exact turned_refl s
    · exact closeBag_turned _ _ s

theorem openBagFor_turned (lot : Nat) (s : State) : Turned s (openBagFor lot s).2 := by
  unfold openBagFor
  split
  · exact turned_refl s
  · exact turned_of rfl rfl

theorem bagSegment_turned (u : UnitRecord) (s : State) : Turned s (bagSegment u s) := by
  have opened := turned_trans (closeOtherLot_turned u.lot s) (openBagFor_turned u.lot _)
  unfold bagSegment
  dsimp only
  split
  · exact turned_trans opened (turned_of rfl rfl)
  · exact turned_trans opened (closeBag_turned _ _ _)

theorem consumeSegment_turned (u : UnitRecord) (s : State) : Turned s (consumeSegment u s) :=
  turned_trans (t := dropRecord u.tag s) (turned_of rfl rfl)
    (turned_trans (bagSegment_turned u _) (zoneChanged_turned _ _))

theorem closeCarrier_turned (c : Carrier) (s : State) : Turned s (closeCarrier c s) := by
  have closed : Turned s { s with
      packing.openCarrier := none, packing.doorList := s.packing.doorList ++ [⟨c.number, c.disposition⟩] } :=
    turned_of rfl rfl
  exact turned_trans closed (turned_trans (giveEvent_turned _ _) (turned_trans (setReasons_turned _ _)
    (turned_trans (evaluateDrive_turned _) (doorTest_turned _))))

theorem closeOtherCarrier_turned (lot : Nat) (s : State) : Turned s (closeOtherCarrier lot s) := by
  unfold closeOtherCarrier
  split
  · exact turned_refl s
  · split
    · exact turned_refl s
    · exact closeCarrier_turned _ s

theorem openCarrierFor_turned (lot : Nat) (s : State) : Turned s (openCarrierFor lot s).2 := by
  unfold openCarrierFor
  split
  · exact turned_refl s
  · exact turned_of rfl rfl

theorem carryBag_turned (u : UnitRecord) (s : State) : Turned s (carryBag u s) := by
  have opened := turned_trans (closeOtherCarrier_turned u.lot s) (openCarrierFor_turned u.lot _)
  unfold carryBag
  dsimp only
  split
  · exact turned_trans opened (closeCarrier_turned _ _)
  · exact turned_trans opened (turned_of rfl rfl)

theorem packRecord_turned (s : State) (t : Tag) : Turned s (packRecord s t) := by
  unfold packRecord
  split
  · exact turned_refl s
  split
  · exact consumeSegment_turned _ s
  split
  · unfold loadBag
    split
    · exact turned_trans (removeRecord_turned _ s) (carryBag_turned _ _)
    · exact turned_refl s
  · exact turned_refl s

theorem divertAndPack_turned (s : State) : Turned s (divertAndPack s) := by
  unfold divertAndPack
  dsimp only
  split
  · exact takeWindows_turned _ _ s
  split
  · exact turned_trans (t := { s with orderDraws := s.orderDraws + 1 }) (turned_of rfl rfl)
      (turned_trans (takeWindows_turned _ _ _)
        (turned_trans (turned_foldl packRecord_turned _ _) (takeWindows_turned _ _ _)))
  · exact turned_foldl packRecord_turned _ s

/-! ### The zone end, arrivals and the start test -/

theorem leaveZone_turned (s : State) (r : UnitRecord) : Turned s (leaveZone s r) := by
  have dropped : Turned s (dropRecord r.tag s) := turned_of rfl rfl
  unfold leaveZone
  dsimp only
  refine turned_trans ?_ (zoneChanged_turned _ _)
  split
  · exact turned_trans dropped (queueEvent_turned _ _ _ _)
  · exact dropped

theorem removeAtZoneEnd_turned (s : State) : Turned s (removeAtZoneEnd s) := turned_foldl leaveZone_turned _ s

theorem missArrival_turned (t : Tag) (s : State) : Turned s (missArrival t s) :=
  turned_trans (t := dropArrival t s) (turned_of rfl rfl) (turned_trans (count_turned _ _) (zoneChanged_turned _ _))

theorem placeArrival_turned (m : UnitImage) (s : State) : Turned s (placeArrival m s) := by
  have closed := closeForming_turned enterRecord_turned zoneChanged_turned id s
  unfold placeArrival
  dsimp only
  split
  · exact missArrival_turned _ s
  · generalize closeForming enterRecord zoneChanged id s = u at closed
    split
    · exact turned_trans closed (missArrival_turned _ u)
    · have taken : Turned u (dropArrival m.tag u) := turned_of rfl rfl
      exact turned_trans closed (turned_trans taken (turned_trans (gainLoad_turned _ _)
        (turned_trans (enterRecord_turned _ _) (zoneChanged_turned _ _))))

theorem testArrivals_turned (s : State) : Turned s (testArrivals s) := by
  refine turned_foldl (fun u a => ?_) _ s
  unfold testArrival
  split
  · exact missArrival_turned _ u
  · exact placeArrival_turned _ u

theorem handoverTurn_turned (s : State) : Turned s (handoverTurn s) :=
  turned_trans (t := advanceArrivals s) (turned_of rfl rfl)
    (turned_trans (testArrivals_turned _) (examineZone_turned _))

theorem startSegment_turned (s : State) : Turned s (startSegment s) := by
  have reported : ∀ t u, Turned u (reportOrphan t u) := fun t u => by
    unfold reportOrphan
    split
    · exact turned_refl u
    · exact turned_trans (count_turned _ u) (queueEvent_turned _ _ _ _)
  have issued := turned_trans (issueTag_turned s) (reported (issueTag s).1 _)
  unfold startSegment
  dsimp only
  split
  · exact turned_trans issued (turned_trans (t := insertRecord _ _) (turned_of rfl rfl)
      (turned_trans (examineZone_turned _) (zoneChanged_turned _ _)))
  · exact turned_trans issued (turned_of rfl rfl)

theorem startTest_turned (on : Bool) (s : State) : Turned s (startTest on s) := by
  unfold startTest
  split
  · exact startSegment_turned s
  · exact turned_refl s

/-- All that follows the moves of a count is turns. -/
theorem beltAdvance_turned (on : Bool) (s : State) : Turned (beltMoves on s) (beltAdvance on s) := by
  have first := turned_trans (closeAndJudge_turned (beltMoves on s)) (turned_trans (divertAndPack_turned _)
    (turned_trans (removeAtZoneEnd_turned _) (handoverTurn_turned _)))
  unfold beltAdvance
  dsimp only
  split
  · exact first
  · exact turned_trans first (startTest_turned on _)

end Sys2Proof.Counting


/-! PROOFS. An accepted forward count: its moves, the sample, the walk and the gap run (R55 to R59, R65 to R68, R137). -/

namespace Sys2Proof.Moves

open Sys2Proof Sys2Proof.Machine Sys2Proof.Safety Sys2Proof.Laws Sys2Proof.Postures Sys2Proof.Counting

/-! ### The count's moves -/

/-- `s` after the moves of a count with the sample `on`, before the walk takes its part. -/
def moved (on : Bool) (s : State) : State :=
  sampleEntry on (moveHeads (stepGapRun (stepBelt { s with encoder := encoderForward s.encoder })))

theorem stepBelt_channels (s : State) : stepBelt s = { s with channels := (stepBelt s).channels } := by
  unfold stepBelt
  split <;> rfl

theorem stepGapRun_run (s : State) : stepGapRun s = { s with flow.gapRun := (stepGapRun s).flow.gapRun } := by
  unfold stepGapRun
  split <;> rfl

/-- A count adds one to a gap run, or ends it (R137). -/
theorem stepGapRun_gapRun (s : State) :
    (stepGapRun s).flow.gapRun
      = s.flow.gapRun.bind fun n => if s.gapRunLength ≤ n + 1 then none else some (n + 1) := by
  unfold stepGapRun
  split
  · next none => rw [none]; rfl
  · next n some =>
    rw [some]
    show (if n + 1 < s.gapRunLength then Option.some (n + 1) else none) = if s.gapRunLength ≤ n + 1 then none else _
    by_cases h : n + 1 < s.gapRunLength
    · rw [if_pos h, if_neg (by omega)]
    · rw [if_neg h, if_pos (by omega)]

theorem moved_eq (on : Bool) (s : State) :
    moved on s =
      { s with
        encoder := encoderForward s.encoder
        channels := (stepBelt s).channels
        flow.gapRun := s.flow.gapRun.bind fun n => if s.gapRunLength ≤ n + 1 then none else some (n + 1)
        tracking.zone := s.tracking.zone.map moveRecord
        tracking.mergeBound := s.tracking.mergeBound.map (fun m => { m with length := m.length + 1 })
        tracking.offRun := if on then 0 else sat16 (s.tracking.offRun + 1) } := by
  have belt : stepBelt { s with encoder := encoderForward s.encoder }
      = { s with encoder := encoderForward s.encoder, channels := (stepBelt s).channels } := by
    unfold stepBelt
    dsimp only
    split <;> rfl
  unfold moved
  rw [belt, stepGapRun_run, stepGapRun_gapRun]
  rfl

/-! ### The walk -/

/-- From `s` to `t` the walk wrote its own state and the neighbour record, and queued frames. -/
def Walked (s t : State) : Prop :=
  FramesQueued { s with peer.walk := t.peer.walk, peer.neighbours := t.peer.neighbours } t

theorem walked_of_frames {s t : State} (walk : Option Walk) (n : Neighbours)
    (h : FramesQueued { s with peer.walk := walk, peer.neighbours := n } t) : Walked s t := by
  have pw : t.peer.walk = walk := by have e := congrArg (·.peer.walk) h.1; exact e
  have pn : t.peer.neighbours = n := by have e := congrArg (·.peer.neighbours) h.1; exact e
  unfold Walked
  rw [pw, pn]
  exact h

/-- A record of neighbours with the downstream that was recorded before queues frames only. -/
theorem setNeighbours_upstream (up dist : Nat) (s : State) :
    FramesQueued { s with peer.neighbours := ⟨up, s.downstream, dist⟩ } (setNeighbours ⟨up, s.downstream, dist⟩ s) := by
  have same : (⟨up, s.downstream, dist⟩ : Neighbours).downstream = s.peer.neighbours.downstream := rfl
  unfold setNeighbours
  dsimp only
  rw [if_pos same]
  by_cases upstream : up = s.peer.neighbours.upstream
  · rw [if_pos upstream, if_pos ⟨upstream, same⟩]
    exact framesQueued_refl _
  · rw [if_neg upstream, if_neg fun both => upstream both.1]
    exact framesQueued_trans (queueStatus_framesQueued _) (queueHold_framesQueued _)

theorem edgeOrder_framesQueued (w : Walk) (s : State) : FramesQueued s (edgeOrder w s) := by
  unfold edgeOrder
  split
  · exact queueEvent_framesQueued _ _ _ _
  split
  · exact queueEvent_framesQueued _ _ _ _
  · exact framesQueued_refl s

/-- What the edge leaves in the walk and in the neighbour record (R57, R58). -/
theorem readEdge_frames (w : Walk) (s : State) :
    FramesQueued
      { s with
        peer.walk := some { w with edgeSeen := true, edgeAdvance := 0 }
        peer.neighbours :=
          if s.isHead then s.peer.neighbours else ⟨w.passOrigin, s.downstream, edgeDistance w⟩ }
      (readEdge w s) := by
  unfold readEdge
  dsimp only
  by_cases head : s.isHead = true
  · rw [if_pos head, if_pos (show State.isHead _ = true from head)]
    exact queueFrame_framesQueued _ _
  · rw [if_neg head, if_neg (show ¬ State.isHead _ = true from head)]
    exact framesQueued_trans (setNeighbours_upstream _ _ _)
      (framesQueued_trans (queueFrame_framesQueued _ _) (edgeOrder_framesQueued _ _))

/-- What a count without the edge leaves in the walk (R56, R59). -/
theorem walkPass_frames {s : State} {w : Walk} (walking : s.mode = .walking) (walk : s.peer.walk = some w) :
    FramesQueued
      { s with
        peer.walk := some { w with passSent := w.passSent || (w.edgeSeen && decide (s.zoneLength ≤ w.edgeAdvance)) } }
      (queueWalkPass s) := by
  have due : walkPassDue s = (w.edgeSeen && !w.passSent && decide (s.zoneLength ≤ w.edgeAdvance)) := by
    unfold walkPassDue
    rw [walk]
    rfl
  unfold queueWalkPass
  rw [walk]
  dsimp only
  split
  · next sends =>
    obtain ⟨⟨edge, unsent⟩, reached⟩ := by
      simpa only [due, Bool.and_eq_true, Bool.not_eq_true'] using sends.1
    rw [edge, unsent, reached]
    exact queueFrame_framesQueued _ _
  · next keeps =>
    have stands : (w.passSent || (w.edgeSeen && decide (s.zoneLength ≤ w.edgeAdvance))) = w.passSent := by
      have silent : walkPassDue s = false := Bool.eq_false_iff.2 fun h => keeps ⟨h, walking⟩
      rw [due] at silent
      revert silent
      cases w.passSent <;> cases w.edgeSeen <;> cases decide (s.zoneLength ≤ w.edgeAdvance) <;> decide
    have same : { s with peer.walk := some { w with passSent := w.passSent } } = s := by
      show { s with peer.walk := some w } = s
      rw [← walk]
    rw [stands, same]
    exact framesQueued_refl s

theorem walkStep_walked (on : Bool) (s : State) : Walked s (walkStep on s) := by
  unfold walkStep
  split
  · exact walked_of_frames s.peer.walk s.peer.neighbours (framesQueued_refl s)
  · next w walk =>
    split
    · exact walked_of_frames s.peer.walk s.peer.neighbours (framesQueued_refl s)
    · next walking =>
      split
      · exact walked_of_frames _ _ (readEdge_frames w s)
      · exact walked_of_frames _ s.peer.neighbours
          (walkPass_frames (s := { s with peer.walk := some (walkAdvance on w) }) (Decidable.not_not.1 walking) rfl)

/-! ### The count -/

/-- FORWARD_COUNT, where the station accepts it (R65 to R67). -/
theorem next_forwardCount (on : Bool) {s : State} (profile : s.hasProfile = true) (loud : s.mode ≠ .quiet)
    (paid : s.tracking.reverseDebt = 0) :
    Next (.forwardCount on) s (settle (beltAdvance on { s with encoder := encoderForward s.encoder })) := by
  show execForwardCount on s = done _
  have acts : State.acts { s with encoder := encoderForward s.encoder } = true :=
    Bool.and_eq_true_iff.2 ⟨profile, decide_eq_true loud⟩
  unfold execForwardCount
  dsimp only
  rw [if_pos acts, if_pos paid]

/-- All that a count does after its moves and the walk's part. -/
theorem count_turned (on : Bool) (s : State) :
    Turned (walkStep on (moved on s)) (beltAdvance on { s with encoder := encoderForward s.encoder }) :=
  beltAdvance_turned on _

theorem count_gapRun (on : Bool) (s : State) :
    (beltAdvance on { s with encoder := encoderForward s.encoder }).flow.gapRun
      = s.flow.gapRun.bind fun n => if s.gapRunLength ≤ n + 1 then none else some (n + 1) := by
  have turns := congrArg (·.flow.gapRun) (count_turned on s).1
  have walk := congrArg (·.flow.gapRun) (walkStep_walked on (moved on s)).1
  have moves := congrArg (·.flow.gapRun) (moved_eq on s)
  exact turns.trans (walk.trans moves)

/-- Settles O41: the row GAP_RUN_END by its guard, and the count by the gap run that its moves leave and that no block
writes after them. -/
theorem gapRunEnds : Obligations.GapRunEnds := by
  unfold Obligations.GapRunEnds
  intro s n profile loud run
  have acts : s.acts = true := Bool.and_eq_true_iff.2 ⟨profile, decide_eq_true loud⟩
  have due : (s.acts && gapRunDue s) = decide (s.gapRunLength ≤ n) := by
    unfold gapRunDue
    rw [acts, run]
    rfl
  have row : exec .gapRunEnd s = execGapRunEnd s := rfl
  unfold Next
  rw [row]
  unfold execGapRunEnd
  rw [due]
  refine ⟨fun reached => ?_, fun short => ?_, fun on paid => ?_⟩
  · rw [if_pos (decide_eq_true reached)]
    rfl
  · rw [if_neg (by simp only [decide_eq_true_eq]; omega)]
  · refine ⟨_, next_forwardCount on profile loud paid, ?_⟩
    show (beltAdvance on { s with encoder := encoderForward s.encoder }).flow.gapRun = _
    rw [count_gapRun, run]
    rfl

end Sys2Proof.Moves


/-! PROOFS. The clocks of the channels: the millisecond bases, the one-shots and the belt base (R158 to R163, R168). -/

namespace Sys2Proof.Clocks

open Sys2Proof Sys2Proof.Machine Sys2Proof.Safety Sys2Proof.Laws Sys2Proof.Line Sys2Proof.Postures Sys2Proof.Counting
  Sys2Proof.Moves Sys2Proof.Limits

/-! ### A base value and a channel -/

/-- What a base value does to a channel that reads the base, by the channel's mode (R160 to R162). -/
theorem channelTakes_compares (r : ChannelRecord) (n : Nat) (wrap : Bool) (c : Channel) :
    CompareTakes r n wrap c (channelTakes r n wrap c) := by
  unfold CompareTakes channelTakes
  refine ⟨fun mode => ?setAt, fun mode => ?clearAt, fun mode => ?toggle, fun mode => ?onePulse, fun mode => ?repeats⟩
  case setAt =>
    simp only [mode]
    by_cases at_a : n = r.a <;> cases latched : c.latched <;> simp [at_a, latched]
  case clearAt =>
    simp only [mode]
    by_cases at_a : n = r.a <;> cases latched : c.latched <;> simp [at_a, latched]
  case toggle =>
    simp only [mode]
    by_cases at_a : n = r.a <;> simp [at_a]
  case onePulse =>
    simp only [mode]
    refine ⟨fun phase differ at_a => ?_, fun phase same => ?_, fun phase ran at_b => ?_, fun phase ran other => ?_,
      fun phase wrapped => ?_, fun phase => ?_⟩
    · simp [phase, if_pos at_a, if_neg differ]
    · rw [phase]
      dsimp only
      split
      · next at_a => rw [if_pos (same.resolve_right (· at_a))]
      · rfl
    · simp [phase, ran, if_pos at_b]
    · simp [phase, ran, if_neg other]
    · simp [phase, wrapped]
    · simp [phase]
  case repeats =>
    simp only [mode]
    split
    · rfl
    · split
      · rfl
      · split <;> rfl

/-- Any other channel keeps all it has when a base value passes it. -/
theorem channelTakes_run (r : ChannelRecord) (n : Nat) (wrap : Bool) (c : Channel) :
    (channelTakes r n wrap c).run = c.run := by
  unfold channelTakes
  repeat' split
  all_goals rfl

theorem compareTakes_out {r : ChannelRecord} {n : Nat} {wrap : Bool} {c d : Channel} (o : Bool)
    (h : CompareTakes r n wrap c d) : CompareTakes r n wrap c { d with out := o } := h

/-- A base's value at one channel. -/
theorem baseTakes_at (base : BaseName) (v : Nat) (wrap : Bool) (s : State) (ch : Nat) (h : ch < 6) :
    (baseTakes base v wrap s).channels.chans[ch]
      = if s.channels.chans[ch].run = .running ∧ (s.channelRecord ch).base = base then
          channelTakes (s.channelRecord ch) v wrap s.channels.chans[ch]
        else s.channels.chans[ch] :=
  mapChannels_get _ _ ch h

theorem baseNext_eq (p v : Nat) :
    baseNext p v = (if v + 1 < p then v + 1 else 0, decide (p ≤ v + 1)) := by
  unfold baseNext
  by_cases short : v + 1 < p
  · rw [if_pos short, if_pos short, decide_eq_false (by omega)]
  · rw [if_neg short, if_neg short, decide_eq_true (by omega)]

/-! ### The rows -/

/-- A millisecond of a running base. -/
theorem next_timeBaseTick {base : MsBase} {v : Nat} {s : State} (loud : s.mode ≠ .quiet)
    (value : msBaseValue s base = some v) :
    Next (.timeBaseTick base) s
      (settle (baseTakes (msBaseName base) (if v + 1 < msBasePeriod s base then v + 1 else 0)
        (decide (msBasePeriod s base ≤ v + 1))
        (setMsBase base (some (if v + 1 < msBasePeriod s base then v + 1 else 0)) s))) := by
  show execTimeBaseTick base s = done _
  unfold execTimeBaseTick
  rw [value]
  dsimp only
  rw [if_neg loud, baseNext_eq]

theorem setMsBase_chans (base : MsBase) (v : Option Nat) (s : State) :
    (setMsBase base v s).channels.chans = s.channels.chans := by
  cases base <;> rfl

theorem setMsBase_value (base : MsBase) (v : Option Nat) (s : State) : msBaseValue (setMsBase base v s) base = v := by
  cases base <;> rfl

theorem setMsBase_station (base : MsBase) (v : Option Nat) (s : State) :
    (setMsBase base v s).station = s.station := by
  cases base <;> rfl

/-- A tick at one channel that reads the base. -/
theorem tick_at {base : MsBase} (n : Nat) (wrap : Bool) {s : State} (ch : Nat) (h : ch < 6)
    (reads : (s.channelRecord ch).base = msBaseName base) (running : s.channels.chans[ch].run = .running) :
    (baseTakes (msBaseName base) n wrap (setMsBase base (some n) s)).channels.chans[ch]
      = channelTakes (s.channelRecord ch) n wrap s.channels.chans[ch] := by
  have same : (setMsBase base (some n) s).channelRecord ch = s.channelRecord ch :=
    channelRecord_station (setMsBase_station base _ s) ch
  have chans : (setMsBase base (some n) s).channels.chans[ch] = s.channels.chans[ch] := by
    simp only [setMsBase_chans]
  rw [baseTakes_at _ _ _ _ _ h, same, chans, if_pos ⟨running, reads⟩]

/-- The output of a running DUTY channel that is not a head's infeed channel (R163). -/
theorem channelOutput_duty {u : State} {base : MsBase} {ch n : Nat} {c : Channel} (running : c.run = .running)
    (duty : (u.channelRecord ch).mode = .duty) (reads : (u.channelRecord ch).base = msBaseName base)
    (value : msBaseValue u base = some n) (other : u.isHead = false ∨ u.infeedChannel ≠ ch) :
    channelOutput u ch c = decide (n < (u.channelRecord ch).a * msBasePeriod u base / 64) := by
  have based : dutyBase u (u.channelRecord ch) = some (n, msBasePeriod u base) := by
    unfold dutyBase
    rw [reads]
    cases base
    · show u.channels.tb0.map _ = _
      rw [show u.channels.tb0 = some n from value]
      rfl
    · show u.channels.tb1.map _ = _
      rw [show u.channels.tb1 = some n from value]
      rfl
  have free : ¬ (u.isHead = true ∧ u.infeedChannel = ch) := by
    rintro ⟨head, infeed⟩
    exact other.elim (fun no => Bool.false_ne_true (no.symm.trans head)) (· infeed)
  unfold channelOutput
  simp only [running, duty, based, if_neg free]
  rfl

/-- What the tick of a one-shot leaves of its channel (R168). -/
theorem stepOneShot_running {r : ChannelRecord} {c : Channel} {n : Nat} (running : c.run = .running)
    (mode : r.mode = .eventPulse) (shot : c.oneShot = some n) (low : n < 65535) :
    (stepOneShot r c).oneShot = some (n + 1) ∧ (stepOneShot r c).run = .running
      ∧ (n + 1 = r.a → n + 1 ≠ r.b → (stepOneShot r c).level = true)
      ∧ (n + 1 ≠ r.a → n + 1 = r.b → c.rose = true → (stepOneShot r c).level = false) := by
  unfold stepOneShot
  rw [shot]
  dsimp only
  rw [if_pos ⟨running, mode, low⟩]
  unfold oneShotTakes
  refine ⟨?_, ?_, fun at_a off_b => ?_, fun off_a at_b rose => ?_⟩
  · repeat' split
    all_goals rfl
  · repeat' split
    all_goals exact running
  · rw [if_neg (fun same => off_b (at_a.trans same)), if_pos at_a]
  · rw [if_neg (fun same => off_a (at_b.trans same.symm)), if_neg off_a, if_pos ⟨at_b, rose⟩]

/-! ### The belt base on a count -/

/-- What the belt base's step leaves of the channels (R159). -/
theorem stepBelt_base (s : State) :
    (stepBelt s).channels.tb0 = s.channels.tb0 ∧ (stepBelt s).channels.tb1 = s.channels.tb1
      ∧ (s.channels.belt = none → stepBelt s = s)
      ∧ ∀ v, s.channels.belt = some v →
          (stepBelt s).channels.belt = some (if v + 1 < s.zoneLength then v + 1 else 0)
          ∧ ∀ ch (h : ch < 6), (stepBelt s).channels.chans[ch]
              = if s.channels.chans[ch].run = .running ∧ (s.channelRecord ch).base = .belt then
                  channelTakes (s.channelRecord ch) (if v + 1 < s.zoneLength then v + 1 else 0)
                    (decide (s.zoneLength ≤ v + 1)) s.channels.chans[ch]
                else s.channels.chans[ch] := by
  unfold stepBelt
  cases belt : s.channels.belt with
  | none => exact ⟨rfl, rfl, fun _ => rfl, fun _ some => absurd some nofun⟩
  | some v =>
    dsimp only
    rw [baseNext_eq]
    refine ⟨rfl, rfl, fun none => absurd none nofun, fun v' same => ?_⟩
    obtain rfl : v = v' := Option.some.inj same
    exact ⟨rfl, fun ch h => baseTakes_at _ _ _ _ ch h⟩

/-- What a whole count leaves of the channels, of which only one-shots may be triggered after the belt base's step. -/
theorem count_pulsed (on : Bool) (s : State) :
    Pulsed { s with channels := (stepBelt s).channels }
      (beltAdvance on { s with encoder := encoderForward s.encoder }) := by
  have walked := (walkStep_walked on (moved on s)).1
  have station := congrArg (·.station) walked
  have channels := congrArg (·.channels) walked
  have moves : (moved on s).station = s.station ∧ (moved on s).channels = (stepBelt s).channels := by
    rw [moved_eq]
    exact ⟨rfl, rfl⟩
  exact pulsed_trans (pulsed_of_channels (station.trans moves.1) (channels.trans moves.2)) (count_turned on s).2

/-- A channel after a count, but for one-shots. -/
theorem count_channel {on : Bool} {s : State} {ch : Nat} (h : ch < 6) (mode : (s.channelRecord ch).mode ≠ .eventPulse) :
    ∃ o, (settle (beltAdvance on { s with encoder := encoderForward s.encoder })).channels.chans[ch]
      = { (stepBelt s).channels.chans[ch] with out := o } :=
  ⟨_, (pulsed_settle (count_pulsed on s)).2.2.2 ch h mode⟩

/-- Settles O58: the rows from what a base value does to a channel, and the count from the belt base's step, after which
only one-shots change. -/
theorem channelClocks : Obligations.ChannelClocks := by
  unfold Obligations.ChannelClocks
  refine ⟨fun s base v loud value => ?base, fun s ch n h loud mode running shot low => ?oneShot,
    fun s base v n ch h r c loud value hn hr hc reads running => ?compares, fun s on profile loud paid => ?count⟩
  case base =>
    refine ⟨_, next_timeBaseTick loud value, ?_⟩
    have fields : ∀ n wrap, baseTakes (msBaseName base) n wrap (setMsBase base (some n) s)
        = { s with channels := (baseTakes (msBaseName base) n wrap (setMsBase base (some n) s)).channels } := by
      intro n wrap
      cases base <;> rfl
    generalize (if v + 1 < msBasePeriod s base then v + 1 else 0) = n
    generalize decide (msBasePeriod s base ≤ v + 1) = wrap
    have at_channel := fun ch h => tick_at (base := base) n wrap (s := s) ch h
    have ticked : msBaseValue (baseTakes (msBaseName base) n wrap (setMsBase base (some n) s)) base = some n := by
      cases base <;> rfl
    have same := fields n wrap
    generalize baseTakes (msBaseName base) n wrap (setMsBase base (some n) s) = u at same at_channel ticked
    refine ⟨?_, ?_, fun ch h duty reads running other => ?_⟩
    · calc settle u = settle { u with channels := (settle u).channels } := (settle_channels u).symm
        _ = settle { s with channels := (settle u).channels } := by rw [same]
    · cases base <;> exact ticked
    · have station : u.station = s.station := by rw [same]
      have head : u.isHead = s.isHead ∧ u.infeedChannel = s.infeedChannel ∧ msBasePeriod u base = msBasePeriod s base := by
        rw [same]
        cases base <;> exact ⟨rfl, rfl, rfl⟩
      have record := channelRecord_station station ch
      have run : u.channels.chans[ch].run = .running := by
        rw [at_channel ch h reads running, channelTakes_run]
        exact running
      have out := channelOutput_duty (u := u) (c := u.channels.chans[ch]) run (by rw [record]; exact duty)
        (by rw [record]; exact reads) ticked (by rw [head.1, head.2.1]; exact other)
      rw [record, head.2.2] at out
      rw [← out]
      have settled := settleOutputs_out (settleLine u) ch h
      exact congrArg Channel.out settled
  case oneShot =>
    have row : exec (.oneShotTick ch) s
        = done (s.mapChannels fun k c => if k = ch then stepOneShot (s.channelRecord k) c else c) := if_neg loud
    have got : (s.mapChannels fun k c => if k = ch then stepOneShot (s.channelRecord k) c else c).channels.chans[ch]
        = stepOneShot (s.channelRecord ch) s.channels.chans[ch] :=
      (mapChannels_get _ _ ch h).trans (if_pos rfl)
    have same : (s.mapChannels fun k c => if k = ch then stepOneShot (s.channelRecord k) c else c)
        = { s with channels :=
              (s.mapChannels fun k c => if k = ch then stepOneShot (s.channelRecord k) c else c).channels } := rfl
    obtain ⟨shots, runs, rises, falls⟩ := stepOneShot_running running mode shot low
    refine ⟨_, row, ?_⟩
    generalize (s.mapChannels fun k c => if k = ch then stepOneShot (s.channelRecord k) c else c) = u at got same
    have record : u.channelRecord ch = s.channelRecord ch := channelRecord_station (by rw [same]) ch
    have out : (settle u).channels.chans[ch].out = (stepOneShot (s.channelRecord ch) s.channels.chans[ch]).level := by
      have settled := congrArg Channel.out (settleOutputs_out (settleLine u) ch h)
      refine settled.trans ?_
      show channelOutput u ch u.channels.chans[ch] = _
      rw [got]
      unfold channelOutput
      simp only [runs, record, mode]
      rfl
    rw [out, settle_out u ch h, got]
    refine ⟨?_, shots, rises, falls⟩
    calc settle u = settle { u with channels := (settle u).channels } := (settle_channels u).symm
      _ = settle { s with channels := (settle u).channels } := by rw [same]
  case compares =>
    subst hn hr hc
    refine ⟨_, next_timeBaseTick loud value, ?_⟩
    rw [settle_out _ ch h, tick_at _ _ ch h reads running]
    exact compareTakes_out _ (channelTakes_compares _ _ _ _)
  case count =>
    refine ⟨_, next_forwardCount on profile loud paid, ?_⟩
    obtain ⟨tb0, tb1, belt, -⟩ := pulsed_settle (count_pulsed on s)
    obtain ⟨tb0', tb1', still, moves⟩ := stepBelt_base s
    refine ⟨tb0.trans tb0', tb1.trans tb1', fun none => ?_, fun v some => ?_⟩
    · rw [belt]
      show (stepBelt s).channels.belt = _
      rw [still none, none]
    · obtain ⟨next, chans⟩ := moves v some
      refine ⟨belt.trans next, fun ch h running => ⟨fun reads => ?_, fun other mode => ?_⟩⟩
      · by_cases pulse : (s.channelRecord ch).mode = .eventPulse
        · unfold CompareTakes
          simp [pulse]
        · obtain ⟨o, after⟩ := count_channel (on := on) h pulse
          rw [after, (chans ch h).trans (if_pos ⟨running, reads⟩)]
          exact compareTakes_out o (channelTakes_compares _ _ _ _)
      · obtain ⟨o, after⟩ := count_channel (on := on) h mode
        rw [after, (chans ch h).trans (if_neg fun both => other both.2)]

end Sys2Proof.Clocks


/-! PROOFS. The frames of a count: how many of them a block's turn adds to the transmit queue (R39 to R41). -/

namespace Sys2Proof.Fitting

open Sys2Proof Sys2Proof.Machine Sys2Proof.Safety Sys2Proof.Laws Sys2Proof.Room

/-- Room for `k` frames of any kind. -/
structure Fits (k : Nat) (s : State) : Prop where
  awake : s.mode ≠ .quiet
  loud : s.link.silencing = false
  room : s.link.txq.length + k ≤ 8

/-- From `s` to `t` the transmit queue has taken at most `k` frames. With room for them it loses none that does not
merge. -/
def Grows (k : Nat) (s t : State) : Prop :=
  ∀ n, Fits (n + k) s → Fits n t ∧ ∀ f, mergingKind f.kind = false → Carries f s → Carries f t

/-- From `s` to `t` the transmit queue has lost no frame that does not merge, whether it had room or not. -/
def Keeps (s t : State) : Prop :=
  s.mode ≠ .quiet → s.link.silencing = false → (t.mode ≠ .quiet ∧ t.link.silencing = false)
    ∧ (kindWaits .status s.link.txq = true → kindWaits .status t.link.txq = true)
    ∧ ∀ f, mergingKind f.kind = false → Carries f s → Carries f t

theorem Fits.mono {j k : Nat} {s : State} (h : Fits k s) (le : j ≤ k) : Fits j s :=
  ⟨h.awake, h.loud, by have := h.room; omega⟩

theorem fits_of_spare {hold : Bool} {k : Nat} {s : State} (h : Spare hold k s) : Fits k s :=
  ⟨h.awake, h.loud, h.length⟩

theorem Fits.spare {k : Nat} {s : State} (h : Fits (k + 2) s) : Spare true k s :=
  spare_of_length h.awake h.loud (by have := h.room; simp only [Bool.toNat_true]; omega)

namespace Grows

variable {s t u : State}

theorem refl (s : State) : Grows 0 s s := fun _ h => ⟨h, fun _ _ c => c⟩

theorem trans {j k : Nat} (h : Grows j s t) (h' : Grows k t u) : Grows (j + k) s u := by
  intro n room
  obtain ⟨first, keep⟩ := h (n + k) (by rwa [Nat.add_assoc, Nat.add_comm k j])
  obtain ⟨second, keep'⟩ := h' n first
  exact ⟨second, fun f hf c => keep' f hf (keep f hf c)⟩

theorem mono {j k : Nat} (h : Grows j s t) (le : j ≤ k) : Grows k s t := fun n room => h n (room.mono (by omega))

/-- A change that leaves the link and the mode. -/
theorem of_link (hl : t.link = s.link) (hm : t.mode = s.mode) : Grows 0 s t :=
  fun _ h => ⟨⟨by rw [hm]; exact h.awake, by rw [hl]; exact h.loud, by rw [hl]; exact h.room⟩,
    fun _ _ ⟨e, he, hf⟩ => ⟨e, by rw [hl]; exact he, hf⟩⟩

/-- What follows depends on the link and the mode alone. -/
theorem congr {k : Nat} {s' : State} (h : Grows k s t) (hl : s'.link = s.link) (hm : s'.mode = s.mode) : Grows k s' t := by
  have first : Grows 0 s' s := of_link hl.symm hm.symm
  exact (first.trans h).mono (by omega)

end Grows

theorem queueFrame_grows (f : Frame) (s : State) : Grows 1 s (queueFrame f s) := by
  intro n h
  have keep := fun g hg => (queueFrame_carries (f := f) (s := s) h.awake h.loud (by have := h.room; omega)).2 g hg
  refine ⟨?_, fun g hg c => ?_⟩
  · cases hw : mergingKind f.kind && kindWaits f.kind s.link.txq with
    | true =>
      rw [queueFrame_merges h.awake h.loud hw]
      refine ⟨h.awake, h.loud, ?_⟩
      have := h.room
      show (replaceWaiting f s.link.txq).length + n ≤ 8
      rw [replaceWaiting, List.length_map]
      omega
    | false =>
      rw [queueFrame_accepts ⟨h.awake, h.loud, by have := h.room; omega, hw⟩]
      refine ⟨h.awake, h.loud, ?_⟩
      have := h.room
      show (Safety.queued f s.link.txq).length + n ≤ 8
      rw [length_queued]
      omega
  · by_cases merging : mergingKind f.kind = true
    · exact keep g (.inl fun same => by rw [same, merging] at hg; nomatch hg) c
    · exact keep g (.inr (Bool.eq_false_iff.2 merging)) c

theorem queueEvent_grows (n : EventName) (d t : Nat) (s : State) : Grows 1 s (queueEvent n d t s) := queueFrame_grows _ s

/-! ### An EVENT takes no other frame's place -/

namespace Keeps

variable {s t u : State}

theorem refl (s : State) : Keeps s s := fun awake loud => ⟨⟨awake, loud⟩, id, fun _ _ c => c⟩

theorem trans (h : Keeps s t) (h' : Keeps t u) : Keeps s u := by
  intro awake loud
  obtain ⟨⟨awake', loud'⟩, waits, keep⟩ := h awake loud
  obtain ⟨same, waits', keep'⟩ := h' awake' loud'
  exact ⟨same, waits' ∘ waits, fun f hf c => keep' f hf (keep f hf c)⟩

theorem of_link (hl : t.link = s.link) (hm : t.mode = s.mode) : Keeps s t :=
  fun awake loud => ⟨⟨by rw [hm]; exact awake, by rw [hl]; exact loud⟩, by rw [hl]; exact id,
    fun _ _ ⟨e, he, hf⟩ => ⟨e, by rw [hl]; exact he, hf⟩⟩

end Keeps

theorem kindClass_le (k : Kind) : kindClass k ≤ 3 := by cases k <;> decide

theorem queueEvent_keeps (n : EventName) (d t : Nat) (s : State) : Keeps s (queueEvent n d t s) := by
  intro awake loud
  have event : (eventFrame n d t s).kind = .event := rfl
  by_cases room : s.link.txq.length < 8
  · have keep := (queueFrame_carries (f := eventFrame n d t s) awake loud room).2
    have queued := queueFrame_accepts (f := eventFrame n d t s) (s := s) ⟨awake, loud, room, rfl⟩
    unfold queueEvent
    refine ⟨?_, fun waits => ?_, fun f _ c => keep f (.inr rfl) c⟩
    · rw [queued]
      exact ⟨awake, loud⟩
    · rw [queued]
      show kindWaits .status (Safety.queued _ _) = true
      rw [kindWaits_queued, waits, Bool.or_true]
  · have lost : queueEvent n d t s = count .txDrop s := by
      unfold queueEvent queueFrame enqueue
      rw [if_neg (by simp [awake, loud]), if_neg (by simp [event, mergingKind]), if_neg room]
      cases waiting : lastWaiting s.link.txq with
      | none => exact settleLoss_other (by rw [event]; decide) _
      | some e =>
        dsimp only
        have high : ¬ kindClass (eventFrame n d t s).kind < kindClass e.frame.kind := by
          have := kindClass_le e.frame.kind
          have own : kindClass (eventFrame n d t s).kind = 3 := rfl
          omega
        rw [if_neg high]
        exact settleLoss_other (by rw [event]; decide) _
    rw [lost]
    exact Keeps.of_link (s := s) rfl rfl awake loud

/-! ### The drive -/

/-- The drive's frames: none, or one EVENT, where the drive's start was not yet deferred, and then is. -/
theorem evaluateDrive_frames (s : State) :
    ((evaluateDrive s).link = s.link
      ∨ ∃ (u : State) (n : EventName) (d t : Nat), u.link = s.link ∧ u.mode = s.mode
          ∧ (evaluateDrive s).link = (queueEvent n d t u).link
          ∧ s.mode ≠ .walking ∧ s.flow.driveLimiter.deferred = none
          ∧ (evaluateDrive s).flow.driveLimiter.deferred ≠ none)
    ∧ (evaluateDrive s).mode = s.mode := by
  have off : (driveOff (withdrawStart .drive s)).link = s.link := Line.driveOff_link _
  refine ⟨?_, blocksResponded_mode (evaluateDrive_blocks s)⟩
  unfold evaluateDrive
  split
  · exact .inl rfl
  split
  · split
    · exact .inl rfl
    · exact .inl (Line.driveOff_link s)
  split
  · exact .inl rfl
  next unwalking =>
  split
  · split
    · exact .inl off
    split
    · exact .inl rfl
    · cases free : s.flow.driveLimiter.deferred with
      | some n =>
        have joins : requestStart .drive s = (s, false) := Limits.requestStart_joins (by
          show s.flow.driveLimiter.deferred ≠ none
          rw [free]; nofun)
        rw [joins]
        exact .inl rfl
      | none =>
        have unasked : (limiterOf s .drive).deferred = none := free
        cases answer : limiterAnswer (limiterWindow s .drive) (limiterStop s .drive) s.now (limiterOf s .drive) with
        | granted l =>
          rw [Limits.requestStart_granted unasked answer]
          exact .inl rfl
        | deferred l failing length =>
          have asked : l.deferred ≠ none := by
            unfold limiterAnswer at answer
            dsimp only at answer
            split at answer
            · cases answer
            · cases answer
              nofun
          have defers : requestStart .drive s
              = (queueEvent .startDeferred (256 * limiterCode .drive + failing) (sat16 (ceilDiv length 100))
                  (count .startDeferred (setLimiter .drive l s)), false) := by
            unfold requestStart
            rw [if_neg (by rw [unasked]; nofun), answer]
          generalize 256 * limiterCode .drive + failing = d at defers
          generalize sat16 (ceilDiv length 100) = n at defers
          have link : (count .startDeferred (setLimiter .drive l s)).link = s.link := rfl
          have mode : (count .startDeferred (setLimiter .drive l s)).mode = s.mode := rfl
          have limiter : (count .startDeferred (setLimiter .drive l s)).flow.driveLimiter = l := rfl
          generalize count .startDeferred (setLimiter .drive l s) = u at defers link mode limiter
          have flow : (queueEvent .startDeferred d n u).flow.driveLimiter = u.flow.driveLimiter := by
            have e := congrArg (·.flow.driveLimiter) (queueEvent_framesQueued .startDeferred d n u).1
            exact e
          rw [defers]
          exact .inr ⟨u, .startDeferred, d, n, link, mode, rfl, unwalking, rfl,
            fun none => asked (by rw [← limiter, ← flow]; exact none)⟩
  · exact .inl off

theorem evaluateDrive_grows (s : State) : Grows 1 s (evaluateDrive s) := by
  obtain ⟨frames, mode⟩ := evaluateDrive_frames s
  rcases frames with link | ⟨u, n, d, t, link, mode', link', -⟩
  · exact (Grows.of_link link mode).mono (by omega)
  · have queues := (queueEvent_grows n d t u).congr (s' := s) link.symm mode'.symm
    have mode'' : (queueEvent n d t u).mode = u.mode := blocksResponded_mode (framesQueued_blocks (queueEvent_framesQueued _ _ _ _))
    exact queues.trans (Grows.of_link link' (mode.trans (mode'.symm.trans mode''.symm)))

theorem evaluateDrive_keeps (s : State) : Keeps s (evaluateDrive s) := by
  obtain ⟨frames, mode⟩ := evaluateDrive_frames s
  rcases frames with link | ⟨u, n, d, t, link, mode', link', -⟩
  · exact Keeps.of_link link mode
  · have mode'' : (queueEvent n d t u).mode = u.mode := blocksResponded_mode (framesQueued_blocks (queueEvent_framesQueued _ _ _ _))
    exact ((Keeps.of_link link mode').trans (queueEvent_keeps n d t u)).trans
      (Keeps.of_link link' (mode.trans (mode'.symm.trans mode''.symm)))

/-- In WALKING, and where a start is deferred already, the drive queues nothing. -/
theorem evaluateDrive_grows_none {s : State} (h : s.mode = .walking ∨ s.flow.driveLimiter.deferred ≠ none) :
    Grows 0 s (evaluateDrive s) := by
  obtain ⟨frames, mode⟩ := evaluateDrive_frames s
  rcases frames with link | ⟨u, n, d, t, -, -, -, unwalking, free, -⟩
  · exact Grows.of_link link mode
  · exact absurd h (by simp [unwalking, free])

/-- One EVENT at most, after which a start is deferred. -/
theorem evaluateDrive_grows_once (s : State) :
    Grows 0 s (evaluateDrive s)
      ∨ (Grows 1 s (evaluateDrive s) ∧ (evaluateDrive s).flow.driveLimiter.deferred ≠ none) := by
  obtain ⟨frames, mode⟩ := evaluateDrive_frames s
  rcases frames with link | ⟨-, -, -, -, -, -, -, -, -, asked⟩
  · exact .inl (Grows.of_link link mode)
  · exact .inr ⟨evaluateDrive_grows s, asked⟩

end Sys2Proof.Fitting


/-! PROOFS. The stages of an accepted forward count after its moves, where nothing forms, is due or leaves, and the count
of a clear belt (R55 to R59, R67, R73). -/

namespace Sys2Proof.Turns

open Sys2Proof Sys2Proof.Machine Sys2Proof.Safety Sys2Proof.Laws Sys2Proof.Room Sys2Proof.Fitting Sys2Proof.Counting
  Sys2Proof.Moves Sys2Proof.Zone

/-! ### A stage with nothing to do -/

theorem formingLength_none {s : State} (h : s.formingNow = false) : formingLength s = none := by
  simp only [State.formingNow, Bool.or_eq_false_iff, Option.isSome_eq_false_iff, Option.isNone_iff_eq_none] at h
  obtain ⟨bound, forming⟩ := h
  have unformed : s.tracking.zone.find? (·.forming) = none :=
    List.find?_eq_none.2 fun r hr f => by
      rw [List.any_eq_true.2 ⟨r, hr, f⟩] at forming
      nomatch forming
  unfold formingLength
  rw [bound, unformed]
  rfl

theorem lengthDue_unformed {s : State} (h : s.formingNow = false) : lengthDue s = false := by
  unfold lengthDue
  rw [formingLength_none h]
  rfl

theorem closeDue_unformed {s : State} (h : s.formingNow = false) : closeDue s = s := by
  unfold closeDue
  rw [lengthDue_unformed h]
  unfold gapDue
  rw [formingLength_none h]
  rfl

theorem closeAndJudge_unbound {s : State} (h : s.tracking.mergeBound = none) : closeAndJudge s = judgeZone (closeDue s) := by
  unfold closeAndJudge closeInserted
  rw [h]
  rfl

theorem closeAndJudge_unformed {s : State} (h : s.formingNow = false) : closeAndJudge s = judgeZone s := by
  have bound : s.tracking.mergeBound = none := by
    simp only [State.formingNow, Bool.or_eq_false_iff, Option.isSome_eq_false_iff, Option.isNone_iff_eq_none] at h
    exact h.1
  rw [closeAndJudge_unbound bound, closeDue_unformed h]

theorem judgeZone_undue {s : State} (h : ∀ r ∈ s.tracking.zone, verdictDue s r = false) : judgeZone s = s := by
  have none : s.tracking.zone.filter (verdictDue s) = [] := List.filter_eq_nil_iff.2 fun r hr d => by
    rw [h r hr] at d
    nomatch d
  have same : s.tracking.zone.map (fun r => if verdictDue s r then judgedRecord s r else r) = s.tracking.zone := by
    conv_rhs => rw [← List.map_id s.tracking.zone]
    exact List.map_congr_left fun r hr => if_neg (by rw [h r hr]; nofun)
  unfold judgeZone
  rw [none, same]
  rfl

theorem takeWindows_still {s : State} (h : ∀ ch, ch < 6 → removingWindow s ch = false) (present : List (Tag × UnitKind))
    (takes : Nat → Bool) : takeWindows present takes s = s := by
  have stands : ∀ (l : List Nat), (∀ ch ∈ l, ch < 6) → l.foldl (takeWindow present) s = s := by
    intro l
    induction l with
    | nil => exact fun _ => rfl
    | cons ch l ih =>
      intro small
      have one : takeWindow present s ch = s := if_neg (by rw [h ch (small ch List.mem_cons_self)]; nofun)
      rw [List.foldl_cons, one]
      exact ih fun c hc => small c (List.mem_cons_of_mem _ hc)
  exact stands _ fun ch hc => List.mem_range.1 (List.mem_filter.1 hc).1

theorem packingTags_none {s : State} (h : ∀ r ∈ s.tracking.zone, packingDue s r = false) : packingTags s = [] := by
  unfold packingTags
  rw [List.filter_eq_nil_iff.2 fun r hr d => by rw [h r hr] at d; nomatch d]
  rfl

theorem divertAndPack_still {s : State} (windows : ∀ ch, ch < 6 → removingWindow s ch = false)
    (due : ∀ r ∈ s.tracking.zone, packingDue s r = false) : divertAndPack s = s := by
  unfold divertAndPack
  rw [packingTags_none due]
  exact takeWindows_still windows _ _

theorem removeAtZoneEnd_inside {s : State} (h : ∀ r ∈ s.tracking.zone, r.tail < (s.zoneLength : Int)) :
    removeAtZoneEnd s = s := by
  have none : s.tracking.zone.filter (pastZoneEnd s) = [] := List.filter_eq_nil_iff.2 fun r hr d => by
    have past := of_decide_eq_true d
    have := h r hr
    omega
  unfold removeAtZoneEnd
  rw [none]
  rfl

theorem handoverTurn_alone {s : State} (h : s.arrivals = []) : handoverTurn s = examineZone s := by
  have advanced : advanceArrivals s = s := by
    unfold advanceArrivals
    rw [h]
    show { s with arrivals := [] } = s
    rw [← h]
  have tested : testArrivals s = s := by
    unfold testArrivals
    rw [h]
    rfl
  unfold handoverTurn
  rw [advanced, tested]

theorem examineZone_clear {s : State} (h : s.tracking.zone = []) : examineZone s = evaluateDrive s := by
  have offers : makeOffers s = s := by
    unfold makeOffers
    rw [h]
    rfl
  have passes : makePasses s = s := by
    unfold makePasses
    rw [h]
    rfl
  unfold examineZone
  rw [offers, passes]
  exact ite_self _

/-- On a clear belt a count judges, diverts, packs and removes nothing. -/
theorem stages_clear {s : State} (zone : s.tracking.zone = []) (free : s.tracking.mergeBound = none) :
    removeAtZoneEnd (divertAndPack (closeAndJudge s)) = s ∧ lengthDue s = false := by
  have forming : s.formingNow = false := by
    unfold State.formingNow
    rw [zone, free]
    rfl
  have none : ∀ {P : UnitRecord → Prop}, ∀ r ∈ s.tracking.zone, P r := fun r hr => by
    rw [zone] at hr
    nomatch hr
  have judged : closeAndJudge s = s := (closeAndJudge_unformed forming).trans (judgeZone_undue none)
  have diverted : divertAndPack s = s := by
    have still : ∀ present, ∀ l : List Nat, l.foldl (takeWindow present) s = s := by
      intro present l
      induction l with
      | nil => rfl
      | cons ch l ih =>
        have one : takeWindow present s ch = s := by
          unfold takeWindow
          rw [zone]
          exact ite_self _
        rw [List.foldl_cons, one, ih]
    unfold divertAndPack
    rw [packingTags_none none]
    exact still _ _
  rw [judged, diverted, removeAtZoneEnd_inside none]
  exact ⟨rfl, lengthDue_unformed forming⟩

theorem turns_clear {s : State} (zone : s.tracking.zone = []) (alone : s.arrivals = [])
    (free : s.tracking.mergeBound = none) :
    handoverTurn (removeAtZoneEnd (divertAndPack (closeAndJudge s))) = evaluateDrive s ∧ lengthDue s = false := by
  obtain ⟨stages, short⟩ := stages_clear zone free
  rw [stages, handoverTurn_alone alone, examineZone_clear zone]
  exact ⟨rfl, short⟩

/-! ### What a count's moves and walk leave -/

/-- The state in which a count's blocks take their turns. -/
def walked (on : Bool) (s : State) : State := walkStep on (moved on s)

theorem count_eq (on : Bool) (s : State) :
    beltAdvance on { s with encoder := encoderForward s.encoder }
      = if lengthDue (walked on s) then
          handoverTurn (removeAtZoneEnd (divertAndPack (closeAndJudge (walked on s))))
        else startTest on (handoverTurn (removeAtZoneEnd (divertAndPack (closeAndJudge (walked on s))))) := rfl

/-- All of `walked on s` but the walk, the neighbour record, frames and handover states. -/
theorem walked_eq (on : Bool) (s : State) :
    walked on s =
      withFrames
        { s with
          peer.walk := (walked on s).peer.walk
          peer.neighbours := (walked on s).peer.neighbours
          encoder := encoderForward s.encoder
          channels := (stepBelt s).channels
          flow.gapRun := s.flow.gapRun.bind fun n => if s.gapRunLength ≤ n + 1 then none else some (n + 1)
          tracking.mergeBound := s.tracking.mergeBound.map (fun m => { m with length := m.length + 1 })
          tracking.offRun := if on then 0 else sat16 (s.tracking.offRun + 1) }
        (walked on s) := by
  have whole := (walkStep_walked on (moved on s)).1
  rw [moved_eq] at whole
  unfold walked
  rw [moved_eq]
  exact whole

theorem walked_zone (on : Bool) (s : State) : SameUnits (s.tracking.zone.map moveRecord) (walked on s).tracking.zone := by
  have same := (walkStep_walked on (moved on s)).2
  have zone : (moved on s).tracking.zone = s.tracking.zone.map moveRecord := by rw [moved_eq]
  exact (congrArg (fun z => SameUnits z (walked on s).tracking.zone) zone).mp same

/-! ### The walk's frames -/

theorem walking_moved {on : Bool} {s : State} (h : s.mode = .walking) : (moved on s).mode = .walking := by
  rw [moved_eq]
  exact h

theorem moved_link (on : Bool) (s : State) : (moved on s).link = s.link := by rw [moved_eq]

theorem moved_peer (on : Bool) (s : State) : (moved on s).peer = s.peer := by rw [moved_eq]

theorem setNeighbours_upstream_adds (up dist : Nat) (s : State) :
    Adds true 0 s (setNeighbours ⟨up, s.downstream, dist⟩ s) := by
  have same : (⟨up, s.downstream, dist⟩ : Neighbours).downstream = s.peer.neighbours.downstream := rfl
  have written : Adds true 0 s { s with peer.neighbours := ⟨up, s.downstream, dist⟩ } := .of_link rfl id
  unfold setNeighbours
  dsimp only
  rw [if_pos same]
  by_cases upstream : up = s.peer.neighbours.upstream
  · rw [if_pos upstream, if_pos ⟨upstream, same⟩]
    exact written
  · rw [if_neg upstream, if_neg fun both => upstream both.1]
    exact (written.trans (queueStatus_adds true _)).trans (queueHold_adds _)

theorem edgeOrder_adds (w : Walk) (s : State) : Adds true 1 s (edgeOrder w s) := by
  unfold edgeOrder
  split
  · exact queueEvent_adds true _ _ _ _
  split
  · exact queueEvent_adds true _ _ _ _
  · exact (Adds.refl s).mono (by omega)

theorem queueWalkSeen_adds (up dist : Nat) (s : State) : Adds true 1 s (queueWalkSeen up dist s) :=
  queueFrame_adds true s rfl

/-- An edge queues a STATUS, a HOLD, a WALK_SEEN and an EVENT at most. -/
theorem readEdge_adds (w : Walk) (s : State) : Adds true 2 s (readEdge w s) := by
  have written : Adds true 0 s { s with peer.walk := some { w with edgeSeen := true, edgeAdvance := 0 } } := .of_link rfl id
  unfold readEdge
  dsimp only
  split
  · exact (written.trans (queueWalkSeen_adds _ _ _)).mono (by omega)
  · exact ((written.trans (setNeighbours_upstream_adds _ _ _)).trans (queueWalkSeen_adds _ _ _)).trans (edgeOrder_adds _ _)

/-- A walk queues one frame at most at a count without the edge. -/
theorem queueWalkPass_adds (s : State) : Adds true 1 s (queueWalkPass s) := by
  unfold queueWalkPass
  split
  · next w _ =>
    split
    · have written : Adds true 0 s { s with peer.walk := some { w with passSent := true } } := .of_link rfl id
      exact written.trans (queueFrame_adds true (k := 1) _ rfl)
    · exact (Adds.refl s).mono (by omega)
  · exact (Adds.refl s).mono (by omega)

theorem walkStep_adds (on : Bool) (s : State) :
    Adds true (if s.mode = .walking then if on then 2 else 1 else 0) s (walkStep on s) := by
  unfold walkStep
  cases walk : s.peer.walk with
  | none => exact (Adds.refl s).mono (Nat.zero_le _)
  | some w =>
    dsimp only
    by_cases walking : s.mode = .walking
    · rw [if_pos walking, if_neg (fun other : s.mode ≠ .walking => other walking)]
      by_cases edge : walkEdge on w = true
      · have sensor : on = true := by
          unfold walkEdge at edge
          simp only [Bool.and_eq_true] at edge
          exact edge.1.1
        rw [if_pos edge, if_pos sensor]
        exact readEdge_adds w s
      · rw [if_neg edge]
        have written : Adds true 0 s { s with peer.walk := some (walkAdvance on w) } := .of_link rfl id
        exact (written.trans (queueWalkPass_adds _)).mono (by split <;> omega)
    · rw [if_neg walking, if_pos walking]
      exact Adds.refl s

theorem walked_adds (on : Bool) (s : State) :
    Adds true (if s.mode = .walking then if on then 2 else 1 else 0) s (walked on s) := by
  have moves : Adds true 0 s (moved on s) := .of_link (moved_link on s) (by rw [moved_eq]; exact id)
  have mode : (moved on s).mode = s.mode := by rw [moved_eq]
  have walk := walkStep_adds on (moved on s)
  rw [mode] at walk
  exact (moves.trans walk).mono (by omega)

/-! ### A start on a clear belt -/

/-- The changes of the queue's counts, where the queue holds a record: no start test and no drain test follow. -/
theorem queueChanged_occupied {s : State} (c : Nat × Nat) (h : s.tracking.zone ≠ []) :
    zoneChanged c s = reportCounts c (evaluateDrive (evaluateLevel s)) := by
  rw [zoneChanged_occupied c h]
  have blocks : BlocksResponded s (reportCounts c (evaluateDrive (evaluateLevel s))) :=
    blocksResponded_trans (evaluateLevel_blocks s) (blocksResponded_trans (evaluateDrive_blocks _)
      (framesQueued_blocks (reportCounts_framesQueued c _)))
  have occupied : (reportCounts c (evaluateDrive (evaluateLevel s))).tracking.zone.isEmpty = false :=
    Bool.eq_false_iff.2 fun empty => h ((sameUnits_nil blocks.2.1).2 (List.isEmpty_iff.1 empty))
  unfold queueChanged testEmptied
  rw [occupied]
  rfl

/-- In WALKING the drive asks for nothing. -/
theorem evaluateDrive_adds_walking {s : State} (h : s.mode = .walking) : Adds true 0 s (evaluateDrive s) :=
  evaluateDrive_adds_none true s (.inl ⟨by rw [h]; nofun, by rw [h]; nofun⟩)

theorem counts_adds_walking {s : State} (c : Nat × Nat) (h : s.mode = .walking) :
    Adds true 0 s (reportCounts c (evaluateDrive (evaluateLevel s))) :=
  ((evaluateLevel_adds s).trans (evaluateDrive_adds_walking ((blocksResponded_mode (evaluateLevel_blocks s)).trans h))).trans
    (reportCounts_adds true _ c)

theorem examineZone_walking {s : State} (h : s.mode = .walking) : examineZone s = evaluateDrive s := by
  unfold examineZone
  rw [if_neg (by simp [h])]

theorem reportOrphan_adds (t : Tag) (s : State) : Adds true 1 s (reportOrphan t s) := by
  unfold reportOrphan
  split
  · exact (Adds.refl s).mono (by omega)
  · have counted : Adds true 0 s (count .orphans s) := .of_link rfl id
    exact (counted.trans (queueEvent_adds true _ _ _ _)).mono (by omega)

/-- What a start does to a zone with room for its record (R73). -/
theorem startSegment_room {s : State} (h : s.tracking.zone.length < 24) :
    startSegment s
      = zoneChanged s.counts (examineZone (insertRecord
          (formedRecord (issueTag s).1 (if s.isHead then s.tracking.currentLot else 0) (if s.isHead then 0 else 7))
          (reportOrphan (issueTag s).1 (issueTag s).2))) := if_pos h

theorem reportOrphan_mode (t : Tag) (s : State) : (reportOrphan t s).mode = s.mode := by
  unfold reportOrphan
  split
  · rfl
  · exact (framesQueued_mode (queueEvent_framesQueued .orphan _ _ (count .orphans s))).trans rfl

theorem insertByHead_ne_nil (r : UnitRecord) (z : List UnitRecord) : insertByHead r z ≠ [] := by
  cases z with
  | nil => exact List.cons_ne_nil _ _
  | cons x z =>
    unfold insertByHead
    split <;> exact List.cons_ne_nil _ _

/-- In WALKING a start queues its orphan's EVENT, and a STATUS and a HOLD at most. -/
theorem startSegment_adds_walking {s : State} (walking : s.mode = .walking) (h : s.tracking.zone.length < 24) :
    Adds true 1 s (startSegment s) := by
  rw [startSegment_room h]
  have issued : Adds true 0 s (issueTag s).2 := .of_link rfl id
  have reported := reportOrphan_adds (issueTag s).1 (issueTag s).2
  have mode : (reportOrphan (issueTag s).1 (issueTag s).2).mode = .walking := (reportOrphan_mode _ _).trans walking
  generalize (reportOrphan (issueTag s).1 (issueTag s).2) = u at reported mode
  generalize formedRecord (issueTag s).1 _ _ = r
  have inserted : Adds true 0 u (insertRecord r u) := .of_link rfl id
  have mode' : (insertRecord r u).mode = .walking := mode
  rw [examineZone_walking mode']
  have examined := evaluateDrive_adds_walking mode'
  have blocks := evaluateDrive_blocks (insertRecord r u)
  have mode'' := (blocksResponded_mode blocks).trans mode'
  have occupied : (evaluateDrive (insertRecord r u)).tracking.zone ≠ [] := by
    rw [evaluateDrive_tracking]
    exact insertByHead_ne_nil r _
  rw [queueChanged_occupied _ occupied]
  exact (((issued.trans reported).trans inserted).trans examined).trans (counts_adds_walking _ mode'')

/-- In WALKING a start test on a clear belt queues no more than its orphan's EVENT, a STATUS and a HOLD. -/
theorem startTest_adds_walking (on : Bool) {s : State} (walking : s.mode = .walking) (h : s.tracking.zone.length < 24) :
    Adds true 1 s (startTest on s) := by
  unfold startTest
  split
  · exact startSegment_adds_walking walking h
  · exact (Adds.refl s).mono (by omega)

end Sys2Proof.Turns


/-! PROOFS. What an accepted forward count samples, and the walk's part in it (R55 to R59, R67, R68). -/

namespace Sys2Proof.Turns

open Sys2Proof Sys2Proof.Machine Sys2Proof.Safety Sys2Proof.Laws Sys2Proof.Room Sys2Proof.Fitting Sys2Proof.Counting
  Sys2Proof.Moves Sys2Proof.Zone

/-- The state that a count leaves, before the command's end. -/
def counted (on : Bool) (s : State) : State := beltAdvance on { s with encoder := encoderForward s.encoder }

theorem counted_turned (on : Bool) (s : State) : Turned (walked on s) (counted on s) := count_turned on s

theorem next_counted (on : Bool) {s : State} (profile : s.hasProfile = true) (loud : s.mode ≠ .quiet)
    (paid : s.tracking.reverseDebt = 0) : Next (.forwardCount on) s (settle (counted on s)) :=
  next_forwardCount on profile loud paid

/-- What a count leaves, but for what the blocks' turns and the walk may write. -/
theorem counted_eq (on : Bool) (s : State) :
    counted on s =
      withTurns
        { s with
          peer := { s.peer with walk := (walked on s).peer.walk, neighbours := (walked on s).peer.neighbours }
          encoder := encoderForward s.encoder
          channels := (stepBelt s).channels
          flow.gapRun := s.flow.gapRun.bind fun n => if s.gapRunLength ≤ n + 1 then none else some (n + 1)
          tracking.offRun := if on then 0 else sat16 (s.tracking.offRun + 1) }
        (counted on s) := by
  have turns := (counted_turned on s).1
  have moves := congrArg (withTurns · (counted on s)) (walked_eq on s)
  exact turns.trans moves

theorem counted_peer (on : Bool) (s : State) : (counted on s).peer = (walked on s).peer := by
  have e := congrArg (·.peer) (counted_turned on s).1
  exact e

/-- The walk after a count without the edge. -/
theorem walked_edgeless {on : Bool} {s : State} {w : Walk} (walking : s.mode = .walking) (walk : s.peer.walk = some w)
    (edgeless : walkEdge on w = false) :
    (walked on s).peer =
      { s.peer with
        walk := some
          { walkAdvance on w with
            passSent := w.passSent || ((walkAdvance on w).edgeSeen && decide (s.zoneLength ≤ (walkAdvance on w).edgeAdvance)) } } := by
  have peer := moved_peer on s
  have mode := walking_moved (on := on) walking
  have zone : (moved on s).zoneLength = s.zoneLength := by rw [moved_eq]; rfl
  unfold walked
  generalize moved on s = u at peer mode zone
  have step : walkStep on u = queueWalkPass { u with peer.walk := some (walkAdvance on w) } := by
    unfold walkStep
    rw [show u.peer.walk = some w by rw [peer]; exact walk]
    dsimp only
    rw [if_neg (fun other : u.mode ≠ .walking => other mode), if_neg (by rw [edgeless]; nofun)]
  have frames := walkPass_frames (s := { u with peer.walk := some (walkAdvance on w) }) mode rfl
  rw [step, ← zone, ← peer]
  have e := congrArg (·.peer) frames.1
  exact e

/-- The walk takes this sample as its edge. -/
theorem walked_edge {on : Bool} {s : State} {w : Walk} (walking : s.mode = .walking) (walk : s.peer.walk = some w)
    (edge : walkEdge on w = true) : walked on s = readEdge w (moved on s) := by
  have peer := moved_peer on s
  have mode := walking_moved (on := on) walking
  unfold walked
  generalize moved on s = u at peer mode
  unfold walkStep
  rw [show u.peer.walk = some w by rw [peer]; exact walk]
  dsimp only
  rw [if_neg (fun other : u.mode ≠ .walking => other mode), if_pos edge]

theorem readEdge_peer (w : Walk) (s : State) :
    (readEdge w s).peer =
      { s.peer with
        walk := some { w with edgeSeen := true, edgeAdvance := 0 }
        neighbours := if s.isHead then s.peer.neighbours else ⟨w.passOrigin, s.downstream, edgeDistance w⟩ } := by
  have e := congrArg (·.peer) (readEdge_frames w s).1
  exact e

/-! ### The frames of an edge -/

theorem eventOf_station {s t : State} (h : t.station = s.station) (n d g : Nat) : eventOf t n d g = eventOf s n d g := by
  unfold eventOf
  rw [h]

/-- The edge of a head's walk (R57). -/
theorem readEdge_head {w : Walk} {s : State} {k : Nat} (head : s.isHead = true) (room : Spare true (k + 2) s) :
    Carries ⟨.walkSeen, s.station.number, 0, [0#8, 0#8, 0#8]⟩ (readEdge w s) := by
  unfold readEdge
  dsimp only
  rw [if_pos (show State.isHead _ = true from head)]
  exact (queueFrame_carries (s := { s with peer.walk := some { w with edgeSeen := true, edgeAdvance := 0 } })
    room.awake room.loud (by have := room.length; show s.link.txq.length < 8; omega)).1

/-- The frames of an edge after the neighbour record's (R58). -/
theorem edgeFrames_carried {w : Walk} {u : State} {k : Nat} (room : Spare true (k + 2) u) :
    Carries ⟨.walkSeen, u.station.number, 0, byteOf w.passOrigin :: be16 (edgeDistance w)⟩
        (edgeOrder w (queueWalkSeen w.passOrigin (edgeDistance w) u))
      ∧ (w.passOrigin = 0 →
          Carries (eventOf u 5 256 0) (edgeOrder w (queueWalkSeen w.passOrigin (edgeDistance w) u)))
      ∧ (w.passOrigin ≠ 0 → w.passAdvance = 0 →
          Carries (eventOf u 5 (512 + w.passOrigin) w.passOrigin)
            (edgeOrder w (queueWalkSeen w.passOrigin (edgeDistance w) u))) := by
  have seen : Carries ⟨.walkSeen, u.station.number, 0, byteOf w.passOrigin :: be16 (edgeDistance w)⟩
      (queueWalkSeen w.passOrigin (edgeDistance w) u) :=
    (queueFrame_carries room.awake room.loud (by have := room.length; omega)).1
  have spare := (queueWalkSeen_adds w.passOrigin (edgeDistance w) u (k + 1) room).1
  have same : (queueWalkSeen w.passOrigin (edgeDistance w) u).station = u.station :=
    blocksResponded_station (framesQueued_blocks (queueFrame_framesQueued _ _))
  have event := fun n d g => eventOf_station same n d g
  generalize queueWalkSeen w.passOrigin (edgeDistance w) u = v at seen spare event ⊢
  refine ⟨((edgeOrder_adds w v) k spare).2 _ rfl seen, fun unheard => ?_, fun heard none => ?_⟩
  · unfold edgeOrder
    rw [if_pos unheard, ← event]
    exact queueEvent_carries true (n := .walkOrder) spare
  · unfold edgeOrder
    rw [if_neg heard, if_pos none, ← event]
    exact queueEvent_carries true (n := .walkOrder) spare

/-- The walk of `s` notes its edge (R57). -/
def edgeNoted (w : Walk) (s : State) : State :=
  { s with peer.walk := some { w with edgeSeen := true, edgeAdvance := 0 } }

/-- The edge of another station's walk: a WALK_SEEN, and an EVENT WALK_ORDER where no full pass was heard (R58). -/
theorem readEdge_follower {w : Walk} {s : State} {k : Nat} (follower : s.isHead = false) (room : Spare true (k + 2) s) :
    Carries ⟨.walkSeen, s.station.number, 0, byteOf w.passOrigin :: be16 (edgeDistance w)⟩ (readEdge w s)
      ∧ (w.passOrigin = 0 → Carries (eventOf s 5 256 0) (readEdge w s))
      ∧ (w.passOrigin ≠ 0 → w.passAdvance = 0 →
          Carries (eventOf s 5 (512 + w.passOrigin) w.passOrigin) (readEdge w s)) := by
  have written : Spare true (k + 2) (edgeNoted w s) := ⟨room.awake, room.loud, room.room⟩
  have recorded := (setNeighbours_upstream_adds w.passOrigin (edgeDistance w) (edgeNoted w s) (k + 2) written).1
  have station : (setNeighbours ⟨w.passOrigin, (edgeNoted w s).downstream, edgeDistance w⟩ (edgeNoted w s)).station = s.station := by
    have e := congrArg (·.station) (setNeighbours_upstream w.passOrigin (edgeDistance w) (edgeNoted w s)).1
    exact e
  have step : readEdge w s = edgeOrder w (queueWalkSeen w.passOrigin (edgeDistance w)
      (setNeighbours ⟨w.passOrigin, (edgeNoted w s).downstream, edgeDistance w⟩ (edgeNoted w s))) :=
    if_neg (by show ¬ s.isHead = true; rw [follower]; nofun)
  have carried := edgeFrames_carried (w := w) recorded
  rw [station, eventOf_station station, eventOf_station station] at carried
  rw [step]
  exact carried

/-- On a clear belt in WALKING, a frame that the walk has queued is carried at the count's end. -/
theorem counted_carries {on : Bool} {s : State} {f : Frame} (walking : (walked on s).mode = .walking)
    (zone : (walked on s).tracking.zone = []) (alone : (walked on s).arrivals = [])
    (free : (walked on s).tracking.mergeBound = none) (room : Spare true 1 (walked on s)) (kind : mergingKind f.kind = false)
    (h : Carries f (walked on s)) : Carries f (settle (counted on s)) := by
  obtain ⟨turns, short⟩ := turns_clear zone alone free
  have eq : counted on s = startTest on (evaluateDrive (walked on s)) := by
    unfold counted
    rw [count_eq, turns, short]
    rfl
  have driven := evaluateDrive_adds_walking walking
  have mode := (blocksResponded_mode (evaluateDrive_blocks (walked on s))).trans walking
  have few : (evaluateDrive (walked on s)).tracking.zone.length < 24 := by
    rw [evaluateDrive_tracking, zone]
    decide
  rw [eq]
  exact carries_settle (((driven.trans (startTest_adds_walking on mode few)) 0 room).2 f kind h)

/-- Settles O36: the sample and what stands, from all that a count may write; the walk, from its step, after which the
peer view stands; and the edge's frames, which the rest of a count on a clear belt leaves room for. -/
theorem countSamplesEntry : Obligations.CountSamplesEntry := by
  unfold Obligations.CountSamplesEntry
  refine ⟨fun s on profile loud paid => ?samples, fun s on w profile walking paid walk => ?walks⟩
  case samples =>
    refine ⟨_, next_counted on profile loud paid, ?_⟩
    have whole := counted_eq on s
    have line : LineKept s (settle (counted on s)) :=
      lineKept_trans (lineKept_refl (by have e := congrArg (·.link.line) whole; exact e)) (settle_blocks _).2.2
    generalize counted on s = t at whole line
    rw [whole] at line ⊢
    exact ⟨rfl, rfl, paid, rfl, rfl, settle_rxq _, line, rfl, rfl, rfl, rfl, rfl,
      rfl, rfl, rfl, rfl, rfl⟩
  case walks =>
    have loud : s.mode ≠ .quiet := by rw [walking]; nofun
    refine ⟨_, next_counted on profile loud paid, fun quiet => ?_, fun sensor off unseen => ?_⟩
    · have edgeless : walkEdge on w = false := by
        unfold walkEdge
        rcases quiet with h | h | h <;> simp [h]
      rw [settle_peer, counted_peer, walked_edgeless walking walk edgeless]
      exact ⟨rfl, _, rfl, rfl⟩
    · have edge : walkEdge on w = true := by
        unfold walkEdge
        rw [sensor, off, unseen]
        rfl
      have step := walked_edge walking walk edge
      have still := moved_eq on s
      rw [settle_peer, counted_peer, step, readEdge_peer]
      refine ⟨rfl, ?_, fun zone alone free quiet few => ?_⟩
      · rw [still]
        rfl
      have frames := walkStep_walked on (moved on s)
      have stays : (walked on s).mode = s.mode ∧ (walked on s).arrivals = s.arrivals
          ∧ (walked on s).tracking.mergeBound = s.tracking.mergeBound.map (fun m => { m with length := m.length + 1 }) := by
        have whole := walked_eq on s
        generalize walked on s = v at whole
        rw [whole]
        exact ⟨rfl, rfl, rfl⟩
      have empty : (walked on s).tracking.zone = [] :=
        (sameUnits_nil (walked_zone on s)).1 (by rw [zone]; rfl)
      have spare : Spare true 3 (moved on s) := by
        refine spare_of_length (by rw [walking_moved walking]; nofun) (by rw [moved_link]; exact quiet) ?_
        rw [moved_link]
        simp only [Bool.toNat_true]
        omega
      have room := (readEdge_adds w (moved on s) 1 spare).1
      rw [← step] at room
      have carried := fun f kind c => counted_carries (f := f) (stays.1.trans walking) empty (stays.2.1.trans alone)
        (by rw [stays.2.2, free]; rfl) room kind c
      have station : (moved on s).station = s.station := by rw [still]
      have head : (moved on s).isHead = s.isHead := by rw [still]; rfl
      refine ⟨fun isHead => ?_, fun follower => ?_⟩
      · refine carried _ rfl ?_
        rw [step, ← station]
        exact readEdge_head (k := 1) (head.trans isHead) spare
      · obtain ⟨seen, unheard, incomplete⟩ := readEdge_follower (w := w) (k := 1) (head.trans follower) spare
        rw [← step, station] at seen
        rw [← step, eventOf_station station] at unheard incomplete
        exact ⟨carried _ rfl seen, fun h => carried _ rfl (unheard h), fun h h' => carried _ rfl (incomplete h h')⟩

end Sys2Proof.Turns


/-! PROOFS. What the blocks' turns at a count read and leave: settings, windows, verdicts and responses. -/

namespace Sys2Proof.Turns

open Sys2Proof Sys2Proof.Machine Sys2Proof.Safety Sys2Proof.Laws Sys2Proof.Room Sys2Proof.Fitting Sys2Proof.Counting
  Sys2Proof.Moves Sys2Proof.Zone Sys2Proof.Postures

/-! ### Responses, with the handover unit's count -/

/-- From `s` to `t` blocks responded, and the handover unit may have counted an untaken pass. -/
def Tended (s t : State) : Prop := ∃ n, BlocksResponded { s with counters.untakenPass := n } t

theorem tended_of_blocks {s t : State} (h : BlocksResponded s t) : Tended s t := ⟨s.counters.untakenPass, h⟩

theorem tended_refl (s : State) : Tended s s := tended_of_blocks (blocksResponded_refl s)

theorem tended_trans {s t u : State} (h : Tended s t) (h' : Tended t u) : Tended s u := by
  obtain ⟨n, first⟩ := h
  obtain ⟨m, second⟩ := h'
  exact ⟨m, blocksResponded_trans (blocksResponded_setUntaken first m) second⟩

theorem examineZone_tended (s : State) : Tended s (examineZone s) := examineZone_blocks s

theorem Tended.station {s t : State} (h : Tended s t) : t.station = s.station := by
  obtain ⟨n, blocks⟩ := h
  have e := congrArg (·.station) blocks.1
  exact e

theorem Tended.mode {s t : State} (h : Tended s t) : t.mode = s.mode := by
  obtain ⟨n, blocks⟩ := h
  have e := congrArg (·.mode) blocks.1
  exact e

theorem Tended.zone {s t : State} (h : Tended s t) : SameUnits s.tracking.zone t.tracking.zone := by
  obtain ⟨n, blocks⟩ := h
  exact blocks.2.1

theorem Tended.arrivals {s t : State} (h : Tended s t) : t.arrivals = s.arrivals := by
  obtain ⟨n, blocks⟩ := h
  have e := congrArg (·.arrivals) blocks.1
  exact e

/-- What tending leaves of tracking, beside the handover states. -/
theorem Tended.tracking {s t : State} (h : Tended s t) : t.tracking = { s.tracking with zone := t.tracking.zone } := by
  obtain ⟨n, blocks⟩ := h
  have e := congrArg (·.tracking) blocks.1
  exact e

theorem Tended.loadInput {s t : State} (h : Tended s t) : t.flow.loadInput = s.flow.loadInput := by
  obtain ⟨n, blocks⟩ := h
  have e := congrArg (·.flow.loadInput) blocks.1
  exact e

theorem Tended.packing {s t : State} (h : Tended s t) : t.packing = { s.packing with door := t.packing.door } := by
  obtain ⟨n, blocks⟩ := h
  have e := congrArg (·.packing) blocks.1
  exact e

theorem Tended.neighbours {s t : State} (h : Tended s t) : t.peer.neighbours = s.peer.neighbours := by
  obtain ⟨n, blocks⟩ := h
  have e := congrArg (·.peer.neighbours) blocks.1
  exact e

/-- What tending leaves of the counters. -/
theorem Tended.counters {s t : State} (h : Tended s t) :
    t.counters =
      { s.counters with
        txDrop := t.counters.txDrop
        startDeferred := t.counters.startDeferred
        untakenPass := t.counters.untakenPass } := by
  obtain ⟨n, blocks⟩ := h
  have e := congrArg (·.counters) blocks.1
  have untaken := congrArg (·.counters.untakenPass) blocks.1
  have same : t.counters.untakenPass = n := untaken
  rw [same]
  exact e

/-! ### Settings stand -/

section Settings

variable {s t : State} (h : t.station = s.station)

include h

theorem verdictDue_station (r : UnitRecord) : verdictDue t r = verdictDue s r := by
  have e := congrArg (fun station => verdictDue { s with station := station } r) h
  exact e

theorem judgedRecord_station (r : UnitRecord) : judgedRecord t r = judgedRecord s r := by
  have e := congrArg (fun station => judgedRecord { s with station := station } r) h
  exact e

theorem judgedZone_station (z : List UnitRecord) : judgedZone t z = judgedZone s z := by
  have e := congrArg (fun station => judgedZone { s with station := station } z) h
  exact e

theorem packingDue_station (r : UnitRecord) : packingDue t r = packingDue s r := by
  have e := congrArg (fun station => packingDue { s with station := station } r) h
  exact e

theorem zoneLength_station : t.zoneLength = s.zoneLength := by
  have e := congrArg (fun station => State.zoneLength { s with station := station }) h
  exact e

theorem hasRole_station (r : Role) : t.hasRole r = s.hasRole r := by
  have e := congrArg (fun station => State.hasRole { s with station := station } r) h
  exact e

/-- A removing window is one of the settings and of the channel's run state. -/
theorem removingWindow_station {ch : Nat} (hc : ch < 6)
    (run : (s.channelRecord ch).mode = .segmentWindow → t.channels.chans[ch].run = s.channels.chans[ch].run) :
    removingWindow t ch = removingWindow s ch := by
  have running : ∀ u : State, (u.channels.chans.toList[ch]?).any (fun c => decide (c.run = .running))
      = decide (u.channels.chans[ch].run = .running) := by
    intro u
    have get : u.channels.chans.toList[ch]? = some u.channels.chans[ch] := by
      rw [List.getElem?_eq_getElem (by simpa using hc)]
      rfl
    rw [get]
    rfl
  unfold removingWindow
  rw [channelRecord_station h, running, running]
  dsimp only
  by_cases mode : (s.channelRecord ch).mode = .segmentWindow
  · rw [run mode]
  · simp [mode]

end Settings

theorem removingWindow_turned {s t : State} (h : Turned s t) {ch : Nat} (hc : ch < 6) :
    removingWindow t ch = removingWindow s ch :=
  removingWindow_station h.2.1 hc fun mode => by rw [h.2.2.2.2.2 ch hc (by rw [mode]; nofun)]

theorem walked_station (on : Bool) (s : State) : (walked on s).station = s.station := by
  have e := congrArg (·.station) (walked_eq on s)
  exact e

theorem walked_mode (on : Bool) (s : State) : (walked on s).mode = s.mode := by
  have e := congrArg (·.mode) (walked_eq on s)
  exact e

theorem walked_arrivals (on : Bool) (s : State) : (walked on s).arrivals = s.arrivals := by
  have e := congrArg (·.arrivals) (walked_eq on s)
  exact e

theorem walked_packing (on : Bool) (s : State) : (walked on s).packing = s.packing := by
  have e := congrArg (·.packing) (walked_eq on s)
  exact e

theorem walked_mergeBound (on : Bool) (s : State) :
    (walked on s).tracking.mergeBound = s.tracking.mergeBound.map (fun m => { m with length := m.length + 1 }) := by
  have e := congrArg (·.tracking.mergeBound) (walked_eq on s)
  exact e

theorem walked_offRun (on : Bool) (s : State) :
    (walked on s).tracking.offRun = if on then 0 else sat16 (s.tracking.offRun + 1) := by
  have e := congrArg (·.tracking.offRun) (walked_eq on s)
  exact e

theorem walked_flow (on : Bool) (s : State) :
    (walked on s).flow =
      { s.flow with gapRun := s.flow.gapRun.bind fun n => if s.gapRunLength ≤ n + 1 then none else some (n + 1) } := by
  have e := congrArg (·.flow) (walked_eq on s)
  exact e

theorem walked_counters (on : Bool) (s : State) :
    (walked on s).counters = { s.counters with txDrop := (walked on s).counters.txDrop } := by
  have e := congrArg (·.counters) (walked_eq on s)
  exact e

theorem removingWindow_walked (on : Bool) (s : State) {ch : Nat} (hc : ch < 6) :
    removingWindow (walked on s) ch = removingWindow s ch := by
  refine removingWindow_station (walked_station on s) hc fun _ => ?_
  have channels := congrArg (·.channels) (walked_eq on s)
  have same : (walked on s).channels = (stepBelt s).channels := channels
  rw [same]
  obtain ⟨-, -, still, moves⟩ := Clocks.stepBelt_base s
  cases belt : s.channels.belt with
  | none => rw [still belt]
  | some v =>
    rw [(moves v belt).2 ch hc]
    split
    · exact Clocks.channelTakes_run _ _ _ _
    · rfl

/-! ### Zones that differ in handover states alone -/

/-- What does not depend on handover states holds of every record of one zone as of the other. -/
theorem sameUnits_forall {P : UnitRecord → Prop} (blind : ∀ x y, withoutHandover y = withoutHandover x → P x → P y)
    {z z' : List UnitRecord} (h : SameUnits z z') (all : ∀ r ∈ z, P r) : ∀ r ∈ z', P r := by
  intro r hr
  have mem : withoutHandover r ∈ z.map withoutHandover := h ▸ List.mem_map_of_mem hr
  obtain ⟨x, hx, same⟩ := List.mem_map.1 mem
  exact blind x r same.symm (all x hx)

theorem withoutHandover_fields {x y : UnitRecord} (h : withoutHandover y = withoutHandover x) :
    y.tag = x.tag ∧ y.kind = x.kind ∧ y.head = x.head ∧ y.tail = x.tail ∧ y.forming = x.forming := by
  have tail := congrArg UnitRecord.tail h
  exact ⟨congrArg (·.tag) h, congrArg (·.kind) h, congrArg (·.head) h, tail, congrArg (·.forming) h⟩

theorem withoutHandover_verdictDue {x y : UnitRecord} (s : State) (h : withoutHandover y = withoutHandover x) :
    verdictDue s y = verdictDue s x := by
  have e := congrArg (verdictDue s) h
  exact e

theorem withoutHandover_packingDue {x y : UnitRecord} (s : State) (h : withoutHandover y = withoutHandover x) :
    packingDue s y = packingDue s x := by
  have e := congrArg (packingDue s) h
  exact e

theorem sameUnits_judgedZone (s : State) {z z' : List UnitRecord} (h : SameUnits z z') :
    SameUnits (judgedZone s z) (judgedZone s z') := by
  have judged : ∀ r, withoutHandover (if verdictDue s r then judgedRecord s r else r)
      = if verdictDue s (withoutHandover r) then judgedRecord s (withoutHandover r) else withoutHandover r := by
    intro r
    have due : verdictDue s (withoutHandover r) = verdictDue s r := rfl
    rw [due]
    split <;> rfl
  have through : ∀ z : List UnitRecord, (judgedZone s z).map withoutHandover
      = (z.map withoutHandover).map fun r => if verdictDue s r then judgedRecord s r else r := by
    intro z
    unfold judgedZone
    rw [List.map_map, List.map_map]
    exact List.map_congr_left fun r _ => judged r
  unfold SameUnits
  rw [through, through]
  exact congrArg _ h

theorem sameUnits_map_head {z z' : List UnitRecord} (h : SameUnits z z') :
    SameUnits (z.map advanced) (z'.map advanced) := by
  have through : ∀ z : List UnitRecord, (z.map advanced).map withoutHandover = (z.map withoutHandover).map advanced := by
    intro z
    rw [List.map_map, List.map_map]
    rfl
  unfold SameUnits
  rw [through, through]
  exact congrArg _ h

/-- A judgement changes neither where a record is nor what it is. -/
theorem judgedRecord_place (s : State) (r : UnitRecord) :
    (judgedRecord s r).tail = r.tail ∧ packingDue s (judgedRecord s r) = packingDue s r
      ∧ (judgedRecord s r).forming = r.forming := ⟨rfl, rfl, rfl⟩

theorem judgedZone_forall {P : UnitRecord → Prop} (s : State) (blind : ∀ r, P r → P (judgedRecord s r))
    {z : List UnitRecord} (all : ∀ r ∈ z, P r) : ∀ r ∈ judgedZone s z, P r := by
  intro r hr
  obtain ⟨x, hx, rfl⟩ := List.mem_map.1 hr
  split
  · exact blind x (all x hx)
  · exact all x hx

/-- A closed record moves with its head alone (R67). -/
theorem moveRecord_closed {z : List UnitRecord} (h : ∀ r ∈ z, r.forming = false) :
    z.map moveRecord = z.map advanced :=
  List.map_congr_left fun r hr => by
    unfold moveRecord advanced
    rw [h r hr]
    rfl

/-! ### Verdicts -/

theorem framesQueued_verdicts (n : Nat) {s t : State} (h : FramesQueued s t) :
    FramesQueued { s with counters.verdictFail := n } { t with counters.verdictFail := n } := by
  refine ⟨?_, h.2⟩
  have e := congrArg (fun w : State => { w with counters.verdictFail := n }) h.1
  exact e

theorem reportVerdict_frames (n : Nat) (o : Option Nat) (s : State) (r : UnitRecord) :
    FramesQueued { s with counters.verdictFail := n } { reportVerdict o s r with counters.verdictFail := n } := by
  cases o with
  | none => exact framesQueued_refl _
  | some code =>
    have queued := framesQueued_verdicts n (queueEvent_framesQueued .verdict code r.tag.toNat (count .verdictFail s))
    exact queued

/-- The dose unit's turn: the judged zone, the counted failures, and the EVENTs (R121). -/
theorem judgeZone_frames (s : State) :
    ∃ n, FramesQueued { s with tracking.zone := judgedZone s s.tracking.zone, counters.verdictFail := n } (judgeZone s) := by
  have fold : ∀ (l : List UnitRecord) (u : State),
      ∃ n, FramesQueued { u with counters.verdictFail := n }
        (l.foldl (fun s1 r => reportVerdict (verdictOutcome s r) s1 r) u) := by
    intro l
    induction l with
    | nil => exact fun u => ⟨u.counters.verdictFail, framesQueued_refl u⟩
    | cons r l ih =>
      intro u
      obtain ⟨n, rest⟩ := ih (reportVerdict (verdictOutcome s r) u r)
      exact ⟨n, framesQueued_trans (reportVerdict_frames n _ u r) rest⟩
  exact fold _ _

end Sys2Proof.Turns


/-! PROOFS. The closes of a segment: by a gap or by its length, forming or merge-bound, as rows and at a count (R76, R77,
R81, R82). -/

namespace Sys2Proof.Turns

open Sys2Proof Sys2Proof.Machine Sys2Proof.Safety Sys2Proof.Laws Sys2Proof.Room Sys2Proof.Fitting Sys2Proof.Counting
  Sys2Proof.Moves Sys2Proof.Zone Sys2Proof.Postures

/-! ### The close of a forming segment -/

theorem gainLoad_eq (mass : Nat) (s : State) : gainLoad mass s = { s with flow.loadInput := loadGained s mass } := by
  unfold gainLoad loadGained
  split <;> rfl

/-- A close at a length that is not 0 changes the last record and the load input (R79, R138). -/
theorem closeForming_grown {enter : UnitRecord → State → State} {changed : Nat × Nat → State → State} {f : Nat → Nat}
    {s : State} {zone : List UnitRecord} {r : UnitRecord} (free : s.tracking.mergeBound = none)
    (hz : s.tracking.zone = zone ++ [r]) (forming : r.forming = true) (h : f r.head ≠ 0) :
    closeForming enter changed f s =
      { s with
        tracking.zone := zone ++ [closedAt s (f r.head) r]
        flow.loadInput := loadGained s (closedAt s (f r.head) r).mass } := by
  have last : s.tracking.zone.getLast? = some r := by rw [hz]; simp
  have replaced : ∀ x, replaceLast x s.tracking.zone = zone ++ [x] := fun x => by
    unfold replaceLast
    rw [hz, List.dropLast_concat]
  unfold closeForming
  rw [free, last]
  dsimp only
  rw [if_pos forming, if_neg h, gainLoad_eq, replaced]
  rfl

theorem formingLength_last {s : State} {zone : List UnitRecord} {r : UnitRecord} (free : s.tracking.mergeBound = none)
    (hz : s.tracking.zone = zone ++ [r]) (forming : r.forming = true) (closed : ∀ x ∈ zone, x.forming = false) :
    formingLength s = some r.head := by
  have before : zone.find? (·.forming) = none := List.find?_eq_none.2 fun x hx f => by
    rw [closed x hx] at f
    nomatch f
  unfold formingLength
  rw [free, hz]
  dsimp only
  rw [List.find?_append, before, Option.none_or, List.find?_cons_of_pos (by exact forming)]
  rfl

theorem formingLength_bound {s : State} {m : MergeBound} (h : s.tracking.mergeBound = some m) :
    formingLength s = some m.length := by
  unfold formingLength
  rw [h]

theorem gapDue_iff {s : State} {n : Nat} (h : formingLength s = some n) :
    gapDue s = true ↔ s.gapLength ≤ s.tracking.offRun := by
  unfold gapDue
  rw [h]
  simp

theorem lengthDue_iff {s : State} {n : Nat} (h : formingLength s = some n) :
    lengthDue s = true ↔ s.segmentMax ≤ n ∧ s.tracking.offRun < s.gapLength := by
  unfold lengthDue
  have gap := gapDue_iff h
  cases due : gapDue s with
  | true =>
    have := gap.1 due
    simp
    omega
  | false =>
    have short : ¬ s.gapLength ≤ s.tracking.offRun := fun le => by
      rw [gap.2 le] at due
      nomatch due
    rw [h]
    simp
    omega

/-- GAP_CLOSE, where a gap ends the forming segment. -/
theorem next_gapClose {s : State} (profile : s.hasProfile = true) (loud : s.mode ≠ .quiet) (due : gapDue s = true) :
    Next .gapClose s (settle (closeByGap enterRecord s)) := by
  show execGapClose s = done _
  have acts : (s.acts && gapDue s) = true :=
    Bool.and_eq_true_iff.2 ⟨Bool.and_eq_true_iff.2 ⟨profile, decide_eq_true loud⟩, due⟩
  exact if_pos acts

/-- LENGTH_CLOSE, where the length ends the forming segment. -/
theorem next_lengthClose {s : State} (profile : s.hasProfile = true) (loud : s.mode ≠ .quiet) (due : lengthDue s = true) :
    Next .lengthClose s (settle (closeByLength enterRecord s)) := by
  show execLengthClose s = done _
  have acts : (s.acts && lengthDue s) = true :=
    Bool.and_eq_true_iff.2 ⟨Bool.and_eq_true_iff.2 ⟨profile, decide_eq_true loud⟩, due⟩
  exact if_pos acts

/-- The close of a count, by its cause and length: a gap, which leaves at least one count, or SEGMENT_MAX. -/
theorem closeDue_cases {s : State} {n length : Nat} (forming : formingLength s = some n)
    (cause : (s.gapLength ≤ s.tracking.offRun ∧ length = max 1 (n - s.gapLength))
      ∨ (s.tracking.offRun < s.gapLength ∧ s.segmentMax ≤ n ∧ 0 < s.segmentMax ∧ length = s.segmentMax)) :
    ∃ f : Nat → Nat, closeDue s = closeForming enterInCount zoneChanged f s ∧ f n = length ∧ length ≠ 0 := by
  unfold closeDue
  rcases cause with ⟨gap, rfl⟩ | ⟨short, reached, positive, rfl⟩
  · rw [if_pos ((gapDue_iff forming).2 gap)]
    exact ⟨_, rfl, rfl, by omega⟩
  · have unended : ¬ gapDue s = true := fun due => by
      have := (gapDue_iff forming).1 due
      omega
    rw [if_neg unended, if_pos ((lengthDue_iff forming).2 ⟨reached, short⟩)]
    exact ⟨_, rfl, rfl, by omega⟩

/-! ### A count of which nothing leaves -/

/-- Where nothing is due to leave and no arrival is expected, the handover unit alone takes its turn after the verdicts. -/
theorem turns_still {s : State} (alone : s.arrivals = []) (windows : ∀ ch, ch < 6 → removingWindow s ch = false)
    (inside : ∀ u ∈ s.tracking.zone, u.tail < (s.zoneLength : Int) ∧ packingDue s u = false) :
    handoverTurn (removeAtZoneEnd (divertAndPack s)) = examineZone s := by
  rw [divertAndPack_still windows fun u hu => (inside u hu).2, removeAtZoneEnd_inside fun u hu => (inside u hu).1,
    handoverTurn_alone alone]

theorem startTest_off (s : State) : startTest false s = s := rfl

/-- A count of which nothing leaves, but for the verdicts and the close: `z` is the zone after the close. -/
theorem stages_still {on : Bool} {s : State} {z : List UnitRecord}
    (windows : ∀ ch, ch < 6 → removingWindow s ch = false)
    (judged : SameUnits (judgedZone s z) (closeAndJudge (walked on s)).tracking.zone)
    (closed : (closeAndJudge (walked on s)).arrivals = [])
    (inside : ∀ u ∈ judgedZone s z, u.tail < (s.zoneLength : Int) ∧ packingDue s u = false) :
    handoverTurn (removeAtZoneEnd (divertAndPack (closeAndJudge (walked on s))))
      = examineZone (closeAndJudge (walked on s)) := by
  have turns := closeAndJudge_turned (walked on s)
  have station : (closeAndJudge (walked on s)).station = s.station := turns.2.1.trans (walked_station on s)
  have still : ∀ ch, ch < 6 → removingWindow (closeAndJudge (walked on s)) ch = false := fun ch hc => by
    rw [removingWindow_turned turns hc, removingWindow_walked on s hc]
    exact windows ch hc
  have within : ∀ u ∈ (closeAndJudge (walked on s)).tracking.zone,
      u.tail < ((closeAndJudge (walked on s)).zoneLength : Int) ∧ packingDue (closeAndJudge (walked on s)) u = false := by
    rw [zoneLength_station station]
    intro u hu
    rw [packingDue_station station]
    refine sameUnits_forall (P := fun u => u.tail < (s.zoneLength : Int) ∧ packingDue s u = false)
      (fun x y h both => ?_) judged inside u hu
    rw [(withoutHandover_fields h).2.2.2.1, withoutHandover_packingDue s h]
    exact both
  exact turns_still closed still within

/-- Such a count, where it starts no segment. -/
theorem counted_still {on : Bool} {s : State} {z : List UnitRecord}
    (windows : ∀ ch, ch < 6 → removingWindow s ch = false)
    (judged : SameUnits (judgedZone s z) (closeAndJudge (walked on s)).tracking.zone)
    (closed : (closeAndJudge (walked on s)).arrivals = [])
    (inside : ∀ u ∈ judgedZone s z, u.tail < (s.zoneLength : Int) ∧ packingDue s u = false)
    (starts : on = false ∨ lengthDue (walked on s) = true) :
    Tended (closeAndJudge (walked on s)) (counted on s) := by
  have eq : counted on s = examineZone (closeAndJudge (walked on s)) := by
    unfold counted
    rw [count_eq, stages_still windows judged closed inside]
    rcases starts with off | due
    · rw [off, startTest_off]
      exact ite_self _
    · rw [due]
      rfl
  rw [eq]
  exact examineZone_tended _

/-- The verdicts of a count after a close, and the examination that an insertion brings. -/
theorem closeAndJudge_tended (s : State) :
    ∃ n, Tended { closeDue s with tracking.zone := judgedZone s (closeDue s).tracking.zone, counters.verdictFail := n }
      (closeAndJudge s) := by
  obtain ⟨n, frames⟩ := judgeZone_frames (closeDue s)
  rw [judgedZone_station (closeDue_turned s).2.1] at frames
  refine ⟨n, ?_⟩
  unfold closeAndJudge
  dsimp only
  split
  · exact tended_trans (tended_of_blocks (framesQueued_blocks frames)) (examineZone_tended _)
  · exact tended_of_blocks (framesQueued_blocks frames)

/-- What the close and the verdicts of a count leave, by what the close leaves. -/
theorem closeAndJudge_leaves {s : State} {z : List UnitRecord} (zone : SameUnits z (closeDue s).tracking.zone) :
    SameUnits (judgedZone s z) (closeAndJudge s).tracking.zone
      ∧ (closeAndJudge s).arrivals = (closeDue s).arrivals
      ∧ (closeAndJudge s).tracking.mergeBound = (closeDue s).tracking.mergeBound
      ∧ (closeAndJudge s).flow.loadInput = (closeDue s).flow.loadInput
      ∧ (closeAndJudge s).counters.merged = (closeDue s).counters.merged := by
  obtain ⟨n, tended⟩ := closeAndJudge_tended s
  have merged := congrArg (·.merged) tended.counters
  have bound := congrArg (·.mergeBound) tended.tracking
  exact ⟨sameUnits_trans (sameUnits_judgedZone s zone) tended.zone, tended.arrivals, bound, tended.loadInput, merged⟩

/-- A count that closes a segment and of which nothing leaves. -/
theorem counted_closes {on : Bool} {s : State} {z : List UnitRecord}
    (windows : ∀ ch, ch < 6 → removingWindow s ch = false)
    (zone : SameUnits z (closeDue (walked on s)).tracking.zone) (closed : (closeDue (walked on s)).arrivals = [])
    (inside : ∀ u ∈ judgedZone s z, u.tail < (s.zoneLength : Int) ∧ packingDue s u = false)
    (starts : on = false ∨ lengthDue (walked on s) = true) :
    SameUnits (judgedZone s z) (counted on s).tracking.zone
      ∧ (counted on s).tracking.mergeBound = (closeDue (walked on s)).tracking.mergeBound
      ∧ (counted on s).flow.loadInput = (closeDue (walked on s)).flow.loadInput
      ∧ (counted on s).counters.merged = (closeDue (walked on s)).counters.merged := by
  obtain ⟨judged, expected, bound, load, merged⟩ := closeAndJudge_leaves zone
  rw [judgedZone_station (walked_station on s)] at judged
  have tended := counted_still windows judged (expected.trans closed) inside starts
  have bound' := congrArg (·.mergeBound) tended.tracking
  have merged' := congrArg (·.merged) tended.counters
  exact ⟨sameUnits_trans judged tended.zone, bound'.trans bound, tended.loadInput.trans load, merged'.trans merged⟩

end Sys2Proof.Turns


/-! PROOFS. A merge-bound segment through a count that does not end it (R81): outside DRAINING no turn ends formation. -/

namespace Sys2Proof.Turns

open Sys2Proof Sys2Proof.Machine Sys2Proof.Safety Sys2Proof.Laws Sys2Proof.Room Sys2Proof.Fitting Sys2Proof.Counting
  Sys2Proof.Moves Sys2Proof.Zone Sys2Proof.Postures

/-- From `s`, if it is not DRAINING, to `t` no formation ended and no segment started. -/
def Unended (s t : State) : Prop :=
  s.mode ≠ .draining →
    t.mode = s.mode ∧ t.tracking.mergeBound = s.tracking.mergeBound ∧ t.arrivals = s.arrivals
      ∧ t.counters.orphans = s.counters.orphans

theorem unended_refl (s : State) : Unended s s := fun _ => ⟨rfl, rfl, rfl, rfl⟩

theorem unended_trans {s t u : State} (h : Unended s t) (h' : Unended t u) : Unended s u := by
  intro moves
  obtain ⟨mode, bound, arrivals, orphans⟩ := h moves
  obtain ⟨mode', bound', arrivals', orphans'⟩ := h' (by rw [mode]; exact moves)
  exact ⟨mode'.trans mode, bound'.trans bound, arrivals'.trans arrivals, orphans'.trans orphans⟩

theorem unended_tended {s t : State} (h : Tended s t) : Unended s t := by
  intro _
  have orphans := congrArg (·.orphans) h.counters
  have bound := congrArg (·.mergeBound) h.tracking
  exact ⟨h.mode, bound, h.arrivals, orphans⟩

theorem unended_blocks {s t : State} (h : BlocksResponded s t) : Unended s t := unended_tended (tended_of_blocks h)

theorem unended_frames {s t : State} (h : FramesQueued s t) : Unended s t := unended_blocks (framesQueued_blocks h)

theorem unended_foldl {α : Type} {f : State → α → State} (step : ∀ s a, Unended s (f s a)) (l : List α) (s : State) :
    Unended s (l.foldl f s) := by
  induction l generalizing s with
  | nil => exact unended_refl s
  | cons a l ih => exact unended_trans (step s a) (ih _)

theorem zoneChanged_unended (c : Nat × Nat) (s : State) : Unended s (zoneChanged c s) := by
  intro moves
  have blocks := queueChanged_blocks c s
  have undrained : drainTest (queueChanged c s) = queueChanged c s := by
    unfold drainTest
    rw [blocksResponded_mode blocks, if_neg (by simp [moves])]
  unfold zoneChanged
  rw [undrained]
  exact unended_blocks blocks moves

theorem removeRecord_unended (t : Tag) (s : State) : Unended s (removeRecord t s) :=
  unended_trans (t := dropRecord t s) (fun _ => ⟨rfl, rfl, rfl, rfl⟩) (zoneChanged_unended _ _)

theorem enterRecord_unended (r : UnitRecord) (s : State) : Unended s (enterRecord r s) := by
  intro moves
  have queue := enterRecord_queue r s
  have arrivals := congrArg (·.arrivals) queue.1
  have orphans := congrArg (·.counters.orphans) queue.1
  exact ⟨queue.2.1.resolve_right fun both => moves both.1, enterRecord_mergeBound r s, arrivals, orphans⟩

theorem count_unended {c : CounterName} (h : c ≠ .orphans) (s : State) : Unended s (count c s) := by
  intro _
  refine ⟨rfl, rfl, rfl, ?_⟩
  cases c with
  | orphans => exact absurd rfl h
  | _ => rfl

theorem issueTag_unended (s : State) : Unended s (issueTag s).2 := fun _ => ⟨rfl, rfl, rfl, rfl⟩

theorem queueEvent_unended (n : EventName) (d t : Nat) (s : State) : Unended s (queueEvent n d t s) :=
  unended_frames (queueEvent_framesQueued n d t s)

theorem divertRecord_unended (s : State) (t : Tag) : Unended s (divertRecord s t) := by
  unfold divertRecord
  split
  · exact unended_trans (removeRecord_unended t s) (count_unended (c := .diverted) nofun _)
  · exact unended_refl s

theorem takeWindows_unended (present : List (Tag × UnitKind)) (takes : Nat → Bool) (s : State) :
    Unended s (takeWindows present takes s) := by
  refine unended_foldl (fun u ch => ?_) _ s
  unfold takeWindow
  split
  · exact unended_foldl divertRecord_unended _ u
  · exact unended_refl u

theorem closeBag_unended (disposition : Nat) (b : Bag) (s : State) : Unended s (closeBag disposition b s) := by
  have unbagged : Unended s { s with packing.openBag := none } := fun _ => ⟨rfl, rfl, rfl, rfl⟩
  exact unended_trans unbagged (unended_trans (issueTag_unended _) (unended_trans (queueEvent_unended _ _ _ _)
    (unended_trans (count_unended (c := .bagsClosed) nofun _) (unended_trans (unended_blocks (giveEvent_blocks _ _))
      (enterRecord_unended _ _)))))

theorem bagSegment_unended (u : UnitRecord) (s : State) : Unended s (bagSegment u s) := by
  have other : Unended s (closeOtherLot u.lot s) := by
    unfold closeOtherLot
    split
    · exact unended_refl s
    split
    · exact unended_refl s
    · exact closeBag_unended _ _ s
  have opened : ∀ v, Unended v (openBagFor u.lot v).2 := by
    intro v
    unfold openBagFor
    split
    · exact unended_refl v
    · exact fun _ => ⟨rfl, rfl, rfl, rfl⟩
  have first := unended_trans other (opened _)
  unfold bagSegment
  dsimp only
  split
  · exact unended_trans first fun _ => ⟨rfl, rfl, rfl, rfl⟩
  · exact unended_trans first (closeBag_unended _ _ _)

theorem closeCarrier_unended (c : Carrier) (s : State) : Unended s (closeCarrier c s) := by
  have closed : Unended s { s with
      packing.openCarrier := none, packing.doorList := s.packing.doorList ++ [⟨c.number, c.disposition⟩] } :=
    fun _ => ⟨rfl, rfl, rfl, rfl⟩
  exact unended_trans closed (unended_blocks (blocksResponded_trans (giveEvent_blocks _ _)
    (blocksResponded_trans (refreshReasons_blocks _) (blocksResponded_trans (evaluateDrive_blocks _) (doorTest_blocks _)))))

theorem carryBag_unended (u : UnitRecord) (s : State) : Unended s (carryBag u s) := by
  have other : Unended s (closeOtherCarrier u.lot s) := by
    unfold closeOtherCarrier
    split
    · exact unended_refl s
    split
    · exact unended_refl s
    · exact closeCarrier_unended _ s
  have opened : ∀ v, Unended v (openCarrierFor u.lot v).2 := by
    intro v
    unfold openCarrierFor
    split
    · exact unended_refl v
    · exact fun _ => ⟨rfl, rfl, rfl, rfl⟩
  have first := unended_trans other (opened _)
  unfold carryBag
  dsimp only
  split
  · exact unended_trans first (closeCarrier_unended _ _)
  · exact unended_trans first fun _ => ⟨rfl, rfl, rfl, rfl⟩

theorem packRecord_unended (s : State) (t : Tag) : Unended s (packRecord s t) := by
  unfold packRecord
  split
  · exact unended_refl s
  split
  · exact unended_trans (t := dropRecord _ s) (fun _ => ⟨rfl, rfl, rfl, rfl⟩)
      (unended_trans (bagSegment_unended _ _) (zoneChanged_unended _ _))
  split
  · unfold loadBag
    split
    · exact unended_trans (removeRecord_unended _ s) (carryBag_unended _ _)
    · exact unended_refl s
  · exact unended_refl s

theorem divertAndPack_unended (s : State) : Unended s (divertAndPack s) := by
  unfold divertAndPack
  dsimp only
  split
  · exact takeWindows_unended _ _ s
  split
  · exact unended_trans (t := { s with orderDraws := s.orderDraws + 1 }) (fun _ => ⟨rfl, rfl, rfl, rfl⟩)
      (unended_trans (takeWindows_unended _ _ _)
        (unended_trans (unended_foldl packRecord_unended _ _) (takeWindows_unended _ _ _)))
  · exact unended_foldl packRecord_unended _ s

theorem removeAtZoneEnd_unended (s : State) : Unended s (removeAtZoneEnd s) := by
  refine unended_foldl (fun u r => ?_) _ s
  have dropped : Unended u (dropRecord r.tag u) := fun _ => ⟨rfl, rfl, rfl, rfl⟩
  unfold leaveZone
  dsimp only
  refine unended_trans ?_ (zoneChanged_unended _ _)
  split
  · exact unended_trans dropped (unended_frames (queueEvent_framesQueued _ _ _ _))
  · exact dropped

/-- A count that ends no formation leaves a merge-bound segment, which has grown by one, and starts no other. -/
theorem counted_unended {on : Bool} {s : State} {m : MergeBound} (moves : s.mode ≠ .draining) (alone : s.arrivals = [])
    (bound : s.tracking.mergeBound = some m) (gap : gapDue (walked on s) = false) (length : lengthDue (walked on s) = false) :
    (counted on s).tracking.mergeBound = some { m with length := m.length + 1 }
      ∧ (counted on s).counters.orphans = s.counters.orphans := by
  have grown : (walked on s).tracking.mergeBound = some { m with length := m.length + 1 } := by
    rw [walked_mergeBound, bound]
    rfl
  have mode := walked_mode on s
  have expected := walked_arrivals on s
  have counters := congrArg (·.orphans) (walked_counters on s)
  have eq : counted on s
      = startTest on (handoverTurn (removeAtZoneEnd (divertAndPack (closeAndJudge (walked on s))))) := by
    unfold counted
    rw [count_eq, length]
    rfl
  have unclosed : closeDue (walked on s) = walked on s := by
    unfold closeDue
    rw [gap, length]
    rfl
  rw [eq]
  generalize walked on s = w at grown mode expected counters unclosed
  have judged : Unended w (closeAndJudge w) := by
    obtain ⟨n, tended⟩ := closeAndJudge_tended w
    rw [unclosed] at tended
    refine unended_trans ?_ (unended_tended tended)
    exact fun _ => ⟨rfl, rfl, rfl, rfl⟩
  have removed := unended_trans judged (unended_trans (divertAndPack_unended _) (removeAtZoneEnd_unended _))
  generalize removeAtZoneEnd (divertAndPack (closeAndJudge w)) = u at removed
  have there := removed (by rw [mode]; exact moves)
  rw [handoverTurn_alone (there.2.2.1.trans (expected.trans alone))]
  obtain ⟨-, bound', -, orphans'⟩ := unended_trans removed (unended_tended (examineZone_tended u)) (by rw [mode]; exact moves)
  generalize examineZone u = v at bound' orphans'
  have unstarted : startTest on v = v := by
    have due : startDue on v = false := by
      unfold startDue State.formingNow
      rw [bound', grown]
      simp
    unfold startTest
    rw [due]
    rfl
  rw [unstarted]
  exact ⟨bound'.trans grown, orphans'.trans counters⟩

end Sys2Proof.Turns


/-! PROOFS. Gap and length closes of a forming and of a merge-bound segment, settled (R76, R77, R81, R82). -/

namespace Sys2Proof.Turns

open Sys2Proof Sys2Proof.Machine Sys2Proof.Safety Sys2Proof.Laws Sys2Proof.Room Sys2Proof.Fitting Sys2Proof.Counting
  Sys2Proof.Moves Sys2Proof.Zone Sys2Proof.Postures

theorem settings_walked (on : Bool) (s : State) :
    (walked on s).gapLength = s.gapLength ∧ (walked on s).segmentMax = s.segmentMax := by
  have h := walked_station on s
  have gap := congrArg (fun station => State.gapLength { s with station := station }) h
  have most := congrArg (fun station => State.segmentMax { s with station := station }) h
  exact ⟨gap, most⟩

theorem closedAt_station {s t : State} (h : t.station = s.station) (length : Nat) (r : UnitRecord) :
    closedAt t length r = closedAt s length r := by
  have e := congrArg (fun station => closedAt { s with station := station } length r) h
  exact e

theorem massAt_station {s t : State} (h : t.station = s.station) (length : Nat) : massAt t length = massAt s length := by
  have e := congrArg (fun station => massAt { s with station := station } length) h
  exact e

theorem mergeBoundRecord_station {s t : State} (h : t.station = s.station) (m : MergeBound) (length : Nat) :
    mergeBoundRecord t m length = mergeBoundRecord s m length := by
  have e := congrArg (fun station => mergeBoundRecord { s with station := station } m length) h
  exact e

theorem loadGained_walked (on : Bool) (s : State) (mass : Nat) : loadGained (walked on s) mass = loadGained s mass := by
  have flow := congrArg (·.loadInput) (walked_flow on s)
  have load : (walked on s).flow.loadInput = s.flow.loadInput := flow
  unfold loadGained
  rw [hasRole_station (walked_station on s), load]

/-- The off run of a count that no gap ends. -/
theorem offRun_short {on : Bool} {offRun gap : Nat} (short : on = true ∨ offRun + 1 < gap) (positive : 0 < gap) :
    (if on then 0 else sat16 (offRun + 1)) < gap := by
  cases on with
  | true => exact positive
  | false =>
    have := short.resolve_left nofun
    show min (offRun + 1) 65535 < gap
    omega

/-- The off run of a count as the statements write it. -/
theorem closing_cause {on : Bool} {s : State} {n length : Nat}
    (cause : (on = false ∧ s.gapLength ≤ min (s.tracking.offRun + 1) 65535 ∧ length = max 1 (n - s.gapLength))
      ∨ ((on = true ∨ s.tracking.offRun + 1 < s.gapLength) ∧ 0 < s.gapLength ∧ 0 < s.segmentMax ∧ s.segmentMax ≤ n
          ∧ length = s.segmentMax)) :
    ((walked on s).gapLength ≤ (walked on s).tracking.offRun ∧ length = max 1 (n - (walked on s).gapLength))
      ∨ ((walked on s).tracking.offRun < (walked on s).gapLength ∧ (walked on s).segmentMax ≤ n
          ∧ 0 < (walked on s).segmentMax ∧ length = (walked on s).segmentMax) := by
  rw [(settings_walked on s).1, (settings_walked on s).2, walked_offRun]
  rcases cause with ⟨rfl, gap, rfl⟩ | ⟨short, positive, some, reached, rfl⟩
  · exact .inl ⟨gap, rfl⟩
  · exact .inr ⟨offRun_short short positive, reached, some, rfl⟩

/-- No segment starts at the closes that a count is stated for. -/
theorem closing_starts {on : Bool} {s : State} {n length : Nat} (forming : formingLength (walked on s) = some n)
    (cause : (on = false ∧ s.gapLength ≤ min (s.tracking.offRun + 1) 65535 ∧ length = max 1 (n - s.gapLength))
      ∨ ((on = true ∨ s.tracking.offRun + 1 < s.gapLength) ∧ 0 < s.gapLength ∧ 0 < s.segmentMax ∧ s.segmentMax ≤ n
          ∧ length = s.segmentMax)) :
    on = false ∨ lengthDue (walked on s) = true := by
  rcases cause with ⟨off, -, -⟩ | ⟨short, positive, -, reached, -⟩
  · exact .inl off
  · refine .inr ((lengthDue_iff forming).2 ?_)
    rw [(settings_walked on s).1, (settings_walked on s).2, walked_offRun]
    exact ⟨reached, offRun_short short positive⟩

/-! ### The last record's close at a count -/

/-- The close of the forming segment at a count (R76, R77). -/
theorem closeDue_walked {on : Bool} {s : State} {zone : List UnitRecord} {r : UnitRecord} {length : Nat}
    (free : s.tracking.mergeBound = none) (hz : s.tracking.zone = zone ++ [r]) (forming : r.forming = true)
    (closed : ∀ x ∈ zone, x.forming = false)
    (cause : (on = false ∧ s.gapLength ≤ min (s.tracking.offRun + 1) 65535 ∧ length = max 1 (r.head + 1 - s.gapLength))
      ∨ ((on = true ∨ s.tracking.offRun + 1 < s.gapLength) ∧ 0 < s.gapLength ∧ 0 < s.segmentMax ∧ s.segmentMax ≤ r.head + 1
          ∧ length = s.segmentMax)) :
    SameUnits (zone.map advanced ++ [closedAt s length (advanced r)]) (closeDue (walked on s)).tracking.zone
      ∧ (closeDue (walked on s)).arrivals = s.arrivals
      ∧ (closeDue (walked on s)).flow.loadInput = loadGained s (closedAt s length r).mass
      ∧ (on = false ∨ lengthDue (walked on s) = true) := by
  have same := walked_zone on s
  rw [hz, List.map_append, List.map_cons, List.map_nil, moveRecord_closed closed] at same
  obtain ⟨zone', r', hz', before, last⟩ := sameUnits_last same
  have free' : (walked on s).tracking.mergeBound = none := by
    rw [walked_mergeBound, free]
    rfl
  have forming' : r'.forming = true := (withoutHandover_forming last).trans forming
  have closed' : ∀ x ∈ zone', x.forming = false := by
    refine sameUnits_forall (P := fun x => x.forming = false)
      (fun x y h off => (withoutHandover_forming h).trans off) before fun x hx => ?_
    obtain ⟨y, hy, rfl⟩ := List.mem_map.1 hx
    exact closed y hy
  have head : r'.head = r.head + 1 := withoutHandover_head last
  have found := formingLength_last free' hz' forming' closed'
  rw [head] at found
  obtain ⟨f, close, at_head, positive⟩ := closeDue_cases found (closing_cause cause)
  rw [closeForming_grown free' hz' forming' (by rw [head, at_head]; exact positive), head, at_head,
    closedAt_station (walked_station on s), loadGained_walked] at close
  have starts := closing_starts found cause
  have arrivals := walked_arrivals on s
  have units : withoutHandover (closedAt s length r') = withoutHandover (closedAt s length (advanced r)) := by
    have e := withoutHandover_closed length (massAt s length) last
    exact e
  rw [close]
  exact ⟨sameUnits_concat before units, arrivals, rfl, starts⟩

/-! ### A merge-bound segment's close -/

/-- The record enters, and the counts' changes follow (R81, R82). -/
theorem closeForming_bound {c : Nat × Nat} {examine : State → State} (hx : Examines examine) {s0 s t : State}
    {zone z : List UnitRecord} {m : MergeBound} {length : Nat} (station : s.station = s0.station)
    (same : SameUnits zone s.tracking.zone) (h : MergeClosed s0 zone m length z)
    (close : t = zoneChanged c (enterVia examine (mergeBoundRecord s m length)
        (gainLoad (massOf s length) { s with tracking.mergeBound := none }))) :
    SameUnits z t.tracking.zone ∧ t.tracking.mergeBound = none ∧ t.arrivals = s.arrivals
      ∧ t.flow.loadInput = loadGained s (massAt s length)
      ∧ t.counters.merged = (if zone.length = 24 then min (s.counters.merged + 1) 65535 else s.counters.merged) := by
  rw [mergeBoundRecord_station station, gainLoad_eq] at close
  have entered := enterVia_mergeClosed hx (s := { s with
    tracking.mergeBound := none
    flow.loadInput := loadGained { s with tracking.mergeBound := none } (massOf s length) }) same h
  obtain ⟨u, blocks, units, occupied, whole, merged⟩ := entered
  have occupied' := fun e => occupied ((sameUnits_nil blocks.2.1).2 e)
  rw [zoneChanged_occupied c occupied'] at close
  have after := blocksResponded_trans blocks (queueChanged_blocks c _)
  rw [← close] at after
  have bound : u.tracking.mergeBound = none := by rw [whole]
  have load : u.flow.loadInput = loadGained s (massAt s length) := by rw [whole]; rfl
  have arrivals : u.arrivals = s.arrivals := by rw [whole]
  exact ⟨sameUnits_trans units after.2.1, (blocksResponded_mergeBound after).trans bound,
    (Handover.blocksResponded_arrivals after).trans arrivals, (blocksResponded_loadInput after).trans load,
    (blocksResponded_merged after).trans merged⟩

/-- The close of a merge-bound segment at a count. -/
theorem closeDue_bound {on : Bool} {s : State} {m : MergeBound} {length : Nat} {z : List UnitRecord}
    (bound : s.tracking.mergeBound = some m) (closed : ∀ x ∈ s.tracking.zone, x.forming = false)
    (cause : (on = false ∧ s.gapLength ≤ min (s.tracking.offRun + 1) 65535 ∧ length = max 1 (m.length + 1 - s.gapLength))
      ∨ ((on = true ∨ s.tracking.offRun + 1 < s.gapLength) ∧ 0 < s.gapLength ∧ 0 < s.segmentMax ∧ s.segmentMax ≤ m.length + 1
          ∧ length = s.segmentMax))
    (h : MergeClosed s (s.tracking.zone.map advanced) { m with length := m.length + 1 } length z) :
    SameUnits z (closeDue (walked on s)).tracking.zone ∧ (closeDue (walked on s)).tracking.mergeBound = none
      ∧ (closeDue (walked on s)).arrivals = s.arrivals
      ∧ (closeDue (walked on s)).flow.loadInput = loadGained s (massAt s length)
      ∧ (closeDue (walked on s)).counters.merged
          = (if s.tracking.zone.length = 24 then min (s.counters.merged + 1) 65535 else s.counters.merged)
      ∧ (on = false ∨ lengthDue (walked on s) = true) := by
  have bound' : (walked on s).tracking.mergeBound = some { m with length := m.length + 1 } := by
    rw [walked_mergeBound, bound]
    rfl
  have found := formingLength_bound bound'
  obtain ⟨f, close, at_length, positive⟩ := closeDue_cases found (closing_cause cause)
  have same := walked_zone on s
  rw [moveRecord_closed closed] at same
  rw [closeForming_merge bound' (by rw [at_length]; exact positive), at_length] at close
  obtain ⟨units, none, arrivals, load, merged⟩ :=
    closeForming_bound examines_id (walked_station on s) same h close
  have counters := congrArg (·.merged) (walked_counters on s)
  have before : (walked on s).counters.merged = s.counters.merged := counters
  rw [List.length_map, before] at merged
  rw [loadGained_walked, massAt_station (walked_station on s)] at load
  have starts := closing_starts found cause
  exact ⟨units, none, arrivals.trans (walked_arrivals on s), load, merged, starts⟩

/-- Settles O39: the rows by their close, and the counts by the close that their moves make due, after which the verdicts
and the handover unit's examination leave every unit in its place. -/
theorem segmentCloses : Obligations.SegmentCloses := by
  unfold Obligations.SegmentCloses
  refine ⟨fun s zone r profile loud free hz forming closed => ⟨fun gap => ?gapRow, fun short reached some => ?lengthRow,
      fun on length paid alone windows cause inside => ?lastCount⟩,
    fun s m on profile loud moves paid bound alone long short => ?grows,
    fun c s m length z profile loud bound cause h => ?boundRow,
    fun s m on length z profile loud paid bound alone windows closed cause h inside => ?boundCount⟩
  case gapRow =>
    have found := formingLength_last free hz forming closed
    have row := next_gapClose profile loud ((gapDue_iff found).2 gap)
    unfold closeByGap at row
    rw [closeForming_grown free hz forming (by omega)] at row
    exact row
  case lengthRow =>
    have found := formingLength_last free hz forming closed
    have row := next_lengthClose profile loud ((lengthDue_iff found).2 ⟨reached, short⟩)
    unfold closeByLength at row
    rw [closeForming_grown free hz forming (by omega)] at row
    exact row
  case lastCount =>
    obtain ⟨units, arrivals, load, starts⟩ := closeDue_walked free hz forming closed cause
    obtain ⟨judged, -, gained, -⟩ := counted_closes windows units (arrivals.trans alone) inside starts
    exact ⟨_, next_counted on profile loud paid, judged, gained.trans load⟩
  case grows =>
    have bound' : (walked on s).tracking.mergeBound = some { m with length := m.length + 1 } := by
      rw [walked_mergeBound, bound]
      rfl
    have found := formingLength_bound bound'
    have gap : gapDue (walked on s) = false := Bool.eq_false_iff.2 fun due => by
      have := (gapDue_iff found).1 due
      rw [(settings_walked on s).1, walked_offRun] at this
      exact absurd short (by show ¬ (if on = true then 0 else sat16 (s.tracking.offRun + 1)) < _; omega)
    have length : lengthDue (walked on s) = false := Bool.eq_false_iff.2 fun due => by
      have := ((lengthDue_iff found).1 due).1
      rw [(settings_walked on s).2] at this
      have : s.segmentMax ≤ m.length + 1 := this
      omega
    exact ⟨_, next_counted on profile loud paid, counted_unended moves alone bound gap length⟩
  case boundRow =>
    have found := formingLength_bound bound
    obtain ⟨f, row, at_length, positive⟩ : ∃ f : Nat → Nat,
        Next c s (settle (closeForming enterRecord zoneChanged f s)) ∧ f m.length = length ∧ length ≠ 0 := by
      rcases cause with ⟨rfl, gap, rfl⟩ | ⟨rfl, short, reached, some, rfl⟩
      · exact ⟨_, next_gapClose profile loud ((gapDue_iff found).2 gap), rfl, by omega⟩
      · exact ⟨_, next_lengthClose profile loud ((lengthDue_iff found).2 ⟨reached, short⟩), rfl, by omega⟩
    have close := closeForming_merge (enter := enterRecord) (changed := zoneChanged) bound (f := f)
      (by rw [at_length]; exact positive)
    rw [at_length] at close
    obtain ⟨units, none, -, load, merged⟩ :=
      closeForming_bound examines_zone (rfl : s.station = s.station) (sameUnits_refl _) h close
    exact ⟨_, row, none, units, load, merged⟩
  case boundCount =>
    obtain ⟨units, none, arrivals, load, merged, starts⟩ := closeDue_bound bound closed cause h
    have within := judgedZone_forall (P := fun u => u.tail < (s.zoneLength : Int) ∧ packingDue s u = false) s
      (fun _ both => both) inside
    obtain ⟨judged, bound', gained, merged'⟩ := counted_closes windows units (arrivals.trans alone) within starts
    exact ⟨_, next_counted on profile loud paid, bound'.trans none, judged, gained.trans load, merged'.trans merged⟩

end Sys2Proof.Turns


/-! PROOFS. An armed arrival at the transfer distance, missed or placed, by its row and at its count (R100 to R102). -/

namespace Sys2Proof.Turns

open Sys2Proof Sys2Proof.Machine Sys2Proof.Safety Sys2Proof.Laws Sys2Proof.Room Sys2Proof.Fitting Sys2Proof.Counting
  Sys2Proof.Moves Sys2Proof.Zone Sys2Proof.Postures

/-! ### Changes of the counts where nothing forms -/

/-- With nothing forming, a change of the counts brings responses, and at most the end of a drain. -/
theorem zoneChanged_unforming (c : Nat × Nat) {s : State} (h : s.formingNow = false) :
    ∃ m, BlocksResponded { s with mode := m } (zoneChanged c s) := by
  rcases zoneChanged_responded c s with blocks | ⟨-, -, -, -, ended⟩
  · exact ⟨s.mode, blocks⟩
  · exact ⟨_, ended h⟩

/-- What a change of the counts leaves where nothing forms. -/
theorem zoneChanged_leaves (c : Nat × Nat) {s : State} (h : s.formingNow = false) :
    SameUnits s.tracking.zone (zoneChanged c s).tracking.zone
      ∧ (zoneChanged c s).tracking.mergeBound = s.tracking.mergeBound
      ∧ (zoneChanged c s).arrivals = s.arrivals
      ∧ (zoneChanged c s).counters =
          { s.counters with
            txDrop := (zoneChanged c s).counters.txDrop
            startDeferred := (zoneChanged c s).counters.startDeferred }
      ∧ (zoneChanged c s).packing = { s.packing with door := (zoneChanged c s).packing.door }
      ∧ (zoneChanged c s).station = s.station := by
  obtain ⟨m, blocks⟩ := zoneChanged_unforming c h
  have counters := congrArg (·.counters) blocks.1
  have packing := congrArg (·.packing) blocks.1
  have bound := congrArg (·.tracking.mergeBound) blocks.1
  have station := congrArg (·.station) blocks.1
  have arrivals := congrArg (·.arrivals) blocks.1
  exact ⟨blocks.2.1, bound, arrivals, counters, packing, station⟩

theorem queueWritten_arrivals {s t : State} (h : QueueWritten s t) : t.arrivals = s.arrivals := by
  have e := congrArg (·.arrivals) h.1
  exact e

theorem clear_unforming {s : State} (zone : s.tracking.zone = []) (free : s.tracking.mergeBound = none) :
    s.formingNow = false := by
  unfold State.formingNow
  rw [zone, free]
  rfl

/-! ### The test of the one arrival -/

theorem dropArrival_alone {s : State} {a : Arrival} (h : s.arrivals = [a]) : dropArrival a.image.tag s = { s with arrivals := [] } := by
  have none : withoutArrival a.image.tag s.arrivals = [] := by
    unfold withoutArrival
    rw [h, List.eraseP_cons_of_pos (by simp)]
  unfold dropArrival
  rw [none]

theorem testArrivals_alone {s : State} {a : Arrival} (h : s.arrivals = [a]) (armed : a.armed = true)
    (there : s.transferDistance ≤ a.advance) (moved : 1 ≤ a.advance) :
    testArrivals s = testArrival s a ∧ s.arrivals.any (arrivalDue s) = true := by
  have due : arrivalDue s a = true :=
    Bool.and_eq_true_iff.2 ⟨armed, decide_eq_true (by omega)⟩
  unfold testArrivals
  rw [h, List.filter_cons_of_pos due, List.any_cons, due]
  exact ⟨rfl, rfl⟩

/-- A missed arrival leaves the list (R101). -/
theorem missArrival_alone {s : State} {a : Arrival} (h : s.arrivals = [a]) :
    QueueResponded { s with arrivals := [], counters.arrivalMiss := min (s.counters.arrivalMiss + 1) 65535 }
        (missArrival a.image.tag s)
      ∧ (missArrival a.image.tag s).arrivals = [] := by
  have miss : missArrival a.image.tag s = zoneChanged s.counts
      { s with arrivals := [], counters.arrivalMiss := min (s.counters.arrivalMiss + 1) 65535 } := by
    unfold missArrival
    rw [dropArrival_alone h]
    rfl
  rw [miss]
  exact ⟨zoneChanged_responded _ _, queueWritten_arrivals (zoneChanged_queue _ _)⟩

theorem placeArrival_alone {s : State} {a : Arrival} (h : s.arrivals = [a]) :
    (placeArrival a.image s).arrivals = [] := by
  unfold placeArrival
  split
  · exact (missArrival_alone h).2
  · dsimp only
    have closed := closeForming_queue _ enterRecord_queue _ zoneChanged_queue id s
    have still := (queueWritten_arrivals closed).trans h
    generalize closeForming enterRecord zoneChanged id s = u at still
    split
    · exact (missArrival_alone still).2
    · have entered := queueWritten_trans (enterRecord_queue (placedRecord u a.image)
        (gainLoad a.image.mass (dropArrival a.image.tag u))) (zoneChanged_queue u.counts _)
      refine (queueWritten_arrivals entered).trans ?_
      rw [dropArrival_alone still, gainLoad_eq]

/-- A record that enters an empty zone queue is alone in it, and examined. -/
theorem enterRecord_first {s : State} (r : UnitRecord) (zone : s.tracking.zone = []) :
    enterRecord r s = examineZone { s with tracking.zone := [r] } := by
  unfold enterRecord
  rw [enterVia_joins (by rw [zone]; decide)]
  unfold insertRecord
  rw [zone]
  rfl

/-- A placement on a clear belt: the record enters at head 0 with its mass (R102, R138). -/
theorem placeArrival_clear {s : State} {a : Arrival} (h : s.arrivals = [a]) (zone : s.tracking.zone = [])
    (free : s.tracking.mergeBound = none) :
    Tended
      { s with
        arrivals := []
        tracking.zone := [placed s a.image]
        flow.loadInput := loadGained s a.image.mass }
      (placeArrival a.image s) := by
  have absent : s.zoneHolds a.image.tag = false := by
    unfold State.zoneHolds
    rw [zone]
    rfl
  have same : closeForming enterRecord zoneChanged id s = s := closeForming_none _ _ _ (clear_unforming zone free)
  have place : placeArrival a.image s = zoneChanged s.counts (enterRecord (placed s a.image)
      { s with arrivals := [], flow.loadInput := loadGained s a.image.mass }) := by
    unfold placeArrival
    dsimp only
    rw [same, absent, if_neg nofun, if_neg nofun, dropArrival_alone h, gainLoad_eq]
    rfl
  have first := enterRecord_first (s := { s with arrivals := [], flow.loadInput := loadGained s a.image.mass })
    (placed s a.image) zone
  rw [place, first]
  have examined := examineZone_tended
    { s with
      arrivals := []
      tracking.zone := [placed s a.image]
      flow.loadInput := loadGained s a.image.mass }
  have occupied := fun e => List.cons_ne_nil _ _ ((sameUnits_nil examined.zone).2 e)
  rw [zoneChanged_occupied _ occupied]
  exact tended_trans examined (tended_of_blocks (queueChanged_blocks _ _))

/-! ### The count that brings an arrival to its place -/

/-- No start at a count leaves the arrivals list otherwise. -/
theorem startTest_arrivals (on : Bool) (s : State) : (startTest on s).arrivals = s.arrivals := by
  have reported : ∀ t u, (reportOrphan t u).arrivals = u.arrivals := by
    intro t u
    unfold reportOrphan
    split
    · rfl
    · have queued := framesQueued_blocks (queueEvent_framesQueued .orphan u.upstream t.toNat (count .orphans u))
      exact (Handover.blocksResponded_arrivals queued).trans rfl
  unfold startTest
  split
  · by_cases room : s.tracking.zone.length < 24
    · rw [startSegment_room room]
      refine (queueWritten_arrivals (zoneChanged_queue _ _)).trans ((examineZone_tended _).arrivals.trans ?_)
      exact (reported _ _).trans rfl
    · have bound : startSegment s = _ := if_neg room
      rw [bound]
      exact (reported _ _).trans rfl
  · rfl

/-- A record at the entry lets no segment start. -/
theorem startTest_covered {on : Bool} {s : State} (h : s.tracking.zone.any coversEntry = true) : startTest on s = s := by
  have due : startDue on s = false := by
    unfold startDue
    rw [h]
    simp
  unfold startTest
  rw [due]
  rfl

theorem placed_covers {s : State} {m : UnitImage} {z : List UnitRecord} (h : SameUnits [placed s m] z) :
    z.any coversEntry = true := by
  obtain ⟨x, rest, rfl, same, -⟩ := sameUnits_cons h
  have tail := (withoutHandover_fields same).2.2.2.1
  have covers : coversEntry x = true := by
    unfold coversEntry
    rw [tail]
    refine decide_eq_true ?_
    show ((placed s m).head : Int) - ((placed s m).length : Nat) ≤ 0
    have : (placed s m).head = 0 := rfl
    omega
  rw [List.any_cons, covers]
  rfl

theorem placed_station {s t : State} (h : t.station = s.station) (m : UnitImage) : placed t m = placed s m := by
  have e := congrArg (fun station => placed { s with station := station } m) h
  exact e

/-- A walk that takes no edge leaves the neighbour record. -/
theorem walked_neighbours {on : Bool} {s : State}
    (edgeless : ∀ w, s.mode = .walking → s.peer.walk = some w → on = false ∨ w.offSeen = false ∨ w.edgeSeen = true) :
    (walked on s).peer.neighbours = s.peer.neighbours := by
  by_cases walking : s.mode = .walking
  · cases walk : s.peer.walk with
    | none =>
      have still : walked on s = moved on s := by
        unfold walked walkStep
        rw [moved_peer, walk]
      rw [still, moved_peer]
    | some w =>
      have quiet : walkEdge on w = false := by
        unfold walkEdge
        rcases edgeless w walking walk with h | h | h <;> simp [h]
      rw [walked_edgeless walking walk quiet]
  · have still : walked on s = moved on s := by
      have mode : (moved on s).mode ≠ .walking := by
        rw [moved_eq]
        exact walking
      unfold walked walkStep
      split
      · rfl
      · exact if_pos mode
    rw [still, moved_peer]

/-- `w` with the one arrival `a` expected. -/
def awaiting (a : Arrival) (w : State) : State := { w with arrivals := [a] }

/-- The handover unit's turn with one armed arrival, which has now reached the transfer distance (R100). -/
theorem handoverTurn_arrival {w : State} {a : Arrival} (expected : w.arrivals = [a]) (armed : a.armed = true)
    (low : a.advance < 65535) (there : w.transferDistance ≤ a.advance + 1) :
    handoverTurn w
      = examineZone (testArrival (awaiting { a with advance := a.advance + 1 } w) { a with advance := a.advance + 1 }) := by
  have one : sat16 (a.advance + 1) = a.advance + 1 := Nat.min_eq_left low
  have advances : advanceArrivals w = awaiting { a with advance := a.advance + 1 } w := by
    unfold advanceArrivals awaiting
    rw [expected, List.map_cons, List.map_nil, if_pos armed, one]
  have tests := (testArrivals_alone (s := awaiting { a with advance := a.advance + 1 } w)
    (a := { a with advance := a.advance + 1 }) rfl armed there (Nat.le_add_left 1 _)).1
  unfold handoverTurn
  rw [advances, tests]

/-- The handover unit's turn misses the arrival after a long off run. -/
theorem handoverTurn_misses {w : State} {a : Arrival} (expected : w.arrivals = [a]) (armed : a.armed = true)
    (low : a.advance < 65535) (there : w.transferDistance ≤ a.advance + 1) (zone : w.tracking.zone = [])
    (free : w.tracking.mergeBound = none) (long : 2 * w.arrivalTolerance ≤ w.tracking.offRun) :
    (handoverTurn w).arrivals = [] ∧ (handoverTurn w).tracking.zone = []
      ∧ (handoverTurn w).counters.arrivalMiss = min (w.counters.arrivalMiss + 1) 65535 := by
  have tests : testArrival (awaiting { a with advance := a.advance + 1 } w) { a with advance := a.advance + 1 }
      = missArrival a.image.tag (awaiting { a with advance := a.advance + 1 } w) := if_pos long
  rw [handoverTurn_arrival expected armed low there, tests]
  have unforming : (awaiting { a with advance := a.advance + 1 } w).formingNow = false := clear_unforming zone free
  have missed := (missArrival_alone (s := awaiting { a with advance := a.advance + 1 } w)
    (a := { a with advance := a.advance + 1 }) rfl).1
  generalize missArrival _ _ = u at missed
  have blocks : ∃ m, BlocksResponded
      { w with mode := m, arrivals := [], counters.arrivalMiss := min (w.counters.arrivalMiss + 1) 65535 } u := by
    rcases missed with blocks | ⟨-, -, -, -, ended⟩
    · exact ⟨w.mode, blocks⟩
    · exact ⟨_, ended unforming⟩
  obtain ⟨m, blocks⟩ := blocks
  have examined := tended_trans (tended_of_blocks blocks) (examineZone_tended u)
  have misses := congrArg (·.arrivalMiss) examined.counters
  exact ⟨examined.arrivals, (sameUnits_nil examined.zone).1 zone, misses⟩

/-- The handover unit's turn places the arrival after a short one. -/
theorem handoverTurn_places {w : State} {a : Arrival} (expected : w.arrivals = [a]) (armed : a.armed = true)
    (low : a.advance < 65535) (there : w.transferDistance ≤ a.advance + 1) (zone : w.tracking.zone = [])
    (free : w.tracking.mergeBound = none) (short : ¬ 2 * w.arrivalTolerance ≤ w.tracking.offRun) :
    (handoverTurn w).arrivals = [] ∧ SameUnits [placed w a.image] (handoverTurn w).tracking.zone
      ∧ (handoverTurn w).counters.arrivalMiss = w.counters.arrivalMiss
      ∧ (handoverTurn w).flow.loadInput = loadGained w a.image.mass := by
  have tests : testArrival (awaiting { a with advance := a.advance + 1 } w) { a with advance := a.advance + 1 }
      = placeArrival a.image (awaiting { a with advance := a.advance + 1 } w) := if_neg short
  rw [handoverTurn_arrival expected armed low there, tests]
  have entered := placeArrival_clear (s := awaiting { a with advance := a.advance + 1 } w)
    (a := { a with advance := a.advance + 1 }) rfl zone free
  dsimp only at entered
  generalize placeArrival _ _ = u at entered
  have examined := tended_trans entered (examineZone_tended u)
  have misses := congrArg (·.arrivalMiss) examined.counters
  exact ⟨examined.arrivals, examined.zone, misses, examined.loadInput⟩

/-- The row ARRIVAL_AT_T tests the one arrival (R101). -/
theorem next_arrivalAtT {s : State} {a : Arrival} (profile : s.hasProfile = true) (loud : s.mode ≠ .quiet)
    (alone : s.arrivals = [a]) (armed : a.armed = true) (there : s.transferDistance ≤ a.advance) (moved : 1 ≤ a.advance) :
    Next .arrivalAtT s (settle (testArrival s a)) := by
  obtain ⟨tests, due⟩ := testArrivals_alone alone armed there moved
  show execArrivalAtT s = done _
  rw [← tests]
  exact if_pos (Bool.and_eq_true_iff.2 ⟨Bool.and_eq_true_iff.2 ⟨profile, decide_eq_true loud⟩, due⟩)

theorem arrivalTolerance_walked (on : Bool) (s : State) : (walked on s).arrivalTolerance = s.arrivalTolerance := by
  have e := congrArg (fun station => State.arrivalTolerance { s with station := station }) (walked_station on s)
  exact e

/-- The count that brings the one arrival of a clear belt to its place: the start test follows the handover unit's turn. -/
theorem counted_arrival {on : Bool} {s : State} (zone : s.tracking.zone = []) (free : s.tracking.mergeBound = none) :
    (walked on s).tracking.zone = [] ∧ (walked on s).tracking.mergeBound = none
      ∧ counted on s = startTest on (handoverTurn (walked on s)) := by
  have clear : (walked on s).tracking.zone = [] := (sameUnits_nil (walked_zone on s)).1 (by rw [zone]; rfl)
  have free' : (walked on s).tracking.mergeBound = none := by
    rw [walked_mergeBound, free]
    rfl
  obtain ⟨stages, short⟩ := stages_clear clear free'
  refine ⟨clear, free', ?_⟩
  unfold counted
  rw [count_eq, stages, short]
  rfl

/-- Settles O42: the row by its one test, and the count by that test after the moves of a clear belt. -/
theorem arrivalTested : Obligations.ArrivalTested := by
  unfold Obligations.ArrivalTested
  refine ⟨fun s a profile loud alone armed there moved => ?row,
    fun s a on offRun profile loud paid zone free alone armed run low there edgeless => ?count⟩
  case row =>
    refine ⟨_, next_arrivalAtT profile loud alone armed there moved, ?_, fun long => ?_, fun short zone free => ?_⟩
    · rw [settle_arrivals]
      unfold testArrival
      split
      · exact (missArrival_alone alone).2
      · exact placeArrival_alone alone
    · have tests : testArrival s a = missArrival a.image.tag s := if_pos long
      rw [tests]
      exact queueResponded_settle (missArrival_alone alone).1
    · have tests : testArrival s a = placeArrival a.image s := if_neg (by omega)
      have tended := placeArrival_clear alone zone free
      have misses := congrArg (·.arrivalMiss) tended.counters
      rw [tests]
      exact ⟨sameUnits_trans tended.zone (settle_sameUnits _), misses, tended.loadInput⟩
  case count =>
    obtain ⟨clear, free', eq⟩ := counted_arrival (on := on) zone free
    have run' := (walked_offRun on s).trans run.symm
    have counters := congrArg (·.arrivalMiss) (walked_counters on s)
    have load := loadGained_walked on s a.image.mass
    have there' : (walked on s).transferDistance ≤ a.advance + 1 :=
      Nat.le_trans (Nat.le_of_eq (congrArg (·.distance) (walked_neighbours edgeless))) there
    have expected := (walked_arrivals on s).trans alone
    have tolerance := arrivalTolerance_walked on s
    have station := walked_station on s
    have row := next_counted on profile loud paid
    rw [eq] at row
    refine ⟨_, row, ?_⟩
    rw [settle_arrivals, settle_tracking, settle_counters, settle_flow, startTest_arrivals]
    generalize walked on s = w at clear free' run' counters load there' expected tolerance station
    rw [← tolerance, ← run']
    by_cases long : 2 * w.arrivalTolerance ≤ w.tracking.offRun
    · obtain ⟨none, gone, misses⟩ := handoverTurn_misses expected armed low there' clear free' long
      refine ⟨none, fun _ off => ?_, fun brief => absurd long (by omega)⟩
      rw [off, startTest_off]
      exact ⟨gone, misses.trans (congrArg (fun n => min (n + 1) 65535) counters)⟩
    · obtain ⟨none, units, misses, gained⟩ := handoverTurn_places expected armed low there' clear free' long
      rw [placed_station station] at units
      rw [startTest_covered (placed_covers units)]
      exact ⟨none, fun h => absurd h long, fun _ => ⟨units, misses.trans counters, gained.trans load⟩⟩

end Sys2Proof.Turns


/-! PROOFS. The frames of an examination, and those of a change of the queue's counts (R88, R95, R52, R128). -/

namespace Sys2Proof.Fitting

open Sys2Proof Sys2Proof.Machine Sys2Proof.Safety Sys2Proof.Laws Sys2Proof.Room

theorem grows_foldl {α : Type} {f : State → α → State} (step : ∀ s a, Grows 1 s (f s a)) (l : List α) (s : State) :
    Grows l.length s (l.foldl f s) := by
  induction l generalizing s with
  | nil => exact Grows.refl s
  | cons a l ih =>
    refine ((step s a).trans (ih (f s a))).mono ?_
    rw [List.length_cons]
    omega

theorem offerRecord_grows (s : State) (t : Tag) : Grows 1 s (offerRecord s t) := by
  unfold offerRecord
  split
  · exact (Grows.refl s).mono (by omega)
  · dsimp only
    exact (queueFrame_grows _ _).congr rfl rfl

theorem passRecord_grows (s : State) (t : Tag) : Grows 1 s (passRecord s t) := by
  unfold passRecord
  split
  · exact (Grows.refl s).mono (by omega)
  · next r _ =>
    have passed : Grows 0 s (if r.handover = .taken then setHandover t .passed r.attempts s
        else count .untakenPass (setHandover t .passed r.attempts s)) := by
      split <;> exact Grows.of_link rfl rfl
    exact (passed.trans (queueFrame_grows _ _)).mono (by omega)

theorem makeOffers_grows (s : State) : Grows (s.tracking.zone.filter (offerDue s)).length s (makeOffers s) := by
  have folds := grows_foldl offerRecord_grows ((s.tracking.zone.filter (offerDue s)).map (·.tag)) s
  rw [List.length_map] at folds
  exact folds

theorem makePasses_grows (s : State) : Grows (s.tracking.zone.filter (passDue s)).length s (makePasses s) := by
  have folds := grows_foldl passRecord_grows ((s.tracking.zone.filter (passDue s)).map (·.tag)) s
  rw [List.length_map] at folds
  exact folds

/-- A record is offered before the zone end and passed from there on, never both. -/
theorem due_length (s : State) {t : State} (station : t.station = s.station)
    (h : SameUnits s.tracking.zone t.tracking.zone) :
    (s.tracking.zone.filter (offerDue s)).length + (t.tracking.zone.filter (passDue t)).length
      ≤ s.tracking.zone.length := by
  have same := Turns.zoneLength_station station
  have offers : (s.tracking.zone.filter (offerDue s)).length
      ≤ (s.tracking.zone.map (·.head)).countP (fun head => decide (head < s.zoneLength)) := by
    rw [List.countP_map, ← List.countP_eq_length_filter]
    refine List.countP_mono_left fun r _ due => ?_
    unfold offerDue at due
    simp only [Bool.and_eq_true] at due
    exact due.2
  have passes : (t.tracking.zone.filter (passDue t)).length
      ≤ (s.tracking.zone.map (·.head)).countP (fun head => !decide (head < s.zoneLength)) := by
    rw [← Changes.sameUnits_heads h, List.countP_map, ← List.countP_eq_length_filter]
    refine List.countP_mono_left fun r _ due => ?_
    unfold passDue at due
    simp only [Bool.and_eq_true, decide_eq_true_eq, same] at due
    simp only [Function.comp_apply, Bool.not_eq_true', decide_eq_false_iff_not]
    omega
  have all := List.length_eq_countP_add_countP (fun head => decide (head < s.zoneLength)) (l := s.tracking.zone.map (·.head))
  rw [List.length_map] at all
  simp only [decide_eq_true_eq] at all offers passes
  have negation : (s.tracking.zone.map (·.head)).countP (fun head => !decide (head < s.zoneLength))
      = (s.tracking.zone.map (·.head)).countP (fun head => decide (¬ head < s.zoneLength)) := by
    congr 1
    funext head
    rw [decide_not]
  rw [negation] at passes
  omega

/-- The offers and passes of an examination: one frame for each record at most. -/
theorem makeHandovers_grows (s : State) : Grows s.tracking.zone.length s (makePasses (makeOffers s)) := by
  have frames := makeOffers_framesQueued s
  have station := blocksResponded_station (framesQueued_blocks frames)
  exact ((makeOffers_grows s).trans (makePasses_grows _)).mono (due_length s station frames.2)

/-- An examination queues one frame for each record, and one for the drive. -/
theorem examineZone_grows (s : State) : Grows (s.tracking.zone.length + 1) s (examineZone s) := by
  unfold examineZone
  split
  · exact (makeHandovers_grows s).trans (evaluateDrive_grows _)
  · exact (evaluateDrive_grows s).mono (by omega)

/-! ### A change of the counts -/

theorem queueFrame_waits {f : Frame} {s : State} {k : Kind} (awake : s.mode ≠ .quiet) (loud : s.link.silencing = false)
    (room : s.link.txq.length < 8) (h : f.kind = k ∨ kindWaits k s.link.txq = true) :
    kindWaits k (queueFrame f s).link.txq = true := by
  cases hw : mergingKind f.kind && kindWaits f.kind s.link.txq with
  | true =>
    rw [queueFrame_merges awake loud hw]
    show kindWaits k (replaceWaiting f s.link.txq) = true
    rw [kindWaits_replaceWaiting]
    rcases h with rfl | waits
    · exact (Bool.and_eq_true_iff.1 hw).2
    · exact waits
  | false =>
    rw [queueFrame_accepts ⟨awake, loud, room, hw⟩]
    show kindWaits k (Safety.queued f s.link.txq) = true
    rw [kindWaits_queued]
    rcases h with rfl | waits
    · simp
    · rw [waits, Bool.or_true]

/-- A STATUS that merges takes no room. -/
theorem queueStatus_merging {s : State} (awake : s.mode ≠ .quiet) (loud : s.link.silencing = false)
    (waits : kindWaits .status s.link.txq = true) {f : Frame} (kind : mergingKind f.kind = false) (h : Carries f s) :
    Carries f (queueStatus s) := by
  have merges := queueFrame_merges (f := ownFrame .status 0 s.statusPayload s) (s := s) awake loud (by
    show (mergingKind .status && kindWaits .status s.link.txq) = true
    rw [waits]
    rfl)
  unfold queueStatus
  rw [merges]
  refine carries_replaceWaiting (fun same => ?_) h
  have status : f.kind = .status := same
  rw [status] at kind
  nomatch kind

/-- With room for two frames, a change of the counts loses no frame that does not merge: a STATUS, a HOLD, and an EVENT
which may itself be lost. -/
theorem counts_carries {s : State} {f : Frame} (c : Nat × Nat) (room : Fits 2 s) (kind : mergingKind f.kind = false)
    (h : Carries f s) : Carries f (reportCounts c (evaluateDrive (evaluateLevel s))) := by
  unfold evaluateLevel setReasons
  dsimp only
  split
  · obtain ⟨one, keep⟩ := evaluateDrive_grows s 1 room
    unfold reportCounts
    split
    · exact keep f kind h
    · exact (queueFrame_grows _ _ 0 one).2 f kind (keep f kind h)
  · have written : Carries f { s with flow.reasons := s.reasonsInForce (levelAfter s) } := h
    have fits : Fits 2 { s with flow.reasons := s.reasonsInForce (levelAfter s) } := ⟨room.awake, room.loud, room.room⟩
    generalize { s with flow.reasons := s.reasonsInForce (levelAfter s) } = u at written fits
    have told := queueFrame_grows (ownFrame .status 0 u.statusPayload u) u 1 fits
    have waits : kindWaits .status (queueStatus u).link.txq = true :=
      queueFrame_waits fits.awake fits.loud (by have := fits.room; omega) (.inl rfl)
    have carried : Carries f (queueStatus u) := told.2 f kind written
    have one : Fits 1 (queueStatus u) := told.1
    generalize queueStatus u = v at waits carried one
    have held : Fits 0 (queueHold v) ∧ Carries f (queueHold v) ∧ kindWaits .status (queueHold v).link.txq = true := by
      unfold queueHold
      split
      · exact ⟨one.mono (by omega), carried, waits⟩
      · obtain ⟨none, keep⟩ := queueFrame_grows (holdFrame v) v 0 one
        exact ⟨none, keep f kind carried,
          queueFrame_waits one.awake one.loud (by have := one.room; omega) (.inr waits)⟩
    obtain ⟨none, carried, waits⟩ := held
    generalize queueHold v = w at none carried waits
    obtain ⟨⟨awake, loud⟩, waits', keep⟩ := evaluateDrive_keeps w none.awake none.loud
    unfold reportCounts
    split
    · exact keep f kind carried
    · exact queueStatus_merging awake loud (waits' waits) kind (keep f kind carried)

end Sys2Proof.Fitting


/-! PROOFS. The start of a segment: as the one record of an empty zone, and merge-bound at a full queue (R72 to R74,
R81). -/

namespace Sys2Proof.Turns

open Sys2Proof Sys2Proof.Machine Sys2Proof.Safety Sys2Proof.Laws Sys2Proof.Room Sys2Proof.Fitting Sys2Proof.Counting
  Sys2Proof.Moves Sys2Proof.Zone Sys2Proof.Postures

/-! ### The start -/

/-- The next tag, where neither list holds it (R72). -/
theorem issueTag_free {s : State} (zone : s.zoneHolds (nextTag s) = false) (expected : s.arrivalsHold (nextTag s) = false) :
    issueTag s = (nextTag s, { s with tracking.tagSeq := (s.tracking.tagSeq + 1) % 2048 }) := by
  have free : freeSequence s 2048 s.tracking.tagSeq = s.tracking.tagSeq := by
    show (if s.zoneHolds (nextTag s) || s.arrivalsHold (nextTag s) then _ else s.tracking.tagSeq) = _
    rw [zone, expected]
    rfl
  unfold issueTag
  rw [free]
  rfl

theorem issueTag_clear {s : State} (zone : s.tracking.zone = []) (alone : s.arrivals = []) :
    issueTag s = (nextTag s, { s with tracking.tagSeq := (s.tracking.tagSeq + 1) % 2048 }) := by
  refine issueTag_free ?_ ?_
  · unfold State.zoneHolds
    rw [zone]
    rfl
  · unfold State.arrivalsHold
    rw [alone]
    rfl

theorem nextTag_same {s t : State} (station : t.station = s.station) (seq : t.tracking.tagSeq = s.tracking.tagSeq) :
    nextTag t = nextTag s := by
  unfold nextTag
  rw [station, seq]

/-- The sequence goes on modulo 2048 (R72). -/
theorem sequence_next {n : Nat} (h : n < 2048) : (n + 1) % 2048 = if n = 2047 then 0 else n + 1 := by
  split <;> omega

/-- The counted orphans after a start (R74). -/
def orphansAfter (s : State) : Nat := if s.isHead then s.counters.orphans else min (s.counters.orphans + 1) 65535

/-- An orphan's report: its count and its EVENT (R74). -/
theorem reportOrphan_frames (t : Tag) (s : State) :
    FramesQueued { s with counters.orphans := orphansAfter s } (reportOrphan t s) := by
  unfold reportOrphan orphansAfter
  by_cases head : s.isHead = true
  · rw [if_pos head, if_pos head]
    exact framesQueued_refl s
  · rw [if_neg head, if_neg head]
    exact queueEvent_framesQueued .orphan s.upstream t.toNat (count .orphans s)

theorem reportOrphan_grows (t : Tag) (s : State) : Grows 1 s (reportOrphan t s) := by
  unfold reportOrphan
  split
  · exact (Grows.refl s).mono (by omega)
  · exact (queueEvent_grows _ _ _ (count .orphans s)).congr rfl rfl

theorem reportOrphan_carries {t : Tag} {s : State} (follower : s.isHead = false) (room : Fits 1 s) :
    Carries (eventOf s 6 s.upstream t.toNat) (reportOrphan t s) := by
  have counted : Fits 1 (count .orphans s) := ⟨room.awake, room.loud, room.room⟩
  have report : reportOrphan t s = queueEvent .orphan s.upstream t.toNat (count .orphans s) :=
    if_neg (by rw [follower]; nofun)
  rw [report]
  exact (queueFrame_carries counted.awake counted.loud (by have := counted.room; omega)).1

/-- The record of a segment that starts (R73, R74). -/
def startedRecord (s : State) : UnitRecord :=
  formedRecord (nextTag s) (if s.isHead then s.tracking.currentLot else 0) (if s.isHead then 0 else 7)

/-- What a start makes of an empty zone, before the handover unit examines it. -/
def begun (s : State) (t : State) : State :=
  { t with tracking.zone := [startedRecord s] }

/-- A start in an empty zone: the tag's issue, the orphan's report, the record's entry and its responses (R73). -/
theorem startSegment_first {s : State} (zone : s.tracking.zone = []) (alone : s.arrivals = []) :
    ∃ u, u = reportOrphan (nextTag s) { s with tracking.tagSeq := (s.tracking.tagSeq + 1) % 2048 }
      ∧ startSegment s
          = reportCounts s.counts (evaluateDrive (evaluateLevel (examineZone (begun s u)))) := by
  have empty : (reportOrphan (nextTag s) { s with tracking.tagSeq := (s.tracking.tagSeq + 1) % 2048 }).tracking.zone = [] :=
    (sameUnits_nil (reportOrphan_frames _ _).2).1 zone
  have start := startSegment_room (s := s) (by rw [zone]; decide)
  rw [issueTag_clear zone alone] at start
  dsimp only at start
  generalize reportOrphan (nextTag s) { s with tracking.tagSeq := (s.tracking.tagSeq + 1) % 2048 } = u at empty start
  refine ⟨u, rfl, ?_⟩
  have inserted : insertRecord (startedRecord s) u = begun s u := by
    unfold insertRecord begun
    rw [empty]
    rfl
  have occupied : (examineZone (begun s u)).tracking.zone ≠ [] := fun e =>
    List.cons_ne_nil _ _ ((sameUnits_nil (examineZone_tended (begun s u)).zone).2 e)
  rw [start, ← queueChanged_occupied _ occupied, ← inserted]
  rfl

/-- What such a start leaves. -/
theorem startSegment_leaves {s : State} (zone : s.tracking.zone = []) (alone : s.arrivals = []) :
    ∃ t, startSegment s = t
      ∧ SameUnits [startedRecord s] t.tracking.zone ∧ t.tracking.tagSeq = (s.tracking.tagSeq + 1) % 2048
      ∧ t.counters.orphans = orphansAfter s ∧ t.tracking.mergeBound = s.tracking.mergeBound ∧ t.mode = s.mode
      ∧ t.peer.neighbours = s.peer.neighbours := by
  obtain ⟨u, hu, start⟩ := startSegment_first zone alone
  have reported := reportOrphan_frames (nextTag s) { s with tracking.tagSeq := (s.tracking.tagSeq + 1) % 2048 }
  rw [← hu] at reported
  have entered := tended_trans (examineZone_tended (begun s u)) (tended_of_blocks
    (blocksResponded_trans (evaluateLevel_blocks _) (blocksResponded_trans (evaluateDrive_blocks _)
      (framesQueued_blocks (reportCounts_framesQueued s.counts _)))))
  refine ⟨_, rfl, ?_⟩
  rw [← start] at entered
  generalize startSegment s = t at entered
  have bound := congrArg (·.mergeBound) entered.tracking
  have seq := congrArg (·.tagSeq) entered.tracking
  have orphans := congrArg (·.orphans) entered.counters
  have bound' := congrArg (·.tracking.mergeBound) reported.1
  have seq' := congrArg (·.tracking.tagSeq) reported.1
  have orphans' := congrArg (·.counters.orphans) reported.1
  have neighbours' := congrArg (·.peer.neighbours) reported.1
  have mode' := congrArg (·.mode) reported.1
  exact ⟨entered.zone, seq.trans seq', orphans.trans orphans', bound.trans bound', entered.mode.trans mode',
    entered.neighbours.trans neighbours'⟩

/-- The EVENT ORPHAN of a start outside WALKING, where the queue has room for five frames. -/
theorem startSegment_carries {s : State} (zone : s.tracking.zone = []) (alone : s.arrivals = []) (room : Fits 5 s)
    (follower : s.isHead = false) : Carries (eventOf s 6 s.upstream (nextTag s).toNat) (startSegment s) := by
  obtain ⟨u, rfl, start⟩ := startSegment_first zone alone
  have issued : Fits 5 { s with tracking.tagSeq := (s.tracking.tagSeq + 1) % 2048 } := ⟨room.awake, room.loud, room.room⟩
  have carried := reportOrphan_carries (t := nextTag s) (s := { s with tracking.tagSeq := (s.tracking.tagSeq + 1) % 2048 })
    follower (issued.mono (by omega))
  have fits := (reportOrphan_grows (nextTag s) { s with tracking.tagSeq := (s.tracking.tagSeq + 1) % 2048 } 4 issued).1
  rw [start]
  have carried : Carries (eventOf s 6 s.upstream (nextTag s).toNat)
      (reportOrphan (nextTag s) { s with tracking.tagSeq := (s.tracking.tagSeq + 1) % 2048 }) := carried
  generalize reportOrphan (nextTag s) { s with tracking.tagSeq := (s.tracking.tagSeq + 1) % 2048 } = u at fits carried
  have begins : Fits 4 (begun s u) ∧ Carries (eventOf s 6 s.upstream (nextTag s).toNat) (begun s u) :=
    ⟨⟨fits.awake, fits.loud, fits.room⟩, carried⟩
  obtain ⟨two, keep⟩ := examineZone_grows (begun s u) 2 begins.1
  exact counts_carries _ two rfl (keep _ rfl begins.2)

/-- The EVENT ORPHAN of a start in WALKING, where the queue has room for one event. -/
theorem startSegment_carries_walking {s : State} (walking : s.mode = .walking) (zone : s.tracking.zone = [])
    (alone : s.arrivals = []) (room : Spare true 1 s) (follower : s.isHead = false) :
    Carries (eventOf s 6 s.upstream (nextTag s).toNat) (startSegment s) := by
  obtain ⟨u, rfl, start⟩ := startSegment_first zone alone
  have issued : Spare true 1 { s with tracking.tagSeq := (s.tracking.tagSeq + 1) % 2048 } :=
    ⟨room.awake, room.loud, room.room⟩
  have carried := reportOrphan_carries (t := nextTag s) (s := { s with tracking.tagSeq := (s.tracking.tagSeq + 1) % 2048 })
    follower (fits_of_spare issued)
  have spare := (reportOrphan_adds (nextTag s) { s with tracking.tagSeq := (s.tracking.tagSeq + 1) % 2048 } 0 issued).1
  have mode := reportOrphan_mode (nextTag s) { s with tracking.tagSeq := (s.tracking.tagSeq + 1) % 2048 }
  rw [start]
  have carried : Carries (eventOf s 6 s.upstream (nextTag s).toNat)
      (reportOrphan (nextTag s) { s with tracking.tagSeq := (s.tracking.tagSeq + 1) % 2048 }) := carried
  have mode : (reportOrphan (nextTag s) { s with tracking.tagSeq := (s.tracking.tagSeq + 1) % 2048 }).mode = .walking :=
    mode.trans walking
  generalize reportOrphan (nextTag s) { s with tracking.tagSeq := (s.tracking.tagSeq + 1) % 2048 } = u at spare carried mode
  have begins : Spare true 0 (begun s u) ∧ Carries (eventOf s 6 s.upstream (nextTag s).toNat) (begun s u) :=
    ⟨⟨spare.awake, spare.loud, spare.room⟩, carried⟩
  have mode' : (begun s u).mode = .walking := mode
  generalize begun s u = v at begins mode'
  rw [examineZone_walking mode']
  have mode'' := (blocksResponded_mode (evaluateDrive_blocks v)).trans mode'
  exact (((evaluateDrive_adds_walking mode').trans (counts_adds_walking s.counts mode'')) 0 begins.1).2 _ rfl begins.2

end Sys2Proof.Turns


/-! PROOFS. The starts of a count, settled (R72 to R74, R81). -/

namespace Sys2Proof.Turns

open Sys2Proof Sys2Proof.Machine Sys2Proof.Safety Sys2Proof.Laws Sys2Proof.Room Sys2Proof.Fitting Sys2Proof.Counting
  Sys2Proof.Moves Sys2Proof.Zone Sys2Proof.Postures

theorem isHead_station {s t : State} (h : t.station = s.station) : t.isHead = s.isHead := by
  have e := congrArg (fun station => State.isHead { s with station := station }) h
  exact e

theorem walked_tagSeq (on : Bool) (s : State) : (walked on s).tracking.tagSeq = s.tracking.tagSeq := by
  have e := congrArg (·.tracking.tagSeq) (walked_eq on s)
  exact e

theorem walked_currentLot (on : Bool) (s : State) : (walked on s).tracking.currentLot = s.tracking.currentLot := by
  have e := congrArg (·.tracking.currentLot) (walked_eq on s)
  exact e

/-- Outside WALKING the walk takes no part in a count, and the link stands. -/
theorem walked_still {on : Bool} {s : State} (h : s.mode ≠ .walking) : walked on s = moved on s := by
  have mode : (moved on s).mode ≠ .walking := by
    rw [moved_eq]
    exact h
  unfold walked walkStep
  split
  · rfl
  · exact if_pos mode

theorem walked_link {on : Bool} {s : State} (h : s.mode ≠ .walking) : (walked on s).link = s.link := by
  rw [walked_still h, moved_link]

theorem beltState_of {m : StationState} (h : m = .running ∨ m = .draining ∨ m = .walking) : beltState m = true := by
  rcases h with rfl | rfl | rfl <;> rfl

/-- Product over an entry that is clear starts a segment in a belt state (R73). -/
theorem startTest_starts {s : State} (forming : s.formingNow = false)
    (uncovered : ∀ r ∈ s.tracking.zone, coversEntry r = false) (alone : s.arrivals = []) (belt : beltState s.mode = true) :
    startTest true s = startSegment s := by
  have due : startDue true s = true := by
    have none : s.tracking.zone.any coversEntry = false := List.any_eq_false.2 fun r hr => by
      rw [uncovered r hr]
      nofun
    unfold startDue
    rw [forming, none, alone, belt]
    rfl
  unfold startTest
  rw [if_pos due]

/-! ### The start on a clear belt -/

/-- The count with product at the entry of a clear belt. -/
theorem counted_starts {s : State} (belt : s.mode = .running ∨ s.mode = .draining ∨ s.mode = .walking)
    (zone : s.tracking.zone = []) (alone : s.arrivals = []) (free : s.tracking.mergeBound = none) :
    counted true s = startSegment (evaluateDrive (walked true s))
      ∧ (evaluateDrive (walked true s)).tracking.zone = [] ∧ (evaluateDrive (walked true s)).arrivals = []
      ∧ (evaluateDrive (walked true s)).tracking.mergeBound = none := by
  have clear : (walked true s).tracking.zone = [] := (sameUnits_nil (walked_zone true s)).1 (by rw [zone]; rfl)
  have free' : (walked true s).tracking.mergeBound = none := by
    rw [walked_mergeBound, free]
    rfl
  have expected := (walked_arrivals true s).trans alone
  obtain ⟨turns, short⟩ := turns_clear clear expected free'
  have blocks := evaluateDrive_blocks (walked true s)
  have zone' : (evaluateDrive (walked true s)).tracking.zone = [] := by rw [evaluateDrive_tracking, clear]
  have bound' : (evaluateDrive (walked true s)).tracking.mergeBound = none := by rw [evaluateDrive_tracking, free']
  have arrivals' := (Handover.blocksResponded_arrivals blocks).trans expected
  have mode' := (blocksResponded_mode blocks).trans (walked_mode true s)
  have starts := startTest_starts (clear_unforming zone' bound') (fun r hr => by rw [zone'] at hr; nomatch hr) arrivals'
    (by rw [mode']; exact beltState_of belt)
  refine ⟨?_, zone', arrivals', bound'⟩
  rw [← starts]
  unfold counted
  rw [count_eq, turns, short]
  rfl

/-- The orphan's EVENT at a count on a clear belt, whose walk may take its edge. -/
theorem counted_orphan {s : State} (profile : s.mode ≠ .quiet)
    (belt : s.mode = .running ∨ s.mode = .draining ∨ s.mode = .walking) (zone : s.tracking.zone = [])
    (alone : s.arrivals = []) (free : s.tracking.mergeBound = none) (follower : s.isHead = false)
    (quiet : s.link.silencing = false) (few : s.link.txq.length ≤ 2) :
    Carries (eventOf s 6 (evaluateDrive (walked true s)).upstream (nextTag s).toNat) (counted true s) := by
  obtain ⟨starts, zone', arrivals', bound'⟩ := counted_starts belt zone alone free
  have blocks := evaluateDrive_blocks (walked true s)
  have station := (blocksResponded_station blocks).trans (walked_station true s)
  have seq : (evaluateDrive (walked true s)).tracking.tagSeq = s.tracking.tagSeq := by
    rw [evaluateDrive_tracking, walked_tagSeq]
  rw [starts, ← nextTag_same station seq, ← eventOf_station station]
  have follower' := (isHead_station station).trans follower
  have spare : Spare true 4 s := spare_of_length profile quiet (by simp only [Bool.toNat_true]; omega)
  by_cases walking : s.mode = .walking
  · have walks := (walked_adds true s).mono (k := 2) (by rw [if_pos walking]; exact Nat.le_refl 2)
    have mode := (walked_mode true s).trans walking
    have room := ((walks.trans (evaluateDrive_adds_walking mode)).mono (k := 3) (by omega)) 1 spare
    exact startSegment_carries_walking ((blocksResponded_mode blocks).trans mode) zone' arrivals' room.1 follower'
  · have fits : Fits 6 (walked true s) := by
      refine ⟨by rw [walked_mode]; exact profile, ?_, ?_⟩
      · rw [walked_link walking]
        exact quiet
      · rw [walked_link walking]
        omega
    exact startSegment_carries zone' arrivals' (evaluateDrive_grows _ 5 fits).1 follower'

/-! ### A merge-bound start -/

/-- What a start at a full queue leaves (R81). -/
theorem startSegment_bound {s : State} (full : s.tracking.zone.length = 24) (zone : s.zoneHolds (nextTag s) = false)
    (alone : s.arrivals = []) :
    (startSegment s).tracking.mergeBound
        = some ⟨nextTag s, if s.isHead then s.tracking.currentLot else 0, if s.isHead then 0 else 7, 0⟩
      ∧ SameUnits s.tracking.zone (startSegment s).tracking.zone
      ∧ (startSegment s).tracking.tagSeq = (s.tracking.tagSeq + 1) % 2048
      ∧ (startSegment s).counters.orphans = orphansAfter s
      ∧ (startSegment s).peer.neighbours = s.peer.neighbours
      ∧ (s.isHead = false → Fits 1 s →
          Carries (eventOf s 6 s.upstream (nextTag s).toNat) (startSegment s)) := by
  have expected : s.arrivalsHold (nextTag s) = false := by
    unfold State.arrivalsHold
    rw [alone]
    rfl
  have start : startSegment s
      = { reportOrphan (nextTag s) { s with tracking.tagSeq := (s.tracking.tagSeq + 1) % 2048 } with
          tracking.mergeBound :=
            some ⟨nextTag s, if s.isHead then s.tracking.currentLot else 0, if s.isHead then 0 else 7, 0⟩ } := by
    unfold startSegment
    rw [issueTag_free zone expected]
    dsimp only
    rw [if_neg (by omega)]
  have reported := reportOrphan_frames (nextTag s) { s with tracking.tagSeq := (s.tracking.tagSeq + 1) % 2048 }
  have carries := fun (follower : s.isHead = false) (room : Fits 1 s) =>
    reportOrphan_carries (t := nextTag s) (s := { s with tracking.tagSeq := (s.tracking.tagSeq + 1) % 2048 })
      follower ⟨room.awake, room.loud, room.room⟩
  rw [start]
  generalize reportOrphan (nextTag s) { s with tracking.tagSeq := (s.tracking.tagSeq + 1) % 2048 } = u at reported carries
  have seq := congrArg (·.tracking.tagSeq) reported.1
  have orphans := congrArg (·.counters.orphans) reported.1
  have neighbours := congrArg (·.peer.neighbours) reported.1
  exact ⟨rfl, reported.2, seq, orphans, neighbours, fun follower room => carries follower room⟩

theorem zoneHolds_iff (s : State) (t : Tag) : s.zoneHolds t = true ↔ ∃ r ∈ s.tracking.zone, r.tag = t := by
  unfold State.zoneHolds
  simp

/-- A count with product at the entry, of which nothing leaves and in which nothing covers the entry, starts a merge-bound
segment at a full queue. -/
theorem counted_binds {s : State} (belt : s.mode = .running ∨ s.mode = .draining ∨ s.mode = .walking)
    (full : s.tracking.zone.length = 24) (alone : s.arrivals = []) (free : s.tracking.mergeBound = none)
    (windows : ∀ ch, ch < 6 → removingWindow s ch = false)
    (inside : ∀ r ∈ s.tracking.zone, r.tag ≠ nextTag s ∧ r.forming = false ∧ 0 ≤ r.tail ∧ r.tail + 1 < (s.zoneLength : Int)
      ∧ packingDue s (advanced r) = false) :
    ∃ v, v = examineZone (judgeZone (walked true s)) ∧ counted true s = startSegment v
      ∧ SameUnits (judgedZone s (s.tracking.zone.map advanced)) v.tracking.zone
      ∧ v.tracking.zone.length = 24 ∧ v.zoneHolds (nextTag v) = false ∧ v.arrivals = []
      ∧ v.tracking.tagSeq = s.tracking.tagSeq ∧ v.tracking.currentLot = s.tracking.currentLot
      ∧ v.station = s.station ∧ v.counters.orphans = s.counters.orphans ∧ v.mode = s.mode := by
  have closed : ∀ r ∈ s.tracking.zone, r.forming = false := fun r hr => (inside r hr).2.1
  have moves := walked_zone true s
  rw [moveRecord_closed closed] at moves
  have unformed : ∀ r ∈ (walked true s).tracking.zone, r.forming = false := by
    refine sameUnits_forall (P := fun r => r.forming = false)
      (fun x y h off => (withoutHandover_forming h).trans off) moves fun x hx => ?_
    obtain ⟨r, hr, rfl⟩ := List.mem_map.1 hx
    exact closed r hr
  have free' : (walked true s).tracking.mergeBound = none := by
    rw [walked_mergeBound, free]
    rfl
  have forming : (walked true s).formingNow = false := by
    unfold State.formingNow
    rw [free', List.any_eq_false.2 fun r hr => by rw [unformed r hr]; nofun]
    rfl
  have judges := closeAndJudge_unformed forming
  obtain ⟨n, frames⟩ := judgeZone_frames (walked true s)
  rw [judgedZone_station (walked_station true s)] at frames
  have judged : SameUnits (judgedZone s (s.tracking.zone.map advanced)) (judgeZone (walked true s)).tracking.zone :=
    sameUnits_trans (sameUnits_judgedZone s moves) frames.2
  have within : ∀ u ∈ judgedZone s (s.tracking.zone.map advanced),
      u.tag ≠ nextTag s ∧ 0 < u.tail ∧ u.forming = false ∧ u.tail < (s.zoneLength : Int) ∧ packingDue s u = false := by
    refine judgedZone_forall (P := fun u => u.tag ≠ nextTag s ∧ 0 < u.tail ∧ u.forming = false
      ∧ u.tail < (s.zoneLength : Int) ∧ packingDue s u = false) s (fun _ all => all) fun u hu => ?_
    obtain ⟨r, hr, rfl⟩ := List.mem_map.1 hu
    obtain ⟨tag, off, above, below, due⟩ := inside r hr
    have tail : (advanced r).tail = r.tail + 1 := by
      show ((r.head + 1 : Nat) : Int) - r.length = (r.head : Int) - r.length + 1
      omega
    exact ⟨tag, by omega, off, by omega, due⟩
  have expected : (judgeZone (walked true s)).arrivals = [] := by
    have e := congrArg (·.arrivals) frames.1
    exact e.trans ((walked_arrivals true s).trans alone)
  have stages := stages_still (on := true) windows (by rw [judges]; exact judged) (by rw [judges]; exact expected)
    fun u hu => (within u hu).2.2.2
  rw [judges] at stages
  have tended := tended_trans (tended_of_blocks (framesQueued_blocks frames)) (examineZone_tended (judgeZone (walked true s)))
  have units := sameUnits_trans judged (examineZone_tended (judgeZone (walked true s))).zone
  have eq : counted true s = startTest true (examineZone (judgeZone (walked true s))) := by
    unfold counted
    rw [count_eq, judges, stages, lengthDue_unformed forming]
    rfl
  refine ⟨_, rfl, ?_⟩
  generalize examineZone (judgeZone (walked true s)) = v at tended units eq
  have placed := sameUnits_forall (P := fun u => u.tag ≠ nextTag s ∧ 0 < u.tail ∧ u.forming = false)
    (fun x y h all => by
      obtain ⟨tag, -, -, tail, off⟩ := withoutHandover_fields h
      rw [tag, tail, off]
      exact all) units fun u hu => ⟨(within u hu).1, (within u hu).2.1, (within u hu).2.2.1⟩
  have seq := (congrArg (·.tagSeq) tended.tracking).trans (walked_tagSeq true s)
  have lot := (congrArg (·.currentLot) tended.tracking).trans (walked_currentLot true s)
  have bound := (congrArg (·.mergeBound) tended.tracking).trans free'
  have station := tended.station.trans (walked_station true s)
  have orphans := (congrArg (·.orphans) tended.counters).trans (congrArg (·.orphans) (walked_counters true s))
  have mode := tended.mode.trans (walked_mode true s)
  have arrivals := tended.arrivals.trans ((walked_arrivals true s).trans alone)
  have forming' : v.formingNow = false := by
    unfold State.formingNow
    rw [show v.tracking.mergeBound = none from bound,
      List.any_eq_false.2 fun r hr => by rw [(placed r hr).2.2]; nofun]
    rfl
  have length : v.tracking.zone.length = 24 := by
    rw [sameUnits_length units]
    unfold judgedZone
    rw [List.length_map, List.length_map, full]
  have absent : v.zoneHolds (nextTag v) = false := Bool.eq_false_iff.2 fun holds => by
    obtain ⟨r, hr, tag⟩ := (zoneHolds_iff v _).1 holds
    exact (placed r hr).1 (tag.trans (nextTag_same station seq))
  have starts := startTest_starts forming'
    (fun r hr => decide_eq_false (by have := (placed r hr).2.1; omega)) arrivals (by rw [mode]; exact beltState_of belt)
  exact ⟨eq.trans starts, units, length, absent, arrivals, seq, lot, station, orphans, mode⟩

theorem walked_downstream {on : Bool} {s : State} (h : s.mode ≠ .walking) :
    (walked on s).downstream = s.downstream := by
  rw [walked_still h]
  unfold State.downstream
  rw [moved_peer]

/-- The orphan's EVENT of a merge-bound start, where no frame of an examination or of a verdict is due. -/
theorem bound_start_fits {s v : State} (awake : s.mode ≠ .quiet) (eq : v = examineZone (judgeZone (walked true s)))
    (quiet : s.link.silencing = false) (few : s.link.txq.length ≤ 2) (lone : s.downstream = 0 ∨ s.mode = .walking)
    (undue : ∀ r ∈ (walked true s).tracking.zone, verdictDue (walked true s) r = false) : Fits 1 v := by
  rw [eq, judgeZone_undue undue]
  by_cases walking : s.mode = .walking
  · have mode := (walked_mode true s).trans walking
    have walks := (walked_adds true s).mono (k := 2) (by rw [if_pos walking]; exact Nat.le_refl 2)
    have spare : Spare true 4 s := spare_of_length awake quiet (by simp only [Bool.toNat_true]; omega)
    rw [examineZone_walking mode]
    exact (fits_of_spare ((walks.trans (evaluateDrive_adds_walking mode)).mono (k := 3) (by omega) 1 spare).1)
  · have still : examineZone (walked true s) = evaluateDrive (walked true s) := by
      unfold examineZone
      rw [walked_downstream walking, lone.resolve_right walking]
      simp
    have fits : Fits 2 (walked true s) := by
      refine ⟨by rw [walked_mode]; exact awake, ?_, ?_⟩
      · rw [walked_link walking]
        exact quiet
      · rw [walked_link walking]
        omega
    rw [still]
    exact (evaluateDrive_grows _ 1 fits).1

/-- Settles O38: on a clear belt the count comes down to the start, and at a full queue of which nothing leaves to a start
that binds its segment. -/
theorem segmentStarts : Obligations.SegmentStarts := by
  unfold Obligations.SegmentStarts
  refine ⟨fun s profile paid belt zone alone free small => ?first,
    fun s profile paid belt full alone free small windows inside => ?bound⟩
  case first =>
    have awake : s.mode ≠ .quiet := by rcases belt with h | h | h <;> rw [h] <;> nofun
    obtain ⟨starts, zone', arrivals', bound'⟩ := counted_starts belt zone alone free
    have orphan := counted_orphan awake belt zone alone free
    have blocks := evaluateDrive_blocks (walked true s)
    have station := (blocksResponded_station blocks).trans (walked_station true s)
    have mode := (blocksResponded_mode blocks).trans (walked_mode true s)
    have seq : (evaluateDrive (walked true s)).tracking.tagSeq = s.tracking.tagSeq := by
      rw [evaluateDrive_tracking, walked_tagSeq]
    have lot : (evaluateDrive (walked true s)).tracking.currentLot = s.tracking.currentLot := by
      rw [evaluateDrive_tracking, walked_currentLot]
    have count := (congrArg (·.counters.orphans) blocks.1).trans (congrArg (·.orphans) (walked_counters true s))
    refine ⟨_, next_counted true profile awake paid, ?_⟩
    rw [starts] at orphan ⊢
    generalize evaluateDrive (walked true s) = v at zone' arrivals' bound' orphan station mode seq lot count
    obtain ⟨t, eq, units, next, orphans, bound, stays, neighbours⟩ := startSegment_leaves zone' arrivals'
    rw [eq] at orphan ⊢
    have record : startedRecord v
        = formedRecord (nextTag s) (if s.isHead then s.tracking.currentLot else 0) (if s.isHead then 0 else 7) := by
      unfold startedRecord
      rw [nextTag_same station seq, isHead_station station, lot]
    have orphansSame : orphansAfter v = orphansAfter s := by
      unfold orphansAfter
      rw [isHead_station station, show v.counters.orphans = s.counters.orphans from count]
    have upstream : t.upstream = v.upstream := congrArg (·.upstream) neighbours
    rw [record] at units
    rw [seq, sequence_next small] at next
    refine ⟨sameUnits_trans units (settle_sameUnits t), next, orphans.trans orphansSame, bound.trans bound',
      stays.trans mode, fun follower quiet few => ?_⟩
    have carried := carries_settle (orphan follower quiet few)
    rw [← upstream] at carried
    exact carried
  case bound =>
    have awake : s.mode ≠ .quiet := by rcases belt with h | h | h <;> rw [h] <;> nofun
    obtain ⟨v, examined, starts, units, length, absent, arrivals, seq, lot, station, orphans, mode⟩ :=
      counted_binds belt full alone free windows inside
    obtain ⟨bound, kept, next, counted, neighbours, carries⟩ := startSegment_bound length absent arrivals
    have orphansSame : orphansAfter v = orphansAfter s := by
      unfold orphansAfter
      rw [isHead_station station, orphans]
    rw [nextTag_same station seq] at bound carries
    rw [isHead_station station, lot] at bound
    rw [isHead_station station] at carries
    rw [seq, sequence_next small] at next
    refine ⟨_, next_counted true profile awake paid, ?_⟩
    rw [starts]
    refine ⟨bound, sameUnits_trans units (sameUnits_trans kept (settle_sameUnits _)), next, counted.trans orphansSame,
      fun follower quiet few lone undue => ?_⟩
    have undue' : ∀ r ∈ (walked true s).tracking.zone, verdictDue (walked true s) r = false := by
      have closed : ∀ r ∈ s.tracking.zone, r.forming = false := fun r hr => (inside r hr).2.1
      have moves := walked_zone true s
      rw [moveRecord_closed closed] at moves
      refine sameUnits_forall (P := fun r => verdictDue (walked true s) r = false)
        (fun x y h off => (withoutHandover_verdictDue _ h).trans off) moves fun x hx => ?_
      obtain ⟨r, hr, rfl⟩ := List.mem_map.1 hx
      rw [verdictDue_station (walked_station true s)]
      exact undue r hr
    have room := bound_start_fits awake examined quiet few lone undue'
    have carried := carries_settle (carries follower room)
    have upstream : (startSegment v).upstream = v.upstream := congrArg (·.upstream) neighbours
    rw [eventOf_station station, ← upstream] at carried
    exact carried

end Sys2Proof.Turns


/-! PROOFS. A record alone in the zone: its offer, its pass, its removal by a window and at the zone end (R83, R88, R95,
R166). -/

namespace Sys2Proof.Alone

open Sys2Proof Sys2Proof.Machine Sys2Proof.Safety Sys2Proof.Laws Sys2Proof.Room Sys2Proof.Fitting Sys2Proof.Counting
  Sys2Proof.Moves Sys2Proof.Zone Sys2Proof.Postures Sys2Proof.Turns

variable {s : State} {j : UnitRecord}

/-! ### The one record of the zone -/

theorem findRecord_alone (h : s.tracking.zone = [j]) : s.findRecord j.tag = some j := by
  unfold State.findRecord
  rw [h, List.find?_cons_of_pos (by simp)]

theorem setHandover_alone (h : s.tracking.zone = [j]) (o : HandoverState) (n : Nat) :
    setHandover j.tag o n s = { s with tracking.zone := [{ j with handover := o, attempts := n }] } := by
  unfold setHandover updateRecord
  rw [h, List.map_cons, List.map_nil, if_pos rfl]

theorem dropRecord_alone (h : s.tracking.zone = [j]) : dropRecord j.tag s = { s with tracking.zone := [] } := by
  unfold dropRecord withoutTag
  rw [h, List.eraseP_cons_of_pos (by simp)]

theorem zoneHolds_alone (h : s.tracking.zone = [j]) : s.zoneHolds j.tag = true :=
  (zoneHolds_iff s _).2 ⟨j, by rw [h]; exact List.mem_singleton_self j, rfl⟩

theorem alone_unforming (h : s.tracking.zone = [j]) (closed : j.forming = false) (free : s.tracking.mergeBound = none) :
    s.formingNow = false := by
  unfold State.formingNow
  rw [h, free, List.any_cons, closed]
  rfl

/-! ### The examination (R88, R95) -/

theorem makeOffers_undue (h : s.tracking.zone = [j]) (undue : offerDue s j = false) : makeOffers s = s := by
  unfold makeOffers
  rw [h, List.filter_cons_of_neg (by rw [undue]; nofun)]
  rfl

theorem makePasses_undue (h : s.tracking.zone = [j]) (undue : passDue s j = false) : makePasses s = s := by
  unfold makePasses
  rw [h, List.filter_cons_of_neg (by rw [undue]; nofun)]
  rfl

/-- A record at neither place is left as it is, and the drive is evaluated. -/
theorem examineZone_undue (h : s.tracking.zone = [j]) (offer : offerDue s j = false) (pass : passDue s j = false) :
    examineZone s = evaluateDrive s := by
  unfold examineZone
  rw [makeOffers_undue h offer, makePasses_undue h pass]
  exact ite_self _

/-- Without a downstream, and in WALKING, nothing is offered or passed. -/
theorem examineZone_lone (h : s.downstream = 0 ∨ s.mode = .walking) : examineZone s = evaluateDrive s := by
  unfold examineZone
  rw [if_neg (by rcases h with h | h <;> simp [h])]

theorem examineZone_tends (profile : s.hasProfile = true) (downstream : s.downstream ≠ 0) (stays : s.mode ≠ .walking) :
    examineZone s = evaluateDrive (makePasses (makeOffers s)) := by
  unfold examineZone
  rw [if_pos (by simp [profile, downstream, stays])]

/-- The record `j` after its offer: SENDING, with no attempt behind it. -/
def offered (j : UnitRecord) : UnitRecord := { j with handover := .offered .sending, attempts := 0 }

/-- With room for it the OFFER of the record joins the transmit queue (R88). -/
theorem makeOffers_due (h : s.tracking.zone = [j]) (due : offerDue s j = true) (room : Fits 1 s) :
    makeOffers s
      = { s with
          tracking.zone := [offered j]
          link.txq := Safety.queued ⟨.offer, s.station.number, s.downstream, imageBytes (recordImage j)⟩ s.link.txq } := by
  have one : makeOffers s = offerRecord s j.tag := by
    unfold makeOffers
    rw [h, List.filter_cons_of_pos due]
    rfl
  rw [one]
  unfold offerRecord
  rw [findRecord_alone h]
  dsimp only
  rw [setHandover_alone h]
  have accepts : Accepts .offer { s with tracking.zone := [offered j] } := ⟨room.awake, room.loud, room.room, rfl⟩
  exact queueFrame_accepts (f := ⟨.offer, s.station.number, s.downstream, imageBytes (recordImage j)⟩) accepts

/-- The PASS of the record, which counts it where it was not taken (R95). -/
theorem makePasses_due (h : s.tracking.zone = [j]) (due : passDue s j = true) :
    makePasses s
      = queueFrame ⟨.pass, s.station.number, s.downstream, imageBytes (recordImage j)⟩
          { s with
            tracking.zone := [{ j with handover := .passed }]
            counters.untakenPass :=
              if j.handover = .taken then s.counters.untakenPass else min (s.counters.untakenPass + 1) 65535 } := by
  have one : makePasses s = passRecord s j.tag := by
    unfold makePasses
    rw [h, List.filter_cons_of_pos due]
    rfl
  rw [one]
  unfold passRecord
  rw [findRecord_alone h]
  dsimp only
  rw [setHandover_alone h]
  by_cases taken : j.handover = .taken
  · rw [if_pos taken, if_pos taken]
    rfl
  · rw [if_neg taken, if_neg taken]
    rfl

theorem offerDue_iff : offerDue s j = true ↔ j.handover = .localUnit ∧ s.offerPoint ≤ j.head ∧ j.head < s.zoneLength := by
  unfold offerDue
  simp [and_assoc]

theorem passDue_iff : passDue s j = true ↔ s.zoneLength ≤ j.head ∧ j.handover ≠ .passed := by
  unfold passDue
  simp

/-- The offer of a record between the offer point and the zone end, with room for it. -/
theorem examineZone_offers (h : s.tracking.zone = [j]) (profile : s.hasProfile = true) (downstream : s.downstream ≠ 0)
    (stays : s.mode ≠ .walking) (due : offerDue s j = true) (room : Fits 1 s) :
    (examineZone s).tracking.zone = [offered j]
      ∧ Carries ⟨.offer, s.station.number, s.downstream, imageBytes (recordImage j)⟩ (examineZone s) := by
  have before := (offerDue_iff.1 due).2.2
  rw [examineZone_tends profile downstream stays, makeOffers_due h due room]
  have carried : Carries ⟨.offer, s.station.number, s.downstream, imageBytes (recordImage j)⟩
      { s with
        tracking.zone := [offered j]
        link.txq := Safety.queued ⟨.offer, s.station.number, s.downstream, imageBytes (recordImage j)⟩ s.link.txq } :=
    carries_queued (.inl rfl)
  generalize hu : { s with
    tracking.zone := [offered j]
    link.txq := Safety.queued ⟨.offer, s.station.number, s.downstream, imageBytes (recordImage j)⟩ s.link.txq } = u at carried
  have zone : u.tracking.zone = [offered j] := by rw [← hu]
  have unpassed : passDue u (offered j) = false := Bool.eq_false_iff.2 fun due => by
    have past := (passDue_iff.1 due).1
    rw [zoneLength_station (show u.station = s.station by rw [← hu])] at past
    exact absurd before (Nat.not_lt.2 past)
  have awake : u.mode ≠ .quiet ∧ u.link.silencing = false := by
    rw [← hu]
    exact ⟨room.awake, room.loud⟩
  rw [makePasses_undue zone unpassed, evaluateDrive_tracking]
  exact ⟨zone, ((evaluateDrive_keeps u) awake.1 awake.2).2.2 _ rfl carried⟩

/-- The pass of a record at the zone end. -/
theorem examineZone_passes (h : s.tracking.zone = [j]) (profile : s.hasProfile = true) (downstream : s.downstream ≠ 0)
    (stays : s.mode ≠ .walking) (due : passDue s j = true) :
    (examineZone s).tracking.zone = [{ j with handover := .passed }]
      ∧ (examineZone s).counters.untakenPass
          = (if j.handover = .taken then s.counters.untakenPass else min (s.counters.untakenPass + 1) 65535)
      ∧ (Fits 1 s → Carries ⟨.pass, s.station.number, s.downstream, imageBytes (recordImage j)⟩ (examineZone s)) := by
  have past := (passDue_iff.1 due).1
  have unoffered : offerDue s j = false := Bool.eq_false_iff.2 fun due => by
    have before := (offerDue_iff.1 due).2.2
    omega
  rw [examineZone_tends profile downstream stays, makeOffers_undue h unoffered, makePasses_due h due]
  generalize hu : ({ s with
    tracking.zone := [{ j with handover := .passed }]
    counters.untakenPass :=
      if j.handover = .taken then s.counters.untakenPass else min (s.counters.untakenPass + 1) 65535 } : State) = u
  have zone : u.tracking.zone = [{ j with handover := .passed }] := by rw [← hu]
  have untaken : u.counters.untakenPass
      = (if j.handover = .taken then s.counters.untakenPass else min (s.counters.untakenPass + 1) 65535) := by rw [← hu]
  have fits : Fits 1 s → Fits 1 u := fun room => by
    rw [← hu]
    exact ⟨room.awake, room.loud, room.room⟩
  have queued := queueFrame_framesQueued ⟨.pass, s.station.number, s.downstream, imageBytes (recordImage j)⟩ u
  have counts := (congrArg (·.counters.untakenPass) (evaluateDrive_blocks
    (queueFrame ⟨.pass, s.station.number, s.downstream, imageBytes (recordImage j)⟩ u)).1).trans
    (congrArg (·.counters.untakenPass) queued.1)
  rw [evaluateDrive_tracking, queueFrame_tracking (by nofun) (by nofun)]
  refine ⟨zone, counts.trans untaken, fun room => ?_⟩
  have there := fits room
  have carried := (queueFrame_carries (f := ⟨.pass, s.station.number, s.downstream, imageBytes (recordImage j)⟩)
    there.awake there.loud (by have := there.room; omega)).1
  have loud := (queueFrame_grows ⟨.pass, s.station.number, s.downstream, imageBytes (recordImage j)⟩ u 0 there).1
  exact ((evaluateDrive_keeps _) loud.awake loud.loud).2.2 _ rfl carried

/-! ### Removal -/

/-- The removal of the one record: responses, and at most the end of a drain. -/
theorem removeRecord_alone (h : s.tracking.zone = [j]) (free : s.tracking.mergeBound = none) :
    (removeRecord j.tag s).tracking.zone = [] ∧ (removeRecord j.tag s).tracking.mergeBound = none
      ∧ (removeRecord j.tag s).arrivals = s.arrivals
      ∧ (removeRecord j.tag s).counters =
          { s.counters with
            txDrop := (removeRecord j.tag s).counters.txDrop
            startDeferred := (removeRecord j.tag s).counters.startDeferred }
      ∧ (removeRecord j.tag s).packing = { s.packing with door := (removeRecord j.tag s).packing.door }
      ∧ (removeRecord j.tag s).station = s.station := by
  have unforming : State.formingNow { s with tracking.zone := [] } = false := clear_unforming rfl free
  unfold removeRecord
  rw [dropRecord_alone h]
  obtain ⟨zone, bound, arrivals, counters, packing, station⟩ := zoneChanged_leaves s.counts unforming
  exact ⟨(sameUnits_nil zone).1 rfl, bound.trans free, arrivals, counters, packing, station⟩

/-- A window that is removing takes the record alone in the zone, or leaves the zone. -/
theorem takeWindow_alone (h : s.tracking.zone = [j]) (ch : Nat) :
    takeWindow (presentUnits s) s ch
      = if removingWindow s ch && windowRemoves (s.channelRecord ch) j then count .diverted (removeRecord j.tag s)
        else s := by
  have present : (presentUnits s).contains (j.tag, j.kind) = true := by
    unfold presentUnits
    rw [h]
    simp
  unfold takeWindow
  by_cases removing : removingWindow s ch = true
  · rw [if_pos removing, removing, Bool.true_and, h]
    by_cases takes : windowRemoves (s.channelRecord ch) j = true
    · rw [List.filter_cons_of_pos (by rw [takes, present]; rfl), if_pos takes]
      have holds := zoneHolds_alone h
      show divertRecord s j.tag = _
      unfold divertRecord
      rw [if_pos holds]
    · rw [List.filter_cons_of_neg (by rw [Bool.eq_false_iff.2 takes]; nofun), if_neg takes]
      rfl
  · rw [if_neg removing, Bool.eq_false_iff.2 removing]
    rfl

theorem takeWindow_clear (h : s.tracking.zone = []) (present : List (Tag × UnitKind)) (ch : Nat) :
    takeWindow present s ch = s := by
  unfold takeWindow
  rw [h]
  exact ite_self _

theorem foldl_takeWindow_clear (h : s.tracking.zone = []) (present : List (Tag × UnitKind)) (l : List Nat) :
    l.foldl (takeWindow present) s = s := by
  induction l with
  | nil => rfl
  | cons ch l ih => rw [List.foldl_cons, takeWindow_clear h, ih]

/-- A removing window that asks for the record alone in the zone diverts it once (R166). -/
theorem takeWindows_alone (h : s.tracking.zone = [j]) (free : s.tracking.mergeBound = none)
    (window : ∃ ch, ch < 6 ∧ (removingWindow s ch && windowRemoves (s.channelRecord ch) j) = true) :
    takeWindows (presentUnits s) (fun _ => true) s = count .diverted (removeRecord j.tag s) := by
  have fold : ∀ l : List Nat, (∃ ch ∈ l, (removingWindow s ch && windowRemoves (s.channelRecord ch) j) = true) →
      l.foldl (takeWindow (presentUnits s)) s = count .diverted (removeRecord j.tag s) := by
    intro l
    induction l with
    | nil => exact fun ⟨_, mem, _⟩ => nomatch mem
    | cons ch l ih =>
      intro some
      rw [List.foldl_cons, takeWindow_alone h]
      by_cases takes : (removingWindow s ch && windowRemoves (s.channelRecord ch) j) = true
      · rw [if_pos takes]
        have gone : (count .diverted (removeRecord j.tag s)).tracking.zone = [] := (removeRecord_alone h free).1
        generalize count .diverted (removeRecord j.tag s) = u at gone
        exact foldl_takeWindow_clear gone _ l
      · rw [if_neg takes]
        obtain ⟨ch', mem, takes'⟩ := some
        rcases List.mem_cons.1 mem with rfl | mem
        · exact absurd takes' takes
        · exact ih ⟨ch', mem, takes'⟩
  obtain ⟨ch, small, takes⟩ := window
  unfold takeWindows
  rw [List.filter_eq_self.2 fun _ _ => rfl]
  exact fold _ ⟨ch, List.mem_range.2 small, takes⟩

/-- A record whose tail is at the zone end leaves (R83). -/
theorem removeAtZoneEnd_alone (h : s.tracking.zone = [j]) (past : (s.zoneLength : Int) ≤ j.tail) :
    removeAtZoneEnd s = leaveZone s j := by
  have due : pastZoneEnd s j = true := decide_eq_true past
  unfold removeAtZoneEnd
  rw [h, List.filter_cons_of_pos due]
  rfl

/-- Outside a TRANSFER station it leaves as any record does (R84). -/
theorem leaveZone_unreported (h : s.hasRole .transfer = false) : leaveZone s j = removeRecord j.tag s := by
  unfold leaveZone
  rw [h]
  rfl

end Sys2Proof.Alone


/-! PROOFS. The count of a record alone in the zone: its moves, its verdict, and the frames of its leaving (R67, R83, R118,
R121, R166). -/

namespace Sys2Proof.Alone

open Sys2Proof Sys2Proof.Machine Sys2Proof.Safety Sys2Proof.Laws Sys2Proof.Room Sys2Proof.Fitting Sys2Proof.Counting
  Sys2Proof.Moves Sys2Proof.Zone Sys2Proof.Postures Sys2Proof.Turns

/-! ### The frames of a change that may end a drain -/

/-- The end of a drain queues one EVENT at most, where no segment forms. -/
theorem respondToReady_adds {s : State} (ready : s.mode = .ready) (unforming : s.formingNow = false) :
    Adds true 1 s (respondToState .draining s) := by
  have closed : closeForming enterRecord queueChanged id s = s := closeForming_none _ _ _ unforming
  have stay : stateAborts (discardWalk .draining s) = s := by
    have walk : discardWalk .draining s = s := if_neg fun both => nomatch both.1
    rw [walk]
    unfold stateAborts
    rw [ready]
    rfl
  have eq : respondToState .draining s = queueStatus (doorTest (defrostTest (evaluateDrive (refreshReasons s)))) := by
    unfold respondToState
    dsimp only
    rw [closed, ite_self, stay]
  have mode : (refreshReasons s).mode = .ready := (blocksResponded_mode (refreshReasons_blocks s)).trans ready
  rw [eq]
  exact ((((refreshReasons_adds s).trans (evaluateDrive_adds_none true _ (.inl ⟨by rw [mode]; nofun, by rw [mode]; nofun⟩))).trans
    (defrostTest_adds _)).trans (doorTest_adds true _)).trans (queueStatus_adds true _)

/-- A change of the counts queues one EVENT at most and keeps the state, or ends a drain. -/
theorem zoneChanged_adds (c : Nat × Nat) {s : State} (unforming : s.formingNow = false) :
    (Adds true (if s.mode = .walking then 0 else 1) s (zoneChanged c s) ∧ (zoneChanged c s).mode = s.mode)
      ∨ (s.mode = .draining ∧ Adds true 2 s (zoneChanged c s) ∧ (zoneChanged c s).mode = .ready) := by
  have blocks := queueChanged_blocks c s
  have mode := blocksResponded_mode blocks
  have adds : Adds true (if s.mode = .walking then 0 else 1) s (queueChanged c s) := by
    by_cases walking : s.mode = .walking
    · rw [if_pos walking]
      exact (counts_adds_walking c walking).trans (testEmptied_adds _)
    · rw [if_neg walking]
      exact queueChanged_adds s c
  have still : (queueChanged c s).formingNow = false := by
    unfold State.formingNow
    rw [blocksResponded_mergeBound blocks, sameUnits_forming blocks.2.1]
    exact unforming
  unfold zoneChanged
  generalize queueChanged c s = u at adds mode still
  unfold drainTest
  by_cases drains : (decide (u.mode = .draining) && drained u) = true
  · rw [if_pos drains]
    have draining : u.mode = .draining := of_decide_eq_true (Bool.and_eq_true_iff.1 drains).1
    have posture : changePosture u.mode { u with mode := .ready } = { u with mode := .ready } := by
      unfold changePosture
      rw [draining]
      rfl
    have set : Adds true 0 u { u with mode := .ready } := .of_link rfl (fun h => nomatch h)
    have responds := respondToReady_adds (s := { u with mode := .ready }) rfl still
    have ready := (respondToState_queue .draining { u with mode := .ready } nofun nofun).2.1
    unfold enterState
    rw [posture, draining]
    rw [if_neg (by rw [← mode, draining]; nofun)] at adds
    exact .inr ⟨mode.symm.trans draining, (adds.trans set).trans responds,
      ready.elim id fun both => both.2⟩
  · rw [if_neg drains]
    exact .inl ⟨adds, mode⟩

/-- What follows a removal: the drive, on a state with the same link and mode. -/
theorem drive_after_change (c : Nat × Nat) {s u : State} (unforming : s.formingNow = false)
    (link : u.link = (zoneChanged c s).link) (same : u.mode = (zoneChanged c s).mode) :
    Adds true (if s.mode = .walking then 0 else 2) s (evaluateDrive u) := by
  have on : Adds true 0 (zoneChanged c s) u := .of_link link (by rw [same]; exact id)
  rcases zoneChanged_adds c unforming with ⟨adds, mode⟩ | ⟨draining, adds, ready⟩
  · by_cases walking : s.mode = .walking
    · rw [if_pos walking] at adds ⊢
      exact (adds.trans on).trans (evaluateDrive_adds_walking (same.trans (mode.trans walking)))
    · rw [if_neg walking] at adds ⊢
      exact (adds.trans on).trans (evaluateDrive_adds true u)
  · rw [if_neg (by rw [draining]; nofun)]
    have rest : u.mode = .ready := same.trans ready
    exact (adds.trans on).trans (evaluateDrive_adds_none true u (.inl ⟨by rw [rest]; nofun, by rw [rest]; nofun⟩))

/-! ### The moves -/

/-- With the sensor OFF the walk queues no HOLD, and the records stand as they moved. -/
theorem walked_off_zone (s : State) : (walked false s).tracking.zone = s.tracking.zone.map moveRecord := by
  have zone : (moved false s).tracking.zone = s.tracking.zone.map moveRecord := by rw [moved_eq]
  have walk : (walkStep false (moved false s)).tracking = (moved false s).tracking := by
    unfold walkStep
    split
    · rfl
    split
    · rfl
    next w _ _ =>
    rw [if_neg (show ¬ walkEdge false w = true from nofun)]
    unfold queueWalkPass
    split
    · split
      · exact queueFrame_tracking (by nofun) (by nofun) _
      · rfl
    · rfl
  unfold walked
  rw [walk, zone]

theorem advanced_alone {s : State} {r : UnitRecord} (h : s.tracking.zone = [r]) (closed : r.forming = false) :
    (walked false s).tracking.zone = [advanced r] := by
  rw [walked_off_zone, h]
  show [moveRecord r] = _
  unfold moveRecord advanced
  rw [closed]
  rfl

/-! ### The verdict -/

/-- The one record after the dose unit's turn. -/
def judgedAlone (s : State) (a : UnitRecord) : UnitRecord := if verdictDue s a then judgedRecord s a else a

/-- What the dose unit's turn leaves of a record alone in the zone (R118, R121). -/
theorem judgeZone_alone {s : State} {a : UnitRecord} (h : s.tracking.zone = [a]) :
    (judgeZone s).tracking = { s.tracking with zone := [judgedAlone s a] }
      ∧ (s.counters.verdictFail < 65535 → (judgeZone s).counters.verdictFail
          = s.counters.verdictFail + (if verdictDue s a = true ∧ (verdictOutcome s a).isSome = true then 1 else 0))
      ∧ Adds true 1 s (judgeZone s)
      ∧ ∀ code k, verdictDue s a = true → verdictOutcome s a = some code → Spare true (k + 1) s →
          Carries (eventOf s 8 code a.tag.toNat) (judgeZone s) := by
  have tracking : (judgeZone s).tracking = { s.tracking with zone := [judgedAlone s a] } := by
    rw [Dose.judgeZone_tracking, h]
    rfl
  refine ⟨tracking, ?_⟩
  by_cases due : verdictDue s a = true
  · have turn : judgeZone s = reportVerdict (verdictOutcome s a) { s with tracking.zone := [judgedAlone s a] } a := by
      unfold judgeZone
      rw [h, List.filter_cons_of_pos due]
      rfl
    rw [turn]
    have written : Adds true 0 s { s with tracking.zone := [judgedAlone s a] } := .of_link rfl id
    cases outcome : verdictOutcome s a with
    | none =>
      refine ⟨fun _ => ?_, written.mono (by omega), fun code k _ some _ => nomatch some⟩
      rw [if_neg fun both => nomatch both.2]
      rfl
    | some code =>
      have counted : Adds true 0 s (count .verdictFail { s with tracking.zone := [judgedAlone s a] }) := .of_link rfl id
      have fails := congrArg (·.counters.verdictFail) (queueEvent_framesQueued .verdict code a.tag.toNat
        (count .verdictFail { s with tracking.zone := [judgedAlone s a] })).1
      refine ⟨fun low => ?_, counted.trans (queueEvent_adds true _ .verdict code a.tag.toNat), fun code' k _ same room => ?_⟩
      · rw [if_pos ⟨due, rfl⟩]
        refine Eq.trans (b := sat16 (s.counters.verdictFail + 1)) fails ?_
        exact Nat.min_eq_left low
      · obtain rfl : code = code' := Option.some.inj same
        have carried := queueEvent_carries true (n := .verdict) (d := code) (t := a.tag.toNat) (counted (k + 1) room).1
        exact carried
  · have turn : judgeZone s = s := judgeZone_undue fun r hr => by
      rw [h] at hr
      rw [List.mem_singleton.1 hr]
      exact Bool.eq_false_iff.2 due
    rw [turn]
    refine ⟨fun _ => ?_, (Adds.refl s).mono (by omega), fun code k yes _ _ => absurd yes due⟩
    rw [if_neg fun both => due both.1]
    rfl

end Sys2Proof.Alone


/-! PROOFS. The count of the records of a CONVEY zone, and of a record alone in a zone, settled (R67, R83, R88, R95,
R118, R121, R166). -/

namespace Sys2Proof.Alone

open Sys2Proof Sys2Proof.Machine Sys2Proof.Safety Sys2Proof.Laws Sys2Proof.Room Sys2Proof.Fitting Sys2Proof.Counting
  Sys2Proof.Moves Sys2Proof.Zone Sys2Proof.Postures Sys2Proof.Turns

/-! ### A CONVEY zone -/

theorem undue_convey {s : State} (convey : s.hasRole .convey = true) (u : UnitRecord) :
    verdictDue s u = false ∧ packingDue s u = false := by
  have other := fun role (ne : Role.convey ≠ role) => Dose.hasRole_other convey ne
  unfold verdictDue packingDue
  rw [other .blanch nofun, other .chill nofun, other .freeze nofun, other .bag nofun, other .transfer nofun]
  simp

/-- The count of a CONVEY zone of which nothing leaves. -/
theorem counted_convey {s : State} (convey : s.hasRole .convey = true) (alone : s.arrivals = [])
    (free : s.tracking.mergeBound = none) (windows : ∀ ch, ch < 6 → removingWindow s ch = false)
    (inside : ∀ r ∈ s.tracking.zone, r.forming = false ∧ r.tail + 1 < (s.zoneLength : Int)) :
    Tended (walked false s) (counted false s)
      ∧ SameUnits (s.tracking.zone.map advanced) (walked false s).tracking.zone := by
  have moves := walked_zone false s
  rw [moveRecord_closed fun r hr => (inside r hr).1] at moves
  have free' : (walked false s).tracking.mergeBound = none := by
    rw [walked_mergeBound, free]
    rfl
  have unformed : (walked false s).formingNow = false := by
    unfold State.formingNow
    rw [free', sameUnits_forming moves, List.any_eq_false.2]
    · rfl
    · intro u hu
      obtain ⟨r, hr, rfl⟩ := List.mem_map.1 hu
      rw [show (advanced r).forming = false from (inside r hr).1]
      nofun
  have judges : closeAndJudge (walked false s) = walked false s := by
    rw [closeAndJudge_unformed unformed]
    refine judgeZone_undue fun u _ => ?_
    rw [verdictDue_station (walked_station false s)]
    exact (undue_convey convey u).1
  have unjudged : judgedZone s (s.tracking.zone.map advanced) = s.tracking.zone.map advanced := by
    unfold judgedZone
    conv_rhs => rw [← List.map_id (s.tracking.zone.map advanced)]
    exact List.map_congr_left fun u _ => if_neg (by rw [(undue_convey convey u).1]; nofun)
  have within : ∀ u ∈ judgedZone s (s.tracking.zone.map advanced),
      u.tail < (s.zoneLength : Int) ∧ packingDue s u = false := by
    rw [unjudged]
    intro u hu
    obtain ⟨r, hr, rfl⟩ := List.mem_map.1 hu
    have tail : (advanced r).tail = r.tail + 1 := by
      show ((r.head + 1 : Nat) : Int) - r.length = (r.head : Int) - r.length + 1
      omega
    exact ⟨by rw [tail]; exact (inside r hr).2, (undue_convey convey _).2⟩
  have still := counted_still (on := false) windows (by rw [judges, unjudged]; exact moves)
    (by rw [judges]; exact (walked_arrivals false s).trans alone) within (.inl rfl)
  rw [judges] at still
  exact ⟨still, moves⟩

/-! ### A record alone in the zone -/

/-- The state after the verdict of the one record's count, as the later stages find it. -/
structure Judged (s v : State) (j : UnitRecord) : Prop where
  zone : v.tracking.zone = [j]
  free : v.tracking.mergeBound = none
  arrivals : v.arrivals = []
  station : v.station = s.station
  mode : v.mode = s.mode
  neighbours : v.peer.neighbours = s.peer.neighbours
  windows : ∀ ch, ch < 6 → removingWindow v ch = removingWindow s ch
  diverted : v.counters.diverted = s.counters.diverted
  untaken : v.counters.untakenPass = s.counters.untakenPass
  packing : v.packing = s.packing
  tagSeq : v.tracking.tagSeq = s.tracking.tagSeq
  bagsClosed : v.counters.bagsClosed = s.counters.bagsClosed

theorem judged_alone {s : State} {r : UnitRecord} (h : s.tracking.zone = [r]) (closed : r.forming = false)
    (alone : s.arrivals = []) (free : s.tracking.mergeBound = none) :
    Judged s (judgeZone (walked false s)) (judgedAlone s (advanced r))
      ∧ counted false s = handoverTurn (removeAtZoneEnd (divertAndPack (judgeZone (walked false s)))) := by
  have zone := advanced_alone h closed
  have free' : (walked false s).tracking.mergeBound = none := by
    rw [walked_mergeBound, free]
    rfl
  have forming := alone_unforming (j := advanced r) zone closed free'
  have judges := closeAndJudge_unformed forming
  have eq : counted false s = handoverTurn (removeAtZoneEnd (divertAndPack (judgeZone (walked false s)))) := by
    unfold counted
    rw [count_eq, judges, lengthDue_unformed forming]
    exact ite_self _
  obtain ⟨tracking, -⟩ := judgeZone_alone zone
  obtain ⟨n, frames⟩ := judgeZone_frames (walked false s)
  have counters := walked_counters false s
  have station := walked_station false s
  have neighbours := walked_neighbours (on := false) (s := s) fun _ _ _ => .inl rfl
  have still := fun ch (hc : ch < 6) => removingWindow_walked false s hc
  have expected := walked_arrivals false s
  have mode := walked_mode false s
  have packing := walked_packing false s
  have seq := walked_tagSeq false s
  have turned := judgeZone_turned (walked false s)
  have alike : judgedAlone (walked false s) (advanced r) = judgedAlone s (advanced r) := by
    unfold judgedAlone
    rw [verdictDue_station station, judgedRecord_station station]
  rw [alike] at tracking
  refine ⟨?_, eq⟩
  generalize walked false s = w at *
  have zone' := congrArg (·.zone) tracking
  have bound' := congrArg (·.mergeBound) tracking
  have seq' := congrArg (·.tagSeq) tracking
  have arrivals' := congrArg (·.arrivals) frames.1
  have station' := congrArg (·.station) frames.1
  have mode' := congrArg (·.mode) frames.1
  have neighbours' := congrArg (·.peer.neighbours) frames.1
  have diverted' := congrArg (·.counters.diverted) frames.1
  have untaken' := congrArg (·.counters.untakenPass) frames.1
  have bags' := congrArg (·.counters.bagsClosed) frames.1
  have packing' := congrArg (·.packing) frames.1
  exact
    { zone := zone'
      free := bound'.trans free'
      arrivals := arrivals'.trans (expected.trans alone)
      station := station'.trans station
      mode := mode'.trans mode
      neighbours := neighbours'.trans neighbours
      windows := fun ch hc => (removingWindow_turned turned hc).trans (still ch hc)
      diverted := diverted'.trans (congrArg (·.diverted) counters)
      untaken := untaken'.trans (congrArg (·.untakenPass) counters)
      packing := packing'.trans packing
      tagSeq := seq'.trans seq
      bagsClosed := bags'.trans (congrArg (·.bagsClosed) counters) }

/-- The counted failures, the room, and the EVENT VERDICT of the one record's count (R121). -/
theorem judged_verdict {s : State} {r : UnitRecord} (h : s.tracking.zone = [r]) (closed : r.forming = false) :
    (s.counters.verdictFail < 65535 → (judgeZone (walked false s)).counters.verdictFail
        = s.counters.verdictFail
          + (if verdictDue s (advanced r) = true ∧ (verdictOutcome s (advanced r)).isSome = true then 1 else 0))
      ∧ (∀ k, Spare true (k + (if s.mode = .walking then 2 else 1)) s → Spare true k (judgeZone (walked false s))
          ∧ ∀ code, verdictDue s (advanced r) = true → verdictOutcome s (advanced r) = some code →
              Carries (eventOf s 8 code r.tag.toNat) (judgeZone (walked false s))) := by
  obtain ⟨-, fails, adds, carries⟩ := judgeZone_alone (advanced_alone h closed)
  have station := walked_station false s
  have count := congrArg (·.verdictFail) (walked_counters false s)
  have before : (walked false s).counters.verdictFail = s.counters.verdictFail := count
  have walks := walked_adds false s
  have outcome : verdictOutcome (walked false s) (advanced r) = verdictOutcome s (advanced r) := by
    have e := congrArg (fun station => verdictOutcome { s with station := station } (advanced r)) station
    exact e
  rw [before, verdictDue_station station, outcome] at fails
  simp only [verdictDue_station station, outcome, eventOf_station station] at carries
  refine ⟨fails, fun k room => ?_⟩
  have first := (walks (k + 1) (room.mono (by split <;> simp))).1
  exact ⟨(adds k first).1, fun code due some => carries code k due some first⟩

/-! ### The rest of the count -/

section Rest

variable {s v : State} {j : UnitRecord} (judged : Judged s v j)

include judged

theorem packs_nothing (bag : s.hasRole .bag = false) (transfer : s.hasRole .transfer = false) :
    divertAndPack v = takeWindows (presentUnits v) (fun _ => true) v := by
  have none : packingTags v = [] := packingTags_none fun u _ => by
    rw [packingDue_station judged.station]
    unfold packingDue
    rw [bag, transfer]
    rfl
  unfold divertAndPack
  rw [none]
  rfl

omit judged in
/-- What a record's leaving makes of the rest of the count: the drive alone is evaluated. -/
theorem leaves_nothing {u : State} (zone : u.tracking.zone = []) (alone : u.arrivals = []) :
    handoverTurn (removeAtZoneEnd u) = evaluateDrive u := by
  have none : ∀ r ∈ u.tracking.zone, r.tail < (u.zoneLength : Int) := fun r hr => by
    rw [zone] at hr
    nomatch hr
  rw [removeAtZoneEnd_inside none, handoverTurn_alone alone, examineZone_clear zone]

/-- A removal keeps the frames that the count has queued. -/
theorem removal_carries {u : State} {f : Frame} (link : u.link = (removeRecord j.tag v).link)
    (same : u.mode = (removeRecord j.tag v).mode) (kind : mergingKind f.kind = false)
    (room : Spare true (if v.mode = .walking then 0 else 2) v) (h : Carries f v) : Carries f (evaluateDrive u) := by
  have dropped : dropRecord j.tag v = { v with tracking.zone := [] } := dropRecord_alone judged.zone
  have unforming : State.formingNow { v with tracking.zone := [] } = false := clear_unforming rfl judged.free
  unfold removeRecord at link same
  rw [dropped] at link same
  have adds := drive_after_change v.counts unforming link same
  have room' : Spare true (if v.mode = .walking then 0 else 2) { v with tracking.zone := [] } :=
    ⟨room.awake, room.loud, room.room⟩
  exact (adds 0 (by rw [Nat.zero_add]; exact room')).2 f kind h

/-- A removing window asks for the record `j`. -/
def Asked (v : State) (j : UnitRecord) : Prop :=
  ∃ ch, ch < 6 ∧ (removingWindow v ch && windowRemoves (v.channelRecord ch) j) = true

/-- Windows that do not ask for the one record leave the zone. -/
theorem takeWindows_unasked (none : ¬ Asked v j) : takeWindows (presentUnits v) (fun _ => true) v = v := by
  have fold : ∀ l : List Nat, (∀ ch ∈ l, ch < 6) → l.foldl (takeWindow (presentUnits v)) v = v := by
    intro l
    induction l with
    | nil => exact fun _ => rfl
    | cons ch l ih =>
      intro small
      have passes := fun both => none ⟨ch, small ch List.mem_cons_self, both⟩
      rw [List.foldl_cons, takeWindow_alone judged.zone, if_neg passes]
      exact ih fun c hc => small c (List.mem_cons_of_mem _ hc)
  exact fold _ fun ch hc => List.mem_range.1 (List.mem_filter.1 hc).1

/-- The rest of the one record's count: a window takes it, or it leaves at the zone end, or it stays and is examined. -/
theorem rest_alone (bag : s.hasRole .bag = false) (transfer : s.hasRole .transfer = false) :
    (Asked v j
        ∧ handoverTurn (removeAtZoneEnd (divertAndPack v)) = evaluateDrive (count .diverted (removeRecord j.tag v)))
      ∨ (¬ Asked v j ∧ (s.zoneLength : Int) ≤ j.tail
        ∧ handoverTurn (removeAtZoneEnd (divertAndPack v)) = evaluateDrive (removeRecord j.tag v))
      ∨ (¬ Asked v j ∧ j.tail < (s.zoneLength : Int)
        ∧ handoverTurn (removeAtZoneEnd (divertAndPack v)) = examineZone v) := by
  obtain ⟨zone, -, arrivals, -⟩ := removeRecord_alone judged.zone judged.free
  have length := zoneLength_station judged.station
  rw [packs_nothing judged bag transfer]
  by_cases asked : Asked v j
  · refine .inl ⟨asked, ?_⟩
    rw [takeWindows_alone judged.zone judged.free asked]
    generalize removeRecord j.tag v = u at zone arrivals
    exact leaves_nothing (u := count .diverted u) zone (arrivals.trans judged.arrivals)
  · rw [takeWindows_unasked judged asked]
    by_cases past : (s.zoneLength : Int) ≤ j.tail
    · have role : v.hasRole .transfer = false := by rw [hasRole_station judged.station, transfer]
      refine .inr (.inl ⟨asked, past, ?_⟩)
      rw [removeAtZoneEnd_alone judged.zone (by rw [length]; exact past), leaveZone_unreported role,
        handoverTurn_alone (arrivals.trans judged.arrivals), examineZone_clear zone]
    · have within : ∀ u ∈ v.tracking.zone, u.tail < (v.zoneLength : Int) := fun u hu => by
        rw [judged.zone] at hu
        rw [List.mem_singleton.1 hu, length]
        omega
      refine .inr (.inr ⟨asked, by omega, ?_⟩)
      rw [removeAtZoneEnd_inside within, handoverTurn_alone judged.arrivals]

/-- An examination keeps the frames that the count has queued. -/
theorem examination_carries {f : Frame} (kind : mergingKind f.kind = false)
    (room : Spare true (if v.mode = .walking then 0 else 2) v) (h : Carries f v) : Carries f (examineZone v) := by
  by_cases walking : v.mode = .walking
  · rw [examineZone_walking walking]
    exact ((evaluateDrive_adds_walking walking) 0 (room.mono (Nat.zero_le _))).2 f kind h
  · rw [if_neg walking] at room
    have grows := examineZone_grows v
    rw [judged.zone] at grows
    exact (grows 0 (fits_of_spare room)).2 f kind h

end Rest

end Sys2Proof.Alone


/-! PROOFS. The counts that move the records, settled (R67, R83, R88, R95, R118, R121, R166). -/

namespace Sys2Proof.Alone

open Sys2Proof Sys2Proof.Machine Sys2Proof.Safety Sys2Proof.Laws Sys2Proof.Room Sys2Proof.Fitting Sys2Proof.Counting
  Sys2Proof.Moves Sys2Proof.Zone Sys2Proof.Postures Sys2Proof.Turns

/-- A settled removal of the one record, whether a window took it or it left at the zone end. -/
structure Gone (v e : State) (n : Nat) : Prop where
  zone : e.tracking.zone = []
  diverted : e.counters.diverted = n
  verdictFail : e.counters.verdictFail = v.counters.verdictFail

theorem evaluateDrive_gone {v u : State} {n : Nat} (zone : u.tracking.zone = []) (diverted : u.counters.diverted = n)
    (verdictFail : u.counters.verdictFail = v.counters.verdictFail) : Gone v (evaluateDrive u) n := by
  have blocks := evaluateDrive_blocks u
  have diverted' := congrArg (·.counters.diverted) blocks.1
  have verdictFail' := congrArg (·.counters.verdictFail) blocks.1
  exact ⟨by rw [evaluateDrive_tracking, zone], diverted'.trans diverted, verdictFail'.trans verdictFail⟩

section Rest

variable {s v : State} {j : UnitRecord} (judged : Judged s v j)

include judged

theorem diverted_gone : Gone v (evaluateDrive (count .diverted (removeRecord j.tag v))) (min (s.counters.diverted + 1) 65535) := by
  obtain ⟨zone, -, -, counters, -⟩ := removeRecord_alone judged.zone judged.free
  have diverted := (congrArg (·.diverted) counters).trans judged.diverted
  have verdictFail := congrArg (·.verdictFail) counters
  generalize removeRecord j.tag v = u at zone diverted verdictFail
  exact evaluateDrive_gone (u := count .diverted u) zone (congrArg (fun n => min (n + 1) 65535) diverted) verdictFail

theorem left_gone : Gone v (evaluateDrive (removeRecord j.tag v)) s.counters.diverted := by
  obtain ⟨zone, -, -, counters, -⟩ := removeRecord_alone judged.zone judged.free
  exact evaluateDrive_gone zone ((congrArg (·.diverted) counters).trans judged.diverted) (congrArg (·.verdictFail) counters)

/-- The rest of a count keeps the verdict's count and the frames queued by it. -/
theorem rest_keeps (bag : s.hasRole .bag = false) (transfer : s.hasRole .transfer = false) :
    (handoverTurn (removeAtZoneEnd (divertAndPack v))).counters.verdictFail = v.counters.verdictFail
      ∧ ∀ f, mergingKind f.kind = false → Spare true (if v.mode = .walking then 0 else 2) v → Carries f v →
          Carries f (handoverTurn (removeAtZoneEnd (divertAndPack v))) := by
  rcases rest_alone judged bag transfer with ⟨-, eq⟩ | ⟨-, -, eq⟩ | ⟨-, -, eq⟩
  · refine ⟨by rw [eq]; exact (diverted_gone judged).verdictFail, fun f kind room h => ?_⟩
    have carried := fun u link same => removal_carries judged (u := u) link same kind room h
    rw [eq]
    generalize removeRecord j.tag v = u at carried
    exact carried (count .diverted u) rfl rfl
  · refine ⟨by rw [eq]; exact (left_gone judged).verdictFail, fun f kind room h => ?_⟩
    rw [eq]
    exact removal_carries judged rfl rfl kind room h
  · have fails := congrArg (·.verdictFail) (examineZone_tended v).counters
    refine ⟨by rw [eq]; exact fails, fun f kind room h => ?_⟩
    rw [eq]
    exact examination_carries judged kind room h

end Rest

/-- The windows' question of the one record, as it stands after its verdict (R166). -/
theorem asked_iff {s v : State} {j : UnitRecord} (judged : Judged s v j) :
    Asked v j ↔ ∃ ch, ch < 6 ∧ removingWindow s ch = true ∧ (s.channelRecord ch).mask.getLsbD j.disposition = true
      ∧ j.tail = (s.channelRecord ch).b ∧ (s.channelRecord ch).a < (s.channelRecord ch).b := by
  unfold Asked
  refine exists_congr fun ch => and_congr_right fun hc => ?_
  rw [judged.windows ch hc, channelRecord_station judged.station]
  unfold windowRemoves
  simp only [Bool.and_eq_true, decide_eq_true_eq, and_assoc]

/-- The one record that stays, by its place (R88, R95). -/
theorem examineZone_rows {s v : State} {j : UnitRecord} (judged : Judged s v j) (profile : s.hasProfile = true)
    (downstream : s.downstream ≠ 0) (stays : s.mode ≠ .walking) :
    (s.offerPoint ≤ j.head → j.head < s.zoneLength → j.handover = .localUnit → Fits 1 v →
        (examineZone v).tracking.zone = [offered j]
          ∧ Carries ⟨.offer, s.station.number, s.downstream, imageBytes (recordImage j)⟩ (examineZone v))
      ∧ (s.zoneLength ≤ j.head → j.handover ≠ .passed →
          (examineZone v).tracking.zone = [{ j with handover := .passed }]
          ∧ (examineZone v).counters.untakenPass
              = (if j.handover = .taken then s.counters.untakenPass else min (s.counters.untakenPass + 1) 65535)
          ∧ (Fits 1 v →
              Carries ⟨.pass, s.station.number, s.downstream, imageBytes (recordImage j)⟩ (examineZone v)))
      ∧ ((j.head < s.zoneLength ∧ (j.head < s.offerPoint ∨ j.handover ≠ .localUnit))
          ∨ (s.zoneLength ≤ j.head ∧ j.handover = .passed) → (examineZone v).tracking.zone = [j]) := by
  have profile' : v.hasProfile = true := by
    unfold State.hasProfile
    rw [judged.station]
    exact profile
  have down : v.downstream = s.downstream := congrArg (·.downstream) judged.neighbours
  have downstream' : v.downstream ≠ 0 := by rw [down]; exact downstream
  have stays' : v.mode ≠ .walking := by rw [judged.mode]; exact stays
  have length := zoneLength_station judged.station
  have point : v.offerPoint = s.offerPoint := by
    have e := congrArg (fun station => State.offerPoint { s with station := station }) judged.station
    exact e
  have number := congrArg (·.number) judged.station
  refine ⟨fun reached before fresh room => ?_, fun past unpassed => ?_, fun neither => ?_⟩
  · have due : offerDue v j = true := offerDue_iff.2 ⟨fresh, by rw [point]; exact reached, by rw [length]; exact before⟩
    have offers := examineZone_offers judged.zone profile' downstream' stays' due room
    rw [number, down] at offers
    exact offers
  · have due : passDue v j = true := passDue_iff.2 ⟨by rw [length]; exact past, unpassed⟩
    have passes := examineZone_passes judged.zone profile' downstream' stays' due
    rw [number, down, judged.untaken] at passes
    exact passes
  · have unoffered : offerDue v j = false := Bool.eq_false_iff.2 fun due => by
      obtain ⟨fresh, reached, before⟩ := offerDue_iff.1 due
      rw [point] at reached
      rw [length] at before
      rcases neither with ⟨-, short | other⟩ | ⟨past, -⟩
      · omega
      · exact other fresh
      · omega
    have unpassed : passDue v j = false := Bool.eq_false_iff.2 fun due => by
      obtain ⟨past, fresh⟩ := passDue_iff.1 due
      rw [length] at past
      rcases neither with ⟨before, -⟩ | ⟨-, passed⟩
      · omega
      · exact fresh passed
    rw [examineZone_undue judged.zone unoffered unpassed, evaluateDrive_tracking, judged.zone]

/-- Settles O37: a CONVEY zone by a count of which nothing leaves, and a record alone in a zone by its verdict and the
three ways in which its count goes on. -/
theorem countMovesRecords : Obligations.CountMovesRecords := by
  unfold Obligations.CountMovesRecords
  refine ⟨fun s convey loud paid alone free windows inside => ?convey,
    fun s r j profile loud bag transfer paid alone free zone closed hj => ?one⟩
  case convey =>
    obtain ⟨tended, moves⟩ := counted_convey convey alone free windows fun r hr => ⟨(inside r hr).1, (inside r hr).2.1⟩
    have bound := congrArg (·.mergeBound) tended.tracking
    have bound' := walked_mergeBound false s
    rw [free] at bound'
    exact ⟨_, next_counted false (Changes.hasProfile_of_hasRole convey) loud paid,
      tended.arrivals.trans ((walked_arrivals false s).trans alone), bound.trans bound', sameUnits_trans moves tended.zone⟩
  case one =>
    obtain ⟨judged, eq⟩ := judged_alone zone closed alone free
    obtain ⟨fails, verdict⟩ := judged_verdict zone closed
    have same : judgedAlone s (advanced r) = j := hj.symm
    rw [same] at judged
    have row := next_counted false profile loud paid
    rw [eq] at row
    generalize judgeZone (walked false s) = v at judged fails verdict row
    obtain ⟨keeps, carries⟩ := rest_keeps judged bag transfer
    have room : s.link.silencing = false → s.link.txq.length ≤ 3 → Spare true (if v.mode = .walking then 0 else 2) v
        ∧ ∀ code, verdictDue s (advanced r) = true → verdictOutcome s (advanced r) = some code →
            Carries (eventOf s 8 code r.tag.toNat) v := by
      intro quiet few
      refine verdict _ (spare_of_length loud quiet ?_)
      rw [judged.mode, Bool.toNat_true]
      split <;> omega
    refine ⟨_, row, fun low => keeps.trans (fails low), fun code due some quiet few => ?_, fun window => ?_, fun windows => ?_⟩
    · obtain ⟨spare, carried⟩ := room quiet few
      exact carries_settle (carries _ rfl spare (carried code due some))
    · rcases rest_alone judged bag transfer with ⟨-, rest⟩ | ⟨none, -⟩ | ⟨none, -⟩
      · have gone := diverted_gone judged
        rw [settle_tracking, settle_counters, rest]
        exact ⟨gone.zone, gone.diverted⟩
      · exact absurd ((asked_iff judged).2 window) none
      · exact absurd ((asked_iff judged).2 window) none
    · have unasked : ¬ Asked v j := fun asked => by
        obtain ⟨ch, hc, removing, -⟩ := (asked_iff judged).1 asked
        rw [windows ch hc] at removing
        nomatch removing
      rw [settle_tracking, settle_counters]
      rcases rest_alone judged bag transfer with ⟨asked, -⟩ | ⟨-, past, rest⟩ | ⟨-, inside, rest⟩
      · exact absurd asked unasked
      · have gone := left_gone judged
        rw [rest]
        exact ⟨gone.diverted, fun _ => gone.zone, fun before => absurd past (by omega), fun before => absurd past (by omega)⟩
      · have counts := (congrArg (·.diverted) (examineZone_tended v).counters).trans judged.diverted
        rw [rest]
        refine ⟨counts, fun past => absurd inside (by omega), fun _ lone => ?_, fun _ downstream stays => ?_⟩
        · have lone' : v.downstream = 0 ∨ v.mode = .walking := by
            rw [judged.mode, show v.downstream = s.downstream from congrArg (·.downstream) judged.neighbours]
            exact lone
          rw [examineZone_lone lone', evaluateDrive_tracking, judged.zone]
        · obtain ⟨offers, passes, rests⟩ := examineZone_rows judged profile downstream stays
          have fits : s.link.silencing = false → s.link.txq.length ≤ 3 → Fits 1 v := fun quiet few => by
            have spare := (room quiet few).1
            rw [if_neg (by rw [judged.mode]; exact stays)] at spare
            exact (fits_of_spare spare).mono (by omega)
          refine ⟨fun reached before fresh quiet few => ?_, fun past unpassed => ?_, rests⟩
          · obtain ⟨after, carried⟩ := offers reached before fresh (fits quiet few)
            exact ⟨after, carries_settle carried⟩
          · obtain ⟨after, counted, carried⟩ := passes past unpassed
            exact ⟨after, counted, fun quiet few => carries_settle (carried (fits quiet few))⟩

end Sys2Proof.Alone


/-! PROOFS. The door cycle's completion, and the bags and units of a TRANSFER station (R179 to R183). -/

namespace Sys2Proof.Doors

open Sys2Proof Sys2Proof.Machine Sys2Proof.Safety Sys2Proof.Laws Sys2Proof.Room Sys2Proof.Fitting Sys2Proof.Counting
  Sys2Proof.Moves Sys2Proof.Zone Sys2Proof.Postures Sys2Proof.Turns Sys2Proof.Alone

/-! ### The completion (R183) -/

theorem limiterAnswer_lastStop {window stop t : Nat} {l l' : Limiter} :
    (limiterAnswer window stop t l = .granted l' → l'.lastStop = l.lastStop)
      ∧ ∀ failing length, limiterAnswer window stop t l = .deferred l' failing length → l'.lastStop = l.lastStop := by
  unfold limiterAnswer
  dsimp only
  split
  · exact ⟨fun h => by cases h; rfl, fun _ _ h => absurd h nofun⟩
  · exact ⟨fun h => absurd h nofun, fun _ _ h => by cases h; rfl⟩

/-- A request of the door leaves the time of its last close. -/
theorem requestStart_lastStop (s : State) :
    (requestStart .door s).1.flow.doorLimiter.lastStop = s.flow.doorLimiter.lastStop := by
  unfold requestStart
  split
  · rfl
  · cases answer : limiterAnswer (limiterWindow s .door) (limiterStop s .door) s.now (limiterOf s .door) with
    | granted l => exact limiterAnswer_lastStop.1 answer
    | deferred l failing length =>
      have flow := framesQueued_flow (queueEvent_framesQueued .startDeferred (256 * limiterCode .door + failing)
        (sat16 (ceilDiv length 100)) (count .startDeferred (setLimiter .door l s)))
      have same := congrArg (·.doorLimiter.lastStop) flow
      exact same.trans (limiterAnswer_lastStop.2 _ _ answer)

theorem doorTest_lastStop (s : State) : (doorTest s).flow.doorLimiter.lastStop = s.flow.doorLimiter.lastStop := by
  have asked := requestStart_lastStop s
  unfold doorTest
  split
  · split
    · next s1 h =>
      rw [h] at asked
      exact asked
    · next s1 h =>
      rw [h] at asked
      exact asked
  · rfl

theorem doorTest_idle {s : State} (none : s.packing.doorList = []) : doorTest s = s := by
  unfold doorTest
  rw [none]
  simp

/-- The stored carrier leaves the list, is counted and reported, and the close is recorded. -/
def stored (c : DoorEntry) (rest : List DoorEntry) (s : State) : State :=
  { queueEvent .carrierStored c.number c.disposition (count .carriersStored { s with packing.doorList := rest }) with
    flow.doorLimiter.lastStop := some s.now
    packing.door := .idle }

theorem storeCarrier_eq (c : DoorEntry) (rest : List DoorEntry) (s : State) :
    storeCarrier c rest s = evaluateDrive (refreshReasons (stored c rest s)) := by
  have now : (queueEvent .carrierStored c.number c.disposition
      (count .carriersStored { s with packing.doorList := rest })).now = s.now := by
    have e := congrArg (·.now) (queueEvent_framesQueued .carrierStored c.number c.disposition
      (count .carriersStored { s with packing.doorList := rest })).1
    exact e
  unfold storeCarrier stored
  dsimp only
  rw [now]

/-- What storing writes, before the blocks respond. -/
theorem stored_blocks (c : DoorEntry) (rest : List DoorEntry) (s : State) :
    BlocksResponded
      { s with packing.doorList := rest, counters.carriersStored := min (s.counters.carriersStored + 1) 65535 }
      (stored c rest s) := by
  have queued := queueEvent_framesQueued .carrierStored c.number c.disposition
    (count .carriersStored { s with packing.doorList := rest })
  refine ⟨?_, queued.2, lineKept_refl ?_⟩
  · have e := congrArg (fun u : State => { u with
      flow.doorLimiter.lastStop := some s.now
      packing.door := .idle }) (framesQueued_blocks queued).1
    exact e
  · have e := congrArg (·.link.line) queued.1
    exact e

theorem storeCarrier_flow (c : DoorEntry) (rest : List DoorEntry) (s : State) :
    FlowResponded (stored c rest s) (storeCarrier c rest s) := by
  rw [storeCarrier_eq]
  exact flowResponded_trans (setReasons_flow _ _) (evaluateDrive_flow _)

theorem storeCarrier_blocks (c : DoorEntry) (rest : List DoorEntry) (s : State) :
    BlocksResponded
      { s with packing.doorList := rest, counters.carriersStored := min (s.counters.carriersStored + 1) 65535 }
      (storeCarrier c rest s) := by
  rw [storeCarrier_eq]
  exact blocksResponded_trans (stored_blocks c rest s)
    (blocksResponded_trans (refreshReasons_blocks _) (evaluateDrive_blocks _))

/-- What storing leaves of the door's limiter and of the packing lists. -/
theorem storeCarrier_leaves (c : DoorEntry) (rest : List DoorEntry) (s : State) :
    (storeCarrier c rest s).flow.doorLimiter.lastStop = some s.now
      ∧ (storeCarrier c rest s).packing = { s.packing with doorList := rest, door := .idle } := by
  have flow := (storeCarrier_flow c rest s).1
  have stop := congrArg (·.flow.doorLimiter.lastStop) flow
  have packing := congrArg (·.packing) flow
  have queued := congrArg (·.packing) (queueEvent_framesQueued .carrierStored c.number c.disposition
    (count .carriersStored { s with packing.doorList := rest })).1
  have written : (stored c rest s).packing = { s.packing with doorList := rest, door := .idle } := by
    have e := congrArg (fun p : Packing => { p with door := .idle }) queued
    exact e
  exact ⟨stop, packing.trans written⟩

/-- The EVENT CARRIER_STORED, where the queue has room for three events. -/
theorem stored_carries {c : DoorEntry} {rest : List DoorEntry} {s : State} (room : Spare true 3 s) :
    Carries (eventOf s 14 c.number c.disposition) (doorTest (storeCarrier c rest s)) := by
  have written : Spare true 3 (count .carriersStored { s with packing.doorList := rest }) :=
    ⟨room.awake, room.loud, room.room⟩
  have carried := queueEvent_carries true (n := .carrierStored) (d := c.number) (t := c.disposition) written
  have adds := (queueEvent_adds true (count .carriersStored { s with packing.doorList := rest }) .carrierStored c.number
    c.disposition 2 written).1
  have there : Spare true 2 (stored c rest s) ∧ Carries (eventOf s 14 c.number c.disposition) (stored c rest s) :=
    ⟨⟨adds.awake, adds.loud, adds.room⟩, carried⟩
  rw [storeCarrier_eq]
  generalize stored c rest s = u at there
  have responds := ((refreshReasons_adds u).trans (evaluateDrive_adds true _)).trans (doorTest_adds true _)
  exact (responds 0 there.1).2 _ rfl there.2

/-- DOOR_CYCLE_COMPLETION, at its time and before it. -/
theorem exec_doorCycleCompletion {s : State} {e : Nat} {c : DoorEntry} {rest : List DoorEntry}
    (profile : s.hasProfile = true) (loud : s.mode ≠ .quiet) (door : s.packing.door = .opened e)
    (list : s.packing.doorList = c :: rest) :
    exec .doorCycleCompletion s = if e ≤ s.now then done (doorTest (storeCarrier c rest s)) else .next s := by
  have acts : s.acts = true := Bool.and_eq_true_iff.2 ⟨profile, decide_eq_true loud⟩
  show execDoorCycleCompletion s = _
  unfold execDoorCycleCompletion
  rw [door, list]
  dsimp only
  rw [acts, Bool.true_and]
  by_cases due : e ≤ s.now
  · rw [if_pos due, if_pos (decide_eq_true due)]
  · rw [if_neg due, if_neg (by rw [decide_eq_false due]; nofun)]

/-! ### Carriers (R180, R181) -/

/-- A carrier's close leaves the door list longer, and the blocks respond. -/
theorem closeCarrier_blocks (c : Carrier) (s : State) :
    BlocksResponded
      { s with packing.openCarrier := none, packing.doorList := s.packing.doorList ++ [⟨c.number, c.disposition⟩] }
      (closeCarrier c s) :=
  blocksResponded_trans (giveEvent_blocks .carrierClosed _) (blocksResponded_trans (refreshReasons_blocks _)
    (blocksResponded_trans (evaluateDrive_blocks _) (doorTest_blocks _)))

theorem blocksResponded_packing {s t : State} (h : BlocksResponded s t) :
    t.packing = { s.packing with door := t.packing.door } := by
  have e := congrArg (·.packing) h.1
  exact e

theorem carrierSize_station {s t : State} (h : t.station = s.station) : t.carrierSize = s.carrierSize := by
  have e := congrArg (fun station => State.carrierSize { s with station := station }) h
  exact e

/-- A bag joins the open carrier of its lot, or the one that opens for it. -/
theorem carryBag_joins {s : State} {u : UnitRecord} {c : Carrier}
    (carrier : (s.packing.openCarrier = some c ∧ c.lot = u.lot)
      ∨ (s.packing.openCarrier = none ∧ c = ⟨s.packing.nextCarrier, u.lot, 0, 0⟩)) :
    SameUnits s.tracking.zone (carryBag u s).tracking.zone ∧ (carryBag u s).arrivals = s.arrivals
      ∧ (carryBag u s).packing.nextCarrier
          = (if s.packing.openCarrier = none then (s.packing.nextCarrier + 1) % 65536 else s.packing.nextCarrier)
      ∧ (c.count + 1 < s.carrierSize →
          (carryBag u s).packing.openCarrier
              = some { c with count := c.count + 1, disposition := max u.disposition c.disposition }
            ∧ (carryBag u s).packing.doorList = s.packing.doorList)
      ∧ (s.carrierSize ≤ c.count + 1 →
          (carryBag u s).packing.openCarrier = none
            ∧ (carryBag u s).packing.doorList
                = s.packing.doorList ++ [⟨c.number, max u.disposition c.disposition⟩]) := by
  obtain ⟨n, opens, next⟩ : ∃ n, openCarrierFor u.lot (closeOtherCarrier u.lot s)
        = (c, { s with packing.nextCarrier := n })
      ∧ n = (if s.packing.openCarrier = none then (s.packing.nextCarrier + 1) % 65536 else s.packing.nextCarrier) := by
    rcases carrier with ⟨some, lot⟩ | ⟨none, rfl⟩
    · refine ⟨s.packing.nextCarrier, ?_, by rw [some]; rfl⟩
      have same : closeOtherCarrier u.lot s = s := by
        unfold closeOtherCarrier
        rw [some]
        exact if_pos lot
      unfold openCarrierFor
      rw [same, some]
    · refine ⟨(s.packing.nextCarrier + 1) % 65536, ?_, by rw [none]; rfl⟩
      have same : closeOtherCarrier u.lot s = s := by
        unfold closeOtherCarrier
        rw [none]
      unfold openCarrierFor
      rw [same, none]
  unfold carryBag
  rw [opens]
  dsimp only
  rw [← next]
  have size : State.carrierSize { s with packing.nextCarrier := n } = s.carrierSize := rfl
  by_cases full : s.carrierSize ≤ c.count + 1
  · rw [if_pos (by rw [size]; exact full)]
    have blocks := closeCarrier_blocks { c with count := c.count + 1, disposition := raiseTo u.disposition c.disposition }
      { s with packing.nextCarrier := n }
    have packing := blocksResponded_packing blocks
    have arrivals := Handover.blocksResponded_arrivals blocks
    generalize closeCarrier _ _ = t at blocks packing arrivals
    rw [packing]
    exact ⟨blocks.2.1, arrivals, rfl, fun short => absurd full (by omega), fun _ => ⟨rfl, rfl⟩⟩
  · rw [if_neg (by rw [size]; exact full)]
    exact ⟨sameUnits_refl _, rfl, rfl, fun _ => ⟨rfl, rfl⟩, fun no => absurd no full⟩

/-- A bag of another lot closes the open carrier SHORT and opens its own. -/
theorem carryBag_other {s : State} {u : UnitRecord} {c : Carrier} (some : s.packing.openCarrier = some c)
    (lot : c.lot ≠ u.lot) :
    SameUnits s.tracking.zone (carryBag u s).tracking.zone ∧ (carryBag u s).arrivals = s.arrivals
      ∧ (1 < s.carrierSize →
          (carryBag u s).packing.openCarrier = .some ⟨s.packing.nextCarrier, u.lot, 1, u.disposition⟩
          ∧ (carryBag u s).packing.nextCarrier = (s.packing.nextCarrier + 1) % 65536
          ∧ (carryBag u s).packing.doorList = s.packing.doorList ++ [⟨c.number, max 2 c.disposition⟩]) := by
  have closes : closeOtherCarrier u.lot s = closeCarrier { c with disposition := raiseTo 2 c.disposition } s := by
    unfold closeOtherCarrier
    rw [some]
    exact if_neg lot
  have blocks := closeCarrier_blocks { c with disposition := raiseTo 2 c.disposition } s
  have station := blocksResponded_station blocks
  have size : (closeCarrier { c with disposition := raiseTo 2 c.disposition } s).carrierSize = s.carrierSize :=
    carrierSize_station station
  have packing := blocksResponded_packing blocks
  have arrivals := Handover.blocksResponded_arrivals blocks
  unfold carryBag
  rw [closes]
  generalize closeCarrier { c with disposition := raiseTo 2 c.disposition } s = v at blocks packing arrivals size
  have opens : openCarrierFor u.lot v
      = (⟨s.packing.nextCarrier, u.lot, 0, 0⟩, { v with packing.nextCarrier := (s.packing.nextCarrier + 1) % 65536 }) := by
    have none : v.packing.openCarrier = .none := by rw [packing]
    have next : v.packing.nextCarrier = s.packing.nextCarrier := by rw [packing]
    unfold openCarrierFor
    rw [none, ← next]
  rw [opens]
  dsimp only
  have size' : State.carrierSize { v with packing.nextCarrier := (s.packing.nextCarrier + 1) % 65536 } = s.carrierSize := size
  have list : v.packing.doorList = s.packing.doorList ++ [⟨c.number, max 2 c.disposition⟩] := by
    rw [packing]
    rfl
  by_cases full : s.carrierSize ≤ 0 + 1
  · rw [if_pos (by rw [size']; exact full)]
    have again := closeCarrier_blocks ⟨s.packing.nextCarrier, u.lot, 0 + 1, raiseTo u.disposition 0⟩
      { v with packing.nextCarrier := (s.packing.nextCarrier + 1) % 65536 }
    have arrivals' := Handover.blocksResponded_arrivals again
    exact ⟨sameUnits_trans blocks.2.1 again.2.1, arrivals'.trans arrivals, fun more => absurd full (by omega)⟩
  · rw [if_neg (by rw [size']; exact full)]
    refine ⟨blocks.2.1, arrivals, fun _ => ⟨?_, rfl, list⟩⟩
    show Option.some _ = _
    rw [show raiseTo u.disposition 0 = u.disposition from Nat.max_zero _]

end Sys2Proof.Doors


/-! PROOFS. The counts of a TRANSFER station, and its door cycle, settled (R179 to R183). -/

namespace Sys2Proof.Doors

open Sys2Proof Sys2Proof.Machine Sys2Proof.Safety Sys2Proof.Laws Sys2Proof.Room Sys2Proof.Fitting Sys2Proof.Counting
  Sys2Proof.Moves Sys2Proof.Zone Sys2Proof.Postures Sys2Proof.Turns Sys2Proof.Alone

/-! ### The count of a station that judges nothing -/

/-- A packing station judges no record (R118). -/
theorem undue_packing {s : State} {role : Role} (h : s.hasRole role = true) (packs : role = .bag ∨ role = .transfer)
    (u : UnitRecord) : verdictDue s u = false := by
  have other := fun role' (ne : role ≠ role') => Dose.hasRole_other h ne
  have ne : role ≠ .blanch ∧ role ≠ .chill ∧ role ≠ .freeze := by
    rcases packs with rfl | rfl <;> exact ⟨nofun, nofun, nofun⟩
  unfold verdictDue
  rw [other .blanch ne.1, other .chill ne.2.1, other .freeze ne.2.2]
  simp

variable {s : State} {u : UnitRecord}

/-- The one record's count at a packing station, up to the packing unit's turn. -/
theorem judged_packing {role : Role} (h : s.hasRole role = true) (packs : role = .bag ∨ role = .transfer)
    (zone : s.tracking.zone = [u]) (closed : u.forming = false) (alone : s.arrivals = [])
    (free : s.tracking.mergeBound = none) :
    Judged s (walked false s) (advanced u)
      ∧ counted false s = handoverTurn (removeAtZoneEnd (divertAndPack (walked false s))) := by
  obtain ⟨judged, eq⟩ := judged_alone zone closed alone free
  have undue : judgeZone (walked false s) = walked false s := judgeZone_undue fun r _ => by
    rw [verdictDue_station (walked_station false s)]
    exact undue_packing h packs r
  have same : judgedAlone s (advanced u) = advanced u := if_neg (by rw [undue_packing h packs]; nofun)
  rw [undue, same] at judged
  rw [undue] at eq
  exact ⟨judged, eq⟩

variable {v : State} {a : UnitRecord}

/-- The one record that the packing unit takes, with no window to remove it (R174). -/
theorem packs_alone (judged : Judged s v a) (windows : ∀ ch, ch < 6 → removingWindow s ch = false)
    (due : packingDue s a = true) : divertAndPack v = packRecord v a.tag := by
  have tags : packingTags v = [a.tag] := by
    unfold packingTags
    rw [judged.zone, List.filter_cons_of_pos (by rw [packingDue_station judged.station]; exact due)]
    rfl
  have still : (List.range 6).any (removingWindow v) = false := List.any_eq_false.2 fun ch hc => by
    rw [judged.windows ch (List.mem_range.1 hc), windows ch (List.mem_range.1 hc)]
    nofun
  unfold divertAndPack
  rw [tags, still]
  rfl

/-- The one record that the packing unit leaves. -/
theorem unpacked_alone (judged : Judged s v a) (windows : ∀ ch, ch < 6 → removingWindow s ch = false)
    (due : packingDue s a = false) : divertAndPack v = v := by
  refine divertAndPack_still (fun ch hc => (judged.windows ch hc).trans (windows ch hc)) fun r hr => ?_
  rw [judged.zone] at hr
  rw [List.mem_singleton.1 hr, packingDue_station judged.station]
  exact due

theorem packRecord_transfer (judged : Judged s v a) (transfer : s.hasRole .transfer = true) (kind : a.kind = .bag) :
    packRecord v a.tag = loadBag a v := by
  have role : v.hasRole .transfer = true := by rw [hasRole_station judged.station, transfer]
  have other : v.hasRole .bag = false := Dose.hasRole_other role nofun
  unfold packRecord
  rw [findRecord_alone judged.zone]
  dsimp only
  rw [other, role, kind]
  rfl

/-! ### A bag at the carrier point (R179) -/

theorem carrierPoint_due (transfer : s.hasRole .transfer = true) (kind : u.kind = .bag)
    (there : u.tail + 1 = (s.carrierPoint : Int)) : packingDue s (advanced u) = true := by
  have tail : (advanced u).tail = (s.carrierPoint : Int) := by
    rw [← there]
    show ((u.head + 1 : Nat) : Int) - u.length = (u.head : Int) - u.length + 1
    omega
  unfold packingDue
  rw [transfer, tail, show (advanced u).kind = .bag from kind]
  simp

theorem advanced_tail (u : UnitRecord) : (advanced u).tail = u.tail + 1 := by
  show ((u.head + 1 : Nat) : Int) - u.length = (u.head : Int) - u.length + 1
  omega

/-- What the drive's evaluation leaves. -/
theorem evaluateDrive_packing (w : State) : (evaluateDrive w).packing = w.packing := by
  have e := congrArg (·.packing) (evaluateDrive_flow w).1
  exact e

/-- A bag that is loaded leaves the zone, and the rest of the count evaluates the drive. -/
theorem loads_alone (judged : Judged s v a) (windows : ∀ ch, ch < 6 → removingWindow s ch = false)
    (transfer : s.hasRole .transfer = true) (kind : a.kind = .bag) (due : packingDue s a = true)
    (room : s.packing.doorList.length < 4) {n : State} (carried : n = carryBag a (removeRecord a.tag v))
    (zone : n.tracking.zone = []) (arrivals : n.arrivals = []) :
    handoverTurn (removeAtZoneEnd (divertAndPack v)) = evaluateDrive n := by
  have loads : loadBag a v = n := by
    rw [carried]
    unfold loadBag
    rw [judged.packing]
    exact if_pos room
  rw [packs_alone judged windows due, packRecord_transfer judged transfer kind, loads]
  exact leaves_nothing zone arrivals

/-! ### A record that leaves at the zone end (R83, R179) -/

/-- The EVENT UNBAGGED and the change of the counts. -/
theorem leaveZone_transfer (judged : Judged s v a) (transfer : s.hasRole .transfer = true) :
    leaveZone v a = zoneChanged v.counts
      (queueEvent .unbagged (decide (a.kind = .bag)).toNat a.tag.toNat { v with tracking.zone := [] }) := by
  have role : v.hasRole .transfer = true := by rw [hasRole_station judged.station, transfer]
  unfold leaveZone
  rw [role, dropRecord_alone judged.zone]
  rfl

/-- What leaving leaves of the zone and of the packing lists, with its EVENT where the queue has room. -/
theorem leaves_transfer (judged : Judged s v a) (transfer : s.hasRole .transfer = true) :
    (leaveZone v a).tracking.zone = [] ∧ (leaveZone v a).arrivals = []
      ∧ (leaveZone v a).packing = { s.packing with door := (leaveZone v a).packing.door }
      ∧ (Spare true (if v.mode = .walking then 1 else 3) v →
          Carries (eventOf s 15 (decide (a.kind = .bag)).toNat a.tag.toNat) (evaluateDrive (leaveZone v a))) := by
  rw [leaveZone_transfer judged transfer]
  have queued := queueEvent_framesQueued .unbagged (decide (a.kind = .bag)).toNat a.tag.toNat { v with tracking.zone := [] }
  have adds := queueEvent_adds true { v with tracking.zone := [] } .unbagged (decide (a.kind = .bag)).toNat a.tag.toNat
  have carries := fun k room => queueEvent_carries true (s := { v with tracking.zone := [] }) (k := k) (n := .unbagged)
    (d := (decide (a.kind = .bag)).toNat) (t := a.tag.toNat) room
  have event := eventOf_station judged.station 15 (decide (a.kind = .bag)).toNat a.tag.toNat
  generalize queueEvent .unbagged (decide (a.kind = .bag)).toNat a.tag.toNat { v with tracking.zone := [] } = w
    at queued adds carries
  have empty : w.tracking.zone = [] := (sameUnits_nil queued.2).1 rfl
  have free : w.tracking.mergeBound = none := by
    have e := congrArg (·.tracking.mergeBound) queued.1
    exact e.trans judged.free
  have mode : w.mode = v.mode := by
    have e := congrArg (·.mode) queued.1
    exact e
  have arrivals : w.arrivals = [] := by
    have e := congrArg (·.arrivals) queued.1
    exact e.trans judged.arrivals
  have packing : w.packing = s.packing := by
    have e := congrArg (·.packing) queued.1
    exact e.trans judged.packing
  have unforming := clear_unforming empty free
  obtain ⟨zone', -, arrivals', -, packing', -⟩ := zoneChanged_leaves v.counts unforming
  have after := drive_after_change v.counts unforming (u := zoneChanged v.counts w) rfl rfl
  rw [mode] at after
  rw [packing] at packing'
  generalize zoneChanged v.counts w = t at zone' arrivals' packing' after
  refine ⟨(sameUnits_nil zone').1 empty, arrivals'.trans arrivals, packing', fun room => ?_⟩
  have kept : Spare true ((if v.mode = .walking then 0 else 2) + 1) { v with tracking.zone := [] } :=
    ⟨room.awake, room.loud, by
      have := room.room
      show v.link.txq.length + _ + _ + _ ≤ 8
      by_cases walking : v.mode = .walking
      · rw [if_pos walking] at this ⊢
        exact this
      · rw [if_neg walking] at this ⊢
        exact this⟩
  have there := (adds _ kept).1
  rw [← event]
  exact (after 0 (by rw [Nat.zero_add]; exact there)).2 _ rfl (carries _ kept)

/-- Settles O57: the completion by its parts, and the counts by the packing unit's turn and by the leaving at the zone
end. -/
theorem doorCycleCompletes : Obligations.DoorCycleCompletes := by
  unfold Obligations.DoorCycleCompletes
  refine ⟨fun s e c rest profile loud door list => ⟨fun due => ?stores, fun early => ?waits⟩,
    fun s u transfer loud paid alone free zone kind closed there inside windows => ?loads,
    fun s u transfer loud paid alone free zone closed past undue windows => ?leaves⟩
  case stores =>
    have row := exec_doorCycleCompletion profile loud door list
    rw [if_pos due] at row
    have blocks := blocksResponded_trans (storeCarrier_blocks c rest s) (doorTest_blocks _)
    obtain ⟨stop, packing⟩ := storeCarrier_leaves c rest s
    have carries := stored_carries (c := c) (rest := rest) (s := s)
    have stop' := (doorTest_lastStop (storeCarrier c rest s)).trans stop
    refine ⟨_, row, blocksResponded_trans blocks (settle_blocks _), stop', fun quiet few => ?_, fun none => ?_⟩
    · exact carries_settle (carries (spare_of_length loud quiet (by rw [Bool.toNat_true]; omega)))
    · have idle := doorTest_idle (s := storeCarrier c rest s) (by rw [packing]; exact none)
      rw [settle_packing, idle, packing]
  case waits =>
    have row := exec_doorCycleCompletion profile loud door list
    rw [if_neg (by omega)] at row
    exact row
  case loads =>
    obtain ⟨judged, eq⟩ := judged_packing transfer (.inr rfl) zone closed alone free
    have due := carrierPoint_due transfer kind there
    have row := next_counted false (Changes.hasProfile_of_hasRole transfer) loud paid
    rw [eq] at row
    generalize walked false s = v at judged row
    refine ⟨_, row, fun full => ?_, fun room => ?_⟩
    · have stays : divertAndPack v = v := by
        rw [packs_alone judged windows due, packRecord_transfer judged transfer kind]
        unfold loadBag
        rw [judged.packing]
        exact if_neg (by omega)
      have within : ∀ r ∈ v.tracking.zone, r.tail < (v.zoneLength : Int) := fun r hr => by
        rw [judged.zone] at hr
        rw [List.mem_singleton.1 hr, zoneLength_station judged.station, advanced_tail]
        exact inside
      have tended := examineZone_tended v
      have packing := tended.packing
      rw [judged.packing] at packing
      rw [settle_tracking, settle_packing, stays, removeAtZoneEnd_inside within, handoverTurn_alone judged.arrivals, packing]
      have units := tended.zone
      rw [judged.zone] at units
      exact ⟨units, rfl, rfl⟩
    · obtain ⟨gone, -, expected, -, packing, station⟩ := removeRecord_alone judged.zone judged.free
      rw [judged.arrivals] at expected
      rw [judged.packing] at packing
      have size := carrierSize_station (station.trans judged.station)
      have rest := fun n eq => loads_alone (n := n) judged windows transfer kind due room eq
      have joins := fun c => carryBag_joins (s := removeRecord (advanced u).tag v) (u := advanced u) (c := c)
      have other := fun c => carryBag_other (s := removeRecord (advanced u).tag v) (u := advanced u) (c := c)
      rw [size] at joins other
      generalize removeRecord (advanced u).tag v = w at gone expected packing rest joins other
      rw [packing] at joins other
      rw [settle_tracking, settle_packing]
      have leaves : ∀ n, n = carryBag (advanced u) w → SameUnits w.tracking.zone n.tracking.zone → n.arrivals = w.arrivals →
          (handoverTurn (removeAtZoneEnd (divertAndPack v))).tracking.zone = []
            ∧ (handoverTurn (removeAtZoneEnd (divertAndPack v))).packing = n.packing := by
        intro n hn units arrivals
        have empty := (sameUnits_nil units).1 gone
        rw [rest n hn empty (arrivals.trans expected), evaluateDrive_tracking, evaluateDrive_packing]
        exact ⟨empty, rfl⟩
      generalize carryBag (advanced u) w = n at leaves joins other
      obtain ⟨empty, same⟩ : (handoverTurn (removeAtZoneEnd (divertAndPack v))).tracking.zone = []
          ∧ (handoverTurn (removeAtZoneEnd (divertAndPack v))).packing = n.packing := by
        cases carrier : s.packing.openCarrier with
        | none =>
          obtain ⟨units, arrivals, -⟩ := joins _ (.inr ⟨carrier, rfl⟩)
          exact leaves n rfl units arrivals
        | some c =>
          by_cases lot : c.lot = u.lot
          · obtain ⟨units, arrivals, -⟩ := joins c (.inl ⟨carrier, lot⟩)
            exact leaves n rfl units arrivals
          · obtain ⟨units, arrivals, -⟩ := other c carrier lot
            exact leaves n rfl units arrivals
      rw [same]
      exact ⟨empty, fun c carrier => (joins c carrier).2.2, fun c carrier lot => (other c carrier lot).2.2⟩
  case leaves =>
    obtain ⟨judged, eq⟩ := judged_packing transfer (.inr rfl) zone closed alone free
    have row := next_counted false (Changes.hasProfile_of_hasRole transfer) loud paid
    rw [eq] at row
    have walks := walked_adds false s
    generalize walked false s = v at judged row walks
    obtain ⟨gone, expected, packing, carries⟩ := leaves_transfer judged transfer
    have rest : handoverTurn (removeAtZoneEnd (divertAndPack v)) = evaluateDrive (leaveZone v (advanced u)) := by
      rw [unpacked_alone judged windows undue,
        removeAtZoneEnd_alone judged.zone (by rw [zoneLength_station judged.station, advanced_tail]; exact past),
        handoverTurn_alone expected, examineZone_clear gone]
    rw [rest] at row
    refine ⟨_, row, ?_⟩
    generalize leaveZone v (advanced u) = w at gone expected packing carries
    rw [settle_tracking, settle_packing, evaluateDrive_tracking, evaluateDrive_packing, packing]
    refine ⟨gone, rfl, rfl, fun quiet few => ?_⟩
    have spare : Spare true ((if v.mode = .walking then 1 else 3) + (if s.mode = .walking then 1 else 0)) s := by
      refine spare_of_length loud quiet ?_
      rw [judged.mode, Bool.toNat_true]
      split <;> omega
    have carried := carries_settle (carries (walks _ spare).1)
    have datum : (decide ((advanced u).kind = .bag)).toNat = if u.kind = .bag then 1 else 0 := by
      show (decide (u.kind = .bag)).toNat = _
      by_cases bag : u.kind = .bag <;> simp [bag]
    rw [datum] at carried
    exact carried

end Sys2Proof.Doors


/-! PROOFS. The close of a bag, and a segment's material in a bag (R176, R177). -/

namespace Sys2Proof.Bags

open Sys2Proof Sys2Proof.Machine Sys2Proof.Safety Sys2Proof.Laws Sys2Proof.Room Sys2Proof.Fitting Sys2Proof.Counting
  Sys2Proof.Moves Sys2Proof.Zone Sys2Proof.Postures Sys2Proof.Turns Sys2Proof.Alone

/-! ### A bag's close (R177) -/

/-- The tag's issue, the EVENT, the count and the channel event of a bag's close. -/
def bagTold (b : Bag) (s : State) : State :=
  giveEvent .bagClosed (count .bagsClosed (queueEvent .bagClosed b.number (nextTag s).toNat
    { s with packing.openBag := none, tracking.tagSeq := (s.tracking.tagSeq + 1) % 2048 }))

/-- What they leave. -/
structure BagTold (s t : State) : Prop where
  tracking : t.tracking = { s.tracking with tagSeq := (s.tracking.tagSeq + 1) % 2048 }
  packing : t.packing = { s.packing with openBag := none }
  bagsClosed : t.counters.bagsClosed = min (s.counters.bagsClosed + 1) 65535
  station : t.station = s.station
  mode : t.mode = s.mode
  arrivals : t.arrivals = s.arrivals
  flow : t.flow = s.flow
  peer : t.peer = s.peer

theorem bagTold_leaves (b : Bag) (s : State) : BagTold s (bagTold b s) := by
  have queued := (queueEvent_framesQueued .bagClosed b.number (nextTag s).toNat
    { s with packing.openBag := none, tracking.tagSeq := (s.tracking.tagSeq + 1) % 2048 }).1
  have tracking := queueEvent_tracking
    { s with packing.openBag := none, tracking.tagSeq := (s.tracking.tagSeq + 1) % 2048 } .bagClosed b.number (nextTag s).toNat
  unfold bagTold
  generalize queueEvent .bagClosed b.number (nextTag s).toNat
    { s with packing.openBag := none, tracking.tagSeq := (s.tracking.tagSeq + 1) % 2048 } = u at queued tracking
  have packing := congrArg (·.packing) queued
  have counts := congrArg (·.counters.bagsClosed) queued
  have station := congrArg (·.station) queued
  have mode := congrArg (·.mode) queued
  have arrivals := congrArg (·.arrivals) queued
  have flow := congrArg (·.flow) queued
  have peer := congrArg (·.peer) queued
  exact
    { tracking := tracking
      packing := packing
      bagsClosed := congrArg (fun n => min (n + 1) 65535) counts
      station := station
      mode := mode
      arrivals := arrivals
      flow := flow
      peer := peer }

theorem bagTold_link (b : Bag) (s : State) :
    (bagTold b s).link = (queueEvent .bagClosed b.number (nextTag s).toNat
      { s with packing.openBag := none, tracking.tagSeq := (s.tracking.tagSeq + 1) % 2048 }).link := rfl

theorem bagTold_grows (b : Bag) (s : State) : Grows 1 s (bagTold b s) := by
  have queues := queueEvent_grows .bagClosed b.number (nextTag s).toNat
    { s with packing.openBag := none, tracking.tagSeq := (s.tracking.tagSeq + 1) % 2048 }
  have mode : (queueEvent .bagClosed b.number (nextTag s).toNat
      { s with packing.openBag := none, tracking.tagSeq := (s.tracking.tagSeq + 1) % 2048 }).mode = s.mode := by
    have e := congrArg (·.mode) (queueEvent_framesQueued .bagClosed b.number (nextTag s).toNat
      { s with packing.openBag := none, tracking.tagSeq := (s.tracking.tagSeq + 1) % 2048 }).1
    exact e
  have after := Grows.of_link (s := queueEvent .bagClosed b.number (nextTag s).toNat
    { s with packing.openBag := none, tracking.tagSeq := (s.tracking.tagSeq + 1) % 2048 }) (bagTold_link b s)
    ((bagTold_leaves b s).mode.trans mode.symm)
  exact (queues.congr (s' := s) rfl rfl).trans after

theorem bagTold_carries {b : Bag} {s : State} (room : Fits 1 s) :
    Carries (eventOf s 13 b.number (nextTag s).toNat) (bagTold b s) := by
  have there : Fits 1 { s with packing.openBag := none, tracking.tagSeq := (s.tracking.tagSeq + 1) % 2048 } :=
    ⟨room.awake, room.loud, room.room⟩
  have carried := (queueFrame_carries (f := eventFrame .bagClosed b.number (nextTag s).toNat
    { s with packing.openBag := none, tracking.tagSeq := (s.tracking.tagSeq + 1) % 2048 })
    there.awake there.loud (by have := there.room; omega)).1
  unfold Carries
  rw [bagTold_link]
  exact carried

/-- The closed bag joins the zone queue, before the handover unit examines it. -/
def bagEntered (disposition : Nat) (b : Bag) (s : State) : State :=
  { bagTold b s with
    tracking.zone := insertByHead (closedBag s s.tracking.tagSeq b.lot b.mass disposition) s.tracking.zone }

theorem closeBag_eq {disposition : Nat} {b : Bag} {s : State} (free : s.zoneHolds (nextTag s) = false)
    (alone : s.arrivals = []) (room : s.tracking.zone.length < 24) :
    closeBag disposition b s = examineZone (bagEntered disposition b s) := by
  have expected : s.arrivalsHold (nextTag s) = false := by
    unfold State.arrivalsHold
    rw [alone]
    rfl
  have issued : issueTag { s with packing.openBag := none }
      = (nextTag s, { s with packing.openBag := none, tracking.tagSeq := (s.tracking.tagSeq + 1) % 2048 }) :=
    issueTag_free (s := { s with packing.openBag := none }) free expected
  have told := bagTold_leaves b s
  have close : closeBag disposition b s
      = enterRecord (bagRecord (bagTold b s) (nextTag s) b disposition) (bagTold b s) := by
    unfold closeBag
    rw [issued]
    rfl
  have record : bagRecord (bagTold b s) (nextTag s) b disposition
      = closedBag s s.tracking.tagSeq b.lot b.mass disposition := by
    have e := congrArg (fun station => bagRecord { s with station := station } (nextTag s) b disposition) told.station
    exact e
  have zone : (bagTold b s).tracking.zone = s.tracking.zone := by rw [told.tracking]
  rw [close, record]
  unfold enterRecord
  rw [enterVia_joins (by rw [zone]; exact room)]
  unfold insertRecord bagEntered
  rw [zone]

/-- What a bag's close leaves, where its tag is free and the queue has room for its record. -/
structure BagClosed (disposition : Nat) (b : Bag) (s t : State) : Prop where
  zone : SameUnits (insertByHead (closedBag s s.tracking.tagSeq b.lot b.mass disposition) s.tracking.zone) t.tracking.zone
  tagSeq : t.tracking.tagSeq = (s.tracking.tagSeq + 1) % 2048
  mergeBound : t.tracking.mergeBound = s.tracking.mergeBound
  packing : t.packing = { s.packing with openBag := none }
  bagsClosed : t.counters.bagsClosed = min (s.counters.bagsClosed + 1) 65535
  station : t.station = s.station
  mode : t.mode = s.mode
  arrivals : t.arrivals = s.arrivals
  neighbours : t.peer.neighbours = s.peer.neighbours

/-- Passes leave the packing unit and the limiters as they were. -/
theorem makePasses_leaves (s : State) : (makePasses s).packing = s.packing ∧ (makePasses s).flow = s.flow := by
  have queued : ∀ (f : Frame) (w : State), (queueFrame f w).packing = w.packing ∧ (queueFrame f w).flow = w.flow :=
    fun f w => ⟨congrArg (·.packing) (queueFrame_framesQueued f w).1, congrArg (·.flow) (queueFrame_framesQueued f w).1⟩
  have one : ∀ (u : State) (t : Tag), (passRecord u t).packing = u.packing ∧ (passRecord u t).flow = u.flow := by
    intro u t
    unfold passRecord
    split
    · exact ⟨rfl, rfl⟩
    · dsimp only
      split <;> exact queued _ _
  have fold : ∀ (l : List Tag) (u : State),
      (l.foldl passRecord u).packing = u.packing ∧ (l.foldl passRecord u).flow = u.flow := by
    intro l
    induction l with
    | nil => exact fun _ => ⟨rfl, rfl⟩
    | cons t l ih =>
      intro u
      rw [List.foldl_cons, (ih _).1, (ih _).2]
      exact one u t
  exact fold _ s

/-- An examination leaves the packing unit as it was. -/
theorem examineZone_packing (s : State) : (examineZone s).packing = s.packing := by
  unfold examineZone
  split
  · have offers := congrArg (·.packing) (makeOffers_framesQueued s).1
    rw [Doors.evaluateDrive_packing, (makePasses_leaves _).1]
    exact offers
  · exact Doors.evaluateDrive_packing s

theorem closeBag_closed {disposition : Nat} {b : Bag} {s : State} (free : s.zoneHolds (nextTag s) = false)
    (alone : s.arrivals = []) (room : s.tracking.zone.length < 24) :
    BagClosed disposition b s (closeBag disposition b s) := by
  rw [closeBag_eq free alone room]
  have told := bagTold_leaves b s
  have tended := examineZone_tended (bagEntered disposition b s)
  have packing := examineZone_packing (bagEntered disposition b s)
  have bound := congrArg (·.mergeBound) tended.tracking
  have seq := congrArg (·.tagSeq) tended.tracking
  have counts := congrArg (·.bagsClosed) tended.counters
  have bound' := congrArg (·.mergeBound) told.tracking
  have seq' := congrArg (·.tagSeq) told.tracking
  exact
    { zone := tended.zone
      tagSeq := seq.trans seq'
      mergeBound := bound.trans bound'
      packing := packing.trans told.packing
      bagsClosed := counts.trans told.bagsClosed
      station := tended.station.trans told.station
      mode := tended.mode.trans told.mode
      arrivals := tended.arrivals.trans told.arrivals
      neighbours := tended.neighbours.trans (congrArg (·.neighbours) told.peer) }

/-- The next tag differs from the one issued before it (R72). -/
theorem nextTag_moves (n seq : Nat) : BitVec.ofNat 16 (2048 * n + (seq + 1) % 2048) ≠ BitVec.ofNat 16 (2048 * n + seq) := by
  intro same
  have values := congrArg BitVec.toNat same
  rw [BitVec.toNat_ofNat, BitVec.toNat_ofNat] at values
  omega

/-- After a close in an empty zone the next tag is free again. -/
theorem closed_free {disposition : Nat} {b : Bag} {s t : State} (closed : BagClosed disposition b s t)
    (zone : s.tracking.zone = []) : t.zoneHolds (nextTag t) = false := by
  refine Bool.eq_false_iff.2 fun holds => ?_
  obtain ⟨r, hr, tag⟩ := (zoneHolds_iff t _).1 holds
  have units := closed.zone
  rw [zone] at units
  obtain ⟨x, rest, list, same, none⟩ := sameUnits_cons units
  rw [list, (sameUnits_nil none).1 rfl, List.mem_singleton] at hr
  have first : r.tag = nextTag s := by
    rw [hr]
    exact (withoutHandover_fields same).1
  have second : nextTag t = BitVec.ofNat 16 (2048 * s.station.number + (s.tracking.tagSeq + 1) % 2048) := by
    unfold nextTag
    rw [closed.station, closed.tagSeq]
  exact nextTag_moves _ _ (second.symm.trans (tag.symm.trans first))

/-! ### The five steps (R176) -/

/-- The mass of a bag that a segment's material has joined. -/
def joinedBag (b : Bag) (u : UnitRecord) : Bag := { b with mass := min (b.mass + u.mass) 65535 }

/-- Steps 3 to 5 of R176, with the open bag `b`. -/
def joined (b : Bag) (u : UnitRecord) (s : State) : State :=
  match bagCloses s u.disposition (joinedBag b u).mass with
  | none => { s with packing.openBag := some (joinedBag b u) }
  | some disposition => closeBag disposition (joinedBag b u) s

theorem bagSegment_joins {s : State} {u : UnitRecord} {b : Bag} (bag : s.packing.openBag = some b) (lot : b.lot = u.lot) :
    bagSegment u s = joined b u s := by
  have same : closeOtherLot u.lot s = s := by
    unfold closeOtherLot
    rw [bag]
    exact if_pos lot
  unfold bagSegment openBagFor
  rw [same, bag]
  rfl

/-- The bag that opens for a lot (step 2 of R176). -/
def openedBag (lot : Nat) (s : State) : Bag := ⟨s.packing.nextBag, lot, 0⟩

/-- `s` with a new bag open for a lot. -/
def bagOpened (lot : Nat) (s : State) : State :=
  { s with packing.openBag := some (openedBag lot s), packing.nextBag := (s.packing.nextBag + 1) % 65536 }

theorem bagSegment_opens {s : State} {u : UnitRecord} (none : s.packing.openBag = none) :
    bagSegment u s = joined (openedBag u.lot s) u (bagOpened u.lot s) := by
  have same : closeOtherLot u.lot s = s := by
    unfold closeOtherLot
    rw [none]
  unfold bagSegment openBagFor
  rw [same, none]
  rfl

/-- A bag of another lot closes SHORT, and a new one opens (steps 1 and 2 of R176). -/
theorem bagSegment_other {s : State} {u : UnitRecord} {b : Bag} (bag : s.packing.openBag = some b) (lot : b.lot ≠ u.lot)
    (none : (closeBag 2 b s).packing.openBag = none) :
    bagSegment u s = joined (openedBag u.lot (closeBag 2 b s)) u (bagOpened u.lot (closeBag 2 b s)) := by
  have closes : closeOtherLot u.lot s = closeBag 2 b s := by
    unfold closeOtherLot
    rw [bag]
    exact if_neg lot
  unfold bagSegment openBagFor
  rw [closes, none]
  rfl

theorem bagCloses_none {s : State} {segment mass : Nat} (good : segment = 0) (below : mass < s.bagTarget) :
    bagCloses s segment mass = none := by
  unfold bagCloses
  rw [if_neg (by simpa using good), if_pos below]

theorem bagCloses_some {s : State} {segment mass : Nat} (closes : segment ≠ 0 ∨ s.bagTarget ≤ mass) :
    bagCloses s segment mass = some (bagDisposition s segment mass) := by
  unfold bagCloses bagDisposition
  by_cases bad : segment ≠ 0
  · rw [if_pos bad, if_pos bad]
  · rw [if_neg bad, if_neg bad, if_neg (by have := closes.resolve_left bad; omega)]
    split <;> rfl

/-- A bag that stays open. -/
theorem joined_open {s : State} {u : UnitRecord} {b : Bag} (good : u.disposition = 0)
    (below : min (b.mass + u.mass) 65535 < s.bagTarget) :
    joined b u s = { s with packing.openBag := some (joinedBag b u) } := by
  have none : bagCloses s u.disposition (joinedBag b u).mass = none := bagCloses_none good below
  unfold joined
  rw [none]

/-- A bag that closes. -/
theorem joined_closes {s : State} {u : UnitRecord} {b : Bag}
    (closes : u.disposition ≠ 0 ∨ s.bagTarget ≤ min (b.mass + u.mass) 65535) :
    joined b u s = closeBag (bagDisposition s u.disposition (min (b.mass + u.mass) 65535)) (joinedBag b u) s := by
  have some : bagCloses s u.disposition (joinedBag b u).mass
      = some (bagDisposition s u.disposition (min (b.mass + u.mass) 65535)) := bagCloses_some closes
  unfold joined
  rw [some]

/-- A close in any zone: the open bag, the numbering and the count (R177). -/
theorem closeBag_lists (disposition : Nat) (b : Bag) (s : State) :
    (closeBag disposition b s).packing.openBag = none
      ∧ (closeBag disposition b s).packing.nextBag = s.packing.nextBag
      ∧ (closeBag disposition b s).counters.bagsClosed = min (s.counters.bagsClosed + 1) 65535 := by
  unfold closeBag
  have issued : (issueTag { s with packing.openBag := none }).2.packing = { s.packing with openBag := none }
      ∧ (issueTag { s with packing.openBag := none }).2.counters = s.counters := ⟨rfl, rfl⟩
  generalize issueTag { s with packing.openBag := none } = p at issued
  obtain ⟨t, s1⟩ := p
  dsimp only at issued ⊢
  have queued := (queueEvent_framesQueued .bagClosed b.number t.toNat s1).1
  have packing := (congrArg (·.packing) queued).trans issued.1
  have counts := (congrArg (·.counters.bagsClosed) queued).trans (congrArg (·.bagsClosed) issued.2)
  generalize queueEvent .bagClosed b.number t.toNat s1 = u at packing counts
  have told : (giveEvent .bagClosed (count .bagsClosed u)).packing = { s.packing with openBag := none }
      ∧ (giveEvent .bagClosed (count .bagsClosed u)).counters.bagsClosed = min (s.counters.bagsClosed + 1) 65535 :=
    ⟨packing, congrArg (fun n => min (n + 1) 65535) counts⟩
  generalize giveEvent .bagClosed (count .bagsClosed u) = w at told
  have queue := (enterRecord_queue (bagRecord w t b disposition) w).1
  have packing' := congrArg (·.packing) queue
  have counts' := congrArg (·.counters.bagsClosed) queue
  have opens := (congrArg (·.openBag) packing').trans (congrArg (·.openBag) told.1)
  have numbers := (congrArg (·.nextBag) packing').trans (congrArg (·.nextBag) told.1)
  exact ⟨opens, numbers, counts'.trans told.2⟩

end Sys2Proof.Bags


/-! PROOFS. The examinations after a bag's close: their frames, and the records that they leave (R88, R95). -/

namespace Sys2Proof.Bags

open Sys2Proof Sys2Proof.Machine Sys2Proof.Safety Sys2Proof.Laws Sys2Proof.Room Sys2Proof.Fitting Sys2Proof.Counting
  Sys2Proof.Moves Sys2Proof.Zone Sys2Proof.Postures Sys2Proof.Turns Sys2Proof.Alone

/-! ### Records with no handover due -/

/-- The handovers of an examination, before the drive is evaluated. -/
def handed (s : State) : State :=
  if s.hasProfile && decide (s.downstream ≠ 0) && decide (s.mode ≠ .walking) then makePasses (makeOffers s) else s

theorem examineZone_handed (s : State) : examineZone s = evaluateDrive (handed s) := by
  unfold examineZone handed
  split <;> rfl

/-- An examination by `s` offers and passes no record like `r`. -/
def Rests (s : State) (r : UnitRecord) : Prop :=
  s.hasProfile = true → s.downstream ≠ 0 → s.mode ≠ .walking → offerDue s r = false ∧ passDue s r = false

/-- Whether a handover is due depends on the profile, the neighbours and the station state alone. -/
theorem Rests.congr {s t : State} {r : UnitRecord} (h : Rests s r) (station : t.station = s.station)
    (neighbours : t.peer.neighbours = s.peer.neighbours) (mode : t.mode = s.mode) : Rests t r := by
  intro profile downstream stays
  have same : t.hasProfile = s.hasProfile := by unfold State.hasProfile; rw [station]
  have down : t.downstream = s.downstream := congrArg (·.downstream) neighbours
  rw [same] at profile
  rw [down] at downstream
  rw [mode] at stays
  obtain ⟨offer, pass⟩ := h profile downstream stays
  have point : t.offerPoint = s.offerPoint := congrArg (fun station => ({ s with station := station } : State).offerPoint) station
  refine ⟨?_, ?_⟩
  · unfold offerDue at offer ⊢
    rw [zoneLength_station station, point]
    exact offer
  · unfold passDue at pass ⊢
    rw [zoneLength_station station]
    exact pass

variable {s t : State}

theorem handed_resting (h : ∀ r ∈ s.tracking.zone, Rests s r) : handed s = s := by
  unfold handed
  split
  · next due =>
    simp only [Bool.and_eq_true, decide_eq_true_eq] at due
    obtain ⟨⟨profile, downstream⟩, stays⟩ := due
    have offers : makeOffers s = s := by
      unfold makeOffers
      rw [List.filter_eq_nil_iff.2 fun r hr => by rw [(h r hr profile downstream stays).1]; nofun]
      rfl
    have passes : makePasses s = s := by
      unfold makePasses
      rw [List.filter_eq_nil_iff.2 fun r hr => by rw [(h r hr profile downstream stays).2]; nofun]
      rfl
    rw [offers, passes]
  · rfl

theorem handed_walking (h : s.mode = .walking) : handed s = s :=
  handed_resting fun _ _ _ _ stays => absurd h stays

/-- What the handovers leave. -/
theorem handed_leaves (s : State) :
    Tended s (handed s) ∧ (handed s).flow = s.flow := by
  unfold handed
  split
  · have offers := makeOffers_framesQueued s
    have flow : (makeOffers s).flow = s.flow := congrArg (·.flow) offers.1
    exact ⟨tended_trans (tended_of_blocks (framesQueued_blocks offers)) (makePasses_blocks _),
      (makePasses_leaves _).2.trans flow⟩
  · exact ⟨tended_refl s, rfl⟩

/-- Where one record at most may be due, the handovers queue one frame at most. -/
theorem handed_grows {l : List UnitRecord} {y : UnitRecord} (zone : s.tracking.zone = l ++ [y])
    (others : ∀ x ∈ l, x.head = y.head ∧ Rests s x) : Grows (if s.mode = .walking then 0 else 1) s (handed s) := by
  by_cases walking : s.mode = .walking
  · rw [if_pos walking, handed_walking walking]
    exact Grows.refl s
  rw [if_neg walking]
  unfold handed
  split
  · next due =>
    simp only [Bool.and_eq_true, decide_eq_true_eq] at due
    obtain ⟨⟨profile, downstream⟩, stays⟩ := due
    have one : ∀ p : UnitRecord → Bool, (∀ x ∈ l, p x = false) → (s.tracking.zone.filter p).length ≤ 1 := by
      intro p none
      rw [zone, List.filter_append, List.filter_eq_nil_iff.2 (fun x hx => by rw [none x hx]; nofun), List.nil_append]
      exact (List.length_filter_le _ _).trans (Nat.le_refl 1)
    by_cases inside : y.head < s.zoneLength
    · have frames := makeOffers_framesQueued s
      have within : ∀ r ∈ (makeOffers s).tracking.zone, r.head < s.zoneLength := by
        refine sameUnits_forall (fun x y same => ?_) frames.2 fun r hr => ?_
        · rw [(withoutHandover_fields same).2.2.1]
          exact id
        · rw [zone, List.mem_append, List.mem_singleton] at hr
          rcases hr with hr | rfl
          · rw [(others r hr).1]
            exact inside
          · exact inside
      have passes : (makeOffers s).tracking.zone.filter (passDue (makeOffers s)) = [] :=
        List.filter_eq_nil_iff.2 fun r hr => by
          have := within r hr
          rw [passDue_iff, zoneLength_station (blocksResponded_station (framesQueued_blocks frames))]
          omega
      have grows := (makeOffers_grows s).trans (makePasses_grows (makeOffers s))
      rw [passes] at grows
      exact grows.mono (one _ fun x hx => ((others x hx).2 profile downstream stays).1)
    · have offers : makeOffers s = s := by
        unfold makeOffers
        rw [List.filter_eq_nil_iff.2 fun r hr => ?_]
        · rfl
        · have head : r.head = y.head := by
            rw [zone, List.mem_append, List.mem_singleton] at hr
            rcases hr with hr | rfl
            · exact (others r hr).1
            · rfl
          rw [offerDue_iff]
          omega
      rw [offers]
      exact (makePasses_grows s).mono (one _ fun x hx => ((others x hx).2 profile downstream stays).2)
  · exact (Grows.refl s).mono (by omega)

/-! ### What an examination leaves due -/

theorem findRecord_none {t : Tag} (h : s.findRecord t = none) {r : UnitRecord} (hr : r ∈ s.tracking.zone) : r.tag ≠ t := by
  have all := List.find?_eq_none.1 h r hr
  simpa using all

/-- An offer with room for its frame leaves no record with its tag local. -/
theorem offerRecord_local {t : Tag} (room : Fits 1 s) {r : UnitRecord} (hr : r ∈ (offerRecord s t).tracking.zone)
    (own : r.handover = .localUnit) : r ∈ s.tracking.zone ∧ r.tag ≠ t := by
  unfold offerRecord at hr
  cases find : s.findRecord t with
  | none =>
    rw [find] at hr
    exact ⟨hr, findRecord_none find hr⟩
  | some j =>
    rw [find] at hr
    dsimp only at hr
    have accepts : Accepts .offer (setHandover t (.offered .sending) 0 s) :=
      ⟨room.awake, room.loud, by have := room.room; exact this, rfl⟩
    rw [queueFrame_accepts accepts] at hr
    obtain ⟨x, hx, rfl⟩ := List.mem_map.1 hr
    by_cases tag : x.tag = t
    · rw [if_pos tag] at own
      nomatch own
    · rw [if_neg tag]
      exact ⟨hx, tag⟩

/-- A pass leaves no record with its tag short of PASSED. -/
theorem passRecord_unpassed {t : Tag} {r : UnitRecord} (hr : r ∈ (passRecord s t).tracking.zone)
    (open' : r.handover ≠ .passed) : r ∈ s.tracking.zone ∧ r.tag ≠ t := by
  unfold passRecord at hr
  cases find : s.findRecord t with
  | none =>
    rw [find] at hr
    exact ⟨hr, findRecord_none find hr⟩
  | some j =>
    rw [find] at hr
    dsimp only at hr
    have pass : ∀ u, (passFrame j u).kind = .pass := fun _ => rfl
    rw [queueFrame_tracking (by rw [pass]; nofun) (by rw [pass]; nofun)] at hr
    have written : r ∈ (setHandover t .passed j.attempts s).tracking.zone := by
      split at hr <;> exact hr
    obtain ⟨x, hx, rfl⟩ := List.mem_map.1 written
    by_cases tag : x.tag = t
    · rw [if_pos tag] at open'
      exact absurd rfl open'
    · rw [if_neg tag]
      exact ⟨hx, tag⟩

theorem offers_local (l : List Tag) {s : State} (room : Fits l.length s) {r : UnitRecord}
    (hr : r ∈ (l.foldl offerRecord s).tracking.zone) (own : r.handover = .localUnit) :
    r ∈ s.tracking.zone ∧ r.tag ∉ l := by
  induction l generalizing s with
  | nil => exact ⟨hr, List.not_mem_nil⟩
  | cons t l ih =>
    rw [List.length_cons] at room
    obtain ⟨there, rest⟩ := ih (offerRecord_grows s t l.length room).1 hr
    obtain ⟨before, tag⟩ := offerRecord_local (room.mono (by omega)) there own
    exact ⟨before, fun named => (List.mem_cons.1 named).elim tag rest⟩

theorem passes_unpassed (l : List Tag) {s : State} {r : UnitRecord}
    (hr : r ∈ (l.foldl passRecord s).tracking.zone) (open' : r.handover ≠ .passed) :
    r ∈ s.tracking.zone ∧ r.tag ∉ l := by
  induction l generalizing s with
  | nil => exact ⟨hr, List.not_mem_nil⟩
  | cons t l ih =>
    obtain ⟨there, rest⟩ := ih hr
    obtain ⟨before, tag⟩ := passRecord_unpassed there open'
    exact ⟨before, fun named => (List.mem_cons.1 named).elim tag rest⟩

/-- With room for its frames, an examination leaves no handover due. -/
theorem handed_rests (room : Fits s.tracking.zone.length s) : ∀ r ∈ (handed s).tracking.zone, Rests (handed s) r := by
  intro r hr profile downstream stays
  have left := (handed_leaves s).1
  have same : (handed s).hasProfile = s.hasProfile := by unfold State.hasProfile; rw [left.station]
  have down : (handed s).downstream = s.downstream := congrArg (·.downstream) left.neighbours
  have eq : handed s = makePasses (makeOffers s) := if_pos (by
    rw [← same, profile, ← down, ← left.mode]
    simp [downstream, stays])
  have station := left.station
  have offered := blocksResponded_station (framesQueued_blocks (makeOffers_framesQueued s))
  have point : (handed s).offerPoint = s.offerPoint :=
    congrArg (fun station => ({ s with station := station } : State).offerPoint) station
  refine ⟨Bool.eq_false_iff.2 fun due => ?_, Bool.eq_false_iff.2 fun due => ?_⟩
  · obtain ⟨own, past, inside⟩ := offerDue_iff.1 due
    rw [eq] at hr
    obtain ⟨before, -⟩ := passes_unpassed _ hr (by rw [own]; nofun)
    have few : Fits ((s.tracking.zone.filter (offerDue s)).map (·.tag)).length s := room.mono (by
      rw [List.length_map]
      exact List.length_filter_le _ _)
    obtain ⟨first, unnamed⟩ := offers_local _ few before own
    refine unnamed (List.mem_map.2 ⟨r, List.mem_filter.2 ⟨first, offerDue_iff.2 ⟨own, ?_, ?_⟩⟩, rfl⟩)
    · rw [← point]
      exact past
    · rw [← zoneLength_station station]
      exact inside
  · obtain ⟨past, open'⟩ := passDue_iff.1 due
    rw [eq] at hr
    obtain ⟨before, unnamed⟩ := passes_unpassed _ hr open'
    refine unnamed (List.mem_map.2 ⟨r, List.mem_filter.2 ⟨before, passDue_iff.2 ⟨?_, open'⟩⟩, rfl⟩)
    rw [zoneLength_station offered, ← zoneLength_station station]
    exact past

end Sys2Proof.Bags


/-! PROOFS. One close, and two closes, of a bag in an empty zone: what they leave, and their frames (R176, R177). -/

namespace Sys2Proof.Bags

open Sys2Proof Sys2Proof.Machine Sys2Proof.Safety Sys2Proof.Laws Sys2Proof.Room Sys2Proof.Fitting Sys2Proof.Counting
  Sys2Proof.Moves Sys2Proof.Zone Sys2Proof.Postures Sys2Proof.Turns Sys2Proof.Alone

/-! ### Room for the one EVENT of the drive -/

/-- Room for `k` frames, and for the EVENT of the drive's start while none is deferred. -/
def OneMore (k : Nat) (s : State) : Prop :=
  Fits k s ∧ (s.flow.driveLimiter.deferred = none → Fits (k + 1) s)

variable {s t : State} {j k : Nat}

theorem OneMore.grows (h : OneMore (k + j) s) (grows : Grows j s t) (flow : t.flow = s.flow) : OneMore k t := by
  refine ⟨(grows k h.1).1, fun none => ?_⟩
  rw [flow] at none
  exact (grows (k + 1) (by have := h.2 none; rwa [Nat.add_right_comm])).1

/-- The first evaluation of the drive may defer its start. -/
theorem evaluateDrive_oneMore (h : Fits (k + 1) s) : OneMore k (evaluateDrive s) := by
  rcases evaluateDrive_grows_once s with none | ⟨one, deferred⟩
  · have fits := (none (k + 1) h).1
    exact ⟨fits.mono (by omega), fun _ => fits⟩
  · exact ⟨(one k h).1, fun none => absurd none deferred⟩

/-- The next one has the room for it. -/
theorem OneMore.drive (h : OneMore k s) : Fits k (evaluateDrive s) := by
  by_cases asked : s.flow.driveLimiter.deferred = none
  · exact (evaluateDrive_grows s k (h.2 asked)).1
  · exact (evaluateDrive_grows_none (.inr asked) k h.1).1

/-! ### The frames of a close -/

theorem bagEntered_link (disposition : Nat) (b : Bag) (s : State) :
    (bagEntered disposition b s).link = (bagTold b s).link := rfl

theorem bagEntered_grows (disposition : Nat) (b : Bag) (s : State) : Grows 1 s (bagEntered disposition b s) :=
  (bagTold_grows b s).trans (Grows.of_link (s := bagTold b s) (t := bagEntered disposition b s) rfl rfl)

theorem bagEntered_mode (disposition : Nat) (b : Bag) (s : State) : (bagEntered disposition b s).mode = s.mode :=
  (bagTold_leaves b s).mode

theorem bagEntered_flow (disposition : Nat) (b : Bag) (s : State) : (bagEntered disposition b s).flow = s.flow :=
  (bagTold_leaves b s).flow

theorem bagEntered_carries {disposition : Nat} {b : Bag} (room : Fits 1 s) :
    Carries (eventOf s 13 b.number (nextTag s).toNat) (bagEntered disposition b s) := bagTold_carries room

/-- What holds of the records of an examination holds after the drive's evaluation. -/
theorem rests_drive (h : ∀ r ∈ s.tracking.zone, Rests s r) :
    ∀ r ∈ (evaluateDrive s).tracking.zone, Rests (evaluateDrive s) r := by
  intro r hr
  rw [evaluateDrive_tracking] at hr
  have tended := tended_of_blocks (evaluateDrive_blocks s)
  exact (h r hr).congr tended.station tended.neighbours tended.mode

/-- A bag's close in an empty zone: its EVENT, at most one handover and the drive's EVENT. -/
theorem closeBag_first {disposition n : Nat} {b : Bag} (zone : s.tracking.zone = []) (alone : s.arrivals = [])
    (room : Fits (n + (if s.mode = .walking then 2 else 3)) s) :
    OneMore n (closeBag disposition b s)
      ∧ Carries (eventOf s 13 b.number (nextTag s).toNat) (closeBag disposition b s)
      ∧ ∀ r ∈ (closeBag disposition b s).tracking.zone, Rests (closeBag disposition b s) r := by
  have free : s.zoneHolds (nextTag s) = false := by
    unfold State.zoneHolds
    rw [zone]
    rfl
  rw [closeBag_eq free alone (by rw [zone]; decide), examineZone_handed]
  have grows := bagEntered_grows disposition b s
  have carries := bagEntered_carries (disposition := disposition) (b := b) (s := s) (room.mono (by split <;> omega))
  have mode := bagEntered_mode disposition b s
  have entered : (bagEntered disposition b s).tracking.zone
      = [] ++ [closedBag s s.tracking.tagSeq b.lot b.mass disposition] := by
    show insertByHead _ s.tracking.zone = _
    rw [zone]
    rfl
  generalize bagEntered disposition b s = e at grows carries mode entered
  have fits : Fits (n + 1 + (if e.mode = .walking then 0 else 1)) e := by
    refine (grows _ ?_).1
    rw [mode]
    exact room.mono (by split <;> omega)
  have hands := handed_grows entered (fun x hx => absurd hx List.not_mem_nil)
  have rests := handed_rests (s := e) (fits.mono (by rw [entered]; show 1 ≤ _; omega))
  obtain ⟨fits', keep⟩ := hands _ fits
  generalize handed e = w at rests fits' keep
  have drive := evaluateDrive_keeps w fits'.awake fits'.loud
  exact ⟨evaluateDrive_oneMore fits', drive.2.2 _ rfl (keep _ rfl carries), rests_drive rests⟩

/-- A bag's close behind a bag at the same place, of which no handover is due. -/
theorem closeBag_second {disposition n : Nat} {b : Bag} {x : UnitRecord} (zone : s.tracking.zone = [x])
    (head : x.head = s.bagPoint + s.bagPitch) (rests : Rests s x) (free : s.zoneHolds (nextTag s) = false)
    (alone : s.arrivals = []) (room : OneMore (n + 2) s) :
    Fits n (closeBag disposition b s)
      ∧ Carries (eventOf s 13 b.number (nextTag s).toNat) (closeBag disposition b s)
      ∧ (∀ f, mergingKind f.kind = false → Carries f s → Carries f (closeBag disposition b s))
      ∧ (1 ≤ n → ∀ r ∈ (closeBag disposition b s).tracking.zone, Rests (closeBag disposition b s) r) := by
  rw [closeBag_eq free alone (by rw [zone]; exact Nat.lt_of_sub_pos (Nat.succ_pos 22)), examineZone_handed]
  have grows := bagEntered_grows disposition b s
  have carries := bagEntered_carries (disposition := disposition) (b := b) (s := s) (room.1.mono (by omega))
  have told := bagTold_leaves b s
  have stays : Rests (bagEntered disposition b s) x :=
    rests.congr told.station (congrArg (·.neighbours) told.peer) told.mode
  have flow := bagEntered_flow disposition b s
  have entered : (bagEntered disposition b s).tracking.zone
      = [x] ++ [closedBag s s.tracking.tagSeq b.lot b.mass disposition] := by
    show insertByHead _ s.tracking.zone = _
    rw [zone]
    exact if_pos (Nat.le_of_eq head.symm)
  generalize bagEntered disposition b s = e at grows carries flow stays entered
  have more : OneMore (n + 1) e := OneMore.grows (j := 1) room grows flow
  have hands := (handed_grows entered fun y hy => by
    rw [List.mem_singleton.1 hy]
    exact ⟨head, stays⟩).mono (k := 1) (by split <;> omega)
  have rest := fun h => handed_rests (s := e) (more.1.mono h)
  obtain ⟨-, keep⟩ := hands n more.1
  have last : OneMore n (handed e) := OneMore.grows (j := 1) more hands (handed_leaves e).2
  rw [entered] at rest
  generalize handed e = w at rest keep last
  have drive := evaluateDrive_keeps w last.1.awake last.1.loud
  exact ⟨last.drive, drive.2.2 _ rfl (keep _ rfl carries),
    fun f kind c => drive.2.2 f kind (keep f kind ((grows (n + 1) room.1).2 f kind c)),
    fun one => rests_drive (rest (by show 2 ≤ _; omega))⟩

end Sys2Proof.Bags


/-! PROOFS. A segment's material in a bag of its lot, and after a bag of another (R176, R177). -/

namespace Sys2Proof.Bags

open Sys2Proof Sys2Proof.Machine Sys2Proof.Safety Sys2Proof.Laws Sys2Proof.Room Sys2Proof.Fitting Sys2Proof.Counting
  Sys2Proof.Moves Sys2Proof.Zone Sys2Proof.Postures Sys2Proof.Turns Sys2Proof.Alone

/-! ### The profile's values -/

variable {s t : State} {u : UnitRecord} {b : Bag}

theorem bagTarget_station (h : t.station = s.station) : t.bagTarget = s.bagTarget :=
  congrArg (fun station => ({ s with station := station } : State).bagTarget) h

theorem bagDisposition_station (h : t.station = s.station) (segment mass : Nat) :
    bagDisposition t segment mass = bagDisposition s segment mass :=
  congrArg (fun station => bagDisposition { s with station := station } segment mass) h

theorem closedBag_station (h : t.station = s.station) (seq lot mass disposition : Nat) :
    closedBag t seq lot mass disposition = closedBag s seq lot mass disposition :=
  congrArg (fun station => closedBag { s with station := station } seq lot mass disposition) h

theorem zoneHolds_empty (h : s.tracking.zone = []) (g : Tag) : s.zoneHolds g = false := by
  unfold State.zoneHolds
  rw [h]
  rfl

/-! ### After a bag of another lot -/

/-- The bag that a segment's material joins when a bag of another lot has closed. -/
def laterBag (u : UnitRecord) (s : State) : Bag := ⟨s.packing.nextBag, u.lot, min u.mass 65535⟩

theorem joinedBag_opened (u : UnitRecord) {v : State} (h : v.packing.nextBag = s.packing.nextBag) :
    joinedBag (openedBag u.lot v) u = laterBag u s := by
  unfold joinedBag openedBag laterBag
  rw [h]
  dsimp only
  rw [Nat.zero_add]

theorem otherLot_opens (zone : s.tracking.zone = []) (alone : s.arrivals = []) (bag : s.packing.openBag = some b)
    (lot : b.lot ≠ u.lot) :
    BagClosed 2 b s (closeBag 2 b s)
      ∧ bagSegment u s = joined (openedBag u.lot (closeBag 2 b s)) u (bagOpened u.lot (closeBag 2 b s)) := by
  have closed : BagClosed 2 b s (closeBag 2 b s) :=
    closeBag_closed (zoneHolds_empty zone _) alone (by rw [zone]; decide)
  exact ⟨closed, bagSegment_other bag lot (congrArg (·.openBag) closed.packing)⟩

/-- The segment's material leaves the new bag open. -/
theorem otherLot_stays (zone : s.tracking.zone = []) (alone : s.arrivals = []) (bag : s.packing.openBag = some b)
    (lot : b.lot ≠ u.lot) (good : u.disposition = 0) (below : min u.mass 65535 < s.bagTarget) :
    bagSegment u s = { bagOpened u.lot (closeBag 2 b s) with packing.openBag := some (laterBag u s) } := by
  obtain ⟨closed, eq⟩ := otherLot_opens zone alone bag lot
  have number : (closeBag 2 b s).packing.nextBag = s.packing.nextBag := congrArg (·.nextBag) closed.packing
  rw [eq, joined_open good]
  · rw [joinedBag_opened u number]
  · rw [bagTarget_station (s := s) (t := bagOpened u.lot (closeBag 2 b s)) closed.station, show (openedBag u.lot (closeBag 2 b s)).mass = 0 from rfl, Nat.zero_add]
    exact below

/-- The segment's material closes the new bag too. -/
theorem otherLot_closes (zone : s.tracking.zone = []) (alone : s.arrivals = []) (bag : s.packing.openBag = some b)
    (lot : b.lot ≠ u.lot) (closes : u.disposition ≠ 0 ∨ s.bagTarget ≤ min u.mass 65535) :
    bagSegment u s
      = closeBag (bagDisposition s u.disposition (min u.mass 65535)) (laterBag u s) (bagOpened u.lot (closeBag 2 b s)) := by
  obtain ⟨closed, eq⟩ := otherLot_opens zone alone bag lot
  have number : (closeBag 2 b s).packing.nextBag = s.packing.nextBag := congrArg (·.nextBag) closed.packing
  have mass : min ((openedBag u.lot (closeBag 2 b s)).mass + u.mass) 65535 = min u.mass 65535 := by
    rw [show (openedBag u.lot (closeBag 2 b s)).mass = 0 from rfl, Nat.zero_add]
  rw [eq, joined_closes, joinedBag_opened u number, mass, bagDisposition_station (s := s) (t := bagOpened u.lot (closeBag 2 b s)) closed.station]
  rw [bagTarget_station (s := s) (t := bagOpened u.lot (closeBag 2 b s)) closed.station, mass]
  exact closes

/-- The state in which the second bag closes. -/
theorem opened_leaves (closed : BagClosed 2 b s t) (zone : s.tracking.zone = []) (alone : s.arrivals = []) (lot : Nat) :
    (∃ x, (bagOpened lot t).tracking.zone = [x] ∧ x.head = s.bagPoint + s.bagPitch)
      ∧ (bagOpened lot t).zoneHolds (nextTag (bagOpened lot t)) = false
      ∧ (bagOpened lot t).arrivals = []
      ∧ nextTag (bagOpened lot t) = BitVec.ofNat 16 (2048 * s.station.number + (s.tracking.tagSeq + 1) % 2048) := by
  have free := closed_free closed zone
  have units := closed.zone
  rw [zone] at units
  obtain ⟨x, rest, list, same, none⟩ := sameUnits_cons units
  have only : t.tracking.zone = [x] := by rw [list, (sameUnits_nil none).1 rfl]
  refine ⟨⟨x, only, (withoutHandover_fields same).2.2.1⟩, free, closed.arrivals.trans alone, ?_⟩
  show BitVec.ofNat 16 (2048 * t.station.number + t.tracking.tagSeq) = _
  rw [closed.station, closed.tagSeq]

/-- What the second close leaves. -/
theorem otherLot_second (zone : s.tracking.zone = []) (alone : s.arrivals = []) (bag : s.packing.openBag = some b)
    (lot : b.lot ≠ u.lot) (closes : u.disposition ≠ 0 ∨ s.bagTarget ≤ min u.mass 65535) :
    (bagSegment u s).counters.bagsClosed = min (s.counters.bagsClosed + 2) 65535
      ∧ SameUnits
          [closedBag s s.tracking.tagSeq b.lot b.mass 2,
            closedBag s ((s.tracking.tagSeq + 1) % 2048) u.lot (min u.mass 65535)
              (bagDisposition s u.disposition (min u.mass 65535))]
          (bagSegment u s).tracking.zone := by
  rw [otherLot_closes zone alone bag lot closes]
  have closed := (otherLot_opens zone alone bag lot).1
  obtain ⟨⟨x, only, -⟩, free, alone', -⟩ := opened_leaves closed zone alone u.lot
  generalize closeBag 2 b s = v at closed only free alone'
  have second := closeBag_closed (disposition := bagDisposition s u.disposition (min u.mass 65535)) (b := laterBag u s)
    free alone' (by rw [only]; exact Nat.lt_of_sub_pos (Nat.succ_pos 22))
  have units := second.zone
  have counts : (bagOpened u.lot v).counters.bagsClosed = min (s.counters.bagsClosed + 1) 65535 := closed.bagsClosed
  have seq : (bagOpened u.lot v).tracking.tagSeq = (s.tracking.tagSeq + 1) % 2048 := closed.tagSeq
  have first : SameUnits [closedBag s s.tracking.tagSeq b.lot b.mass 2] (bagOpened u.lot v).tracking.zone := by
    have := closed.zone
    rw [zone] at this
    exact this
  rw [seq, closedBag_station (s := s) (t := bagOpened u.lot v) closed.station] at units
  refine ⟨?_, ?_⟩
  · rw [second.bagsClosed, counts]
    omega
  · refine sameUnits_trans ?_ units
    refine sameUnits_trans ?_ (sameUnits_insertByHead _ first)
    have order : insertByHead
        (closedBag s ((s.tracking.tagSeq + 1) % 2048) (laterBag u s).lot (laterBag u s).mass
          (bagDisposition s u.disposition (min u.mass 65535)))
        [closedBag s s.tracking.tagSeq b.lot b.mass 2]
        = [closedBag s s.tracking.tagSeq b.lot b.mass 2,
            closedBag s ((s.tracking.tagSeq + 1) % 2048) (laterBag u s).lot (laterBag u s).mass
              (bagDisposition s u.disposition (min u.mass 65535))] := if_pos (Nat.le_refl _)
    rw [order]
    exact sameUnits_refl _

/-! ### The frames -/

/-- The EVENTs of one close or of two in an empty zone, and what they leave (R177). -/
structure Told (n : Nat) (s : State) (b : Bag) (t : State) : Prop where
  room : Fits n t
  carries : Carries (eventOf s 13 b.number (nextTag s).toNat) t
  rests : 1 ≤ n → ∀ r ∈ t.tracking.zone, Rests t r

theorem sameLot_told {n : Nat} (zone : s.tracking.zone = []) (alone : s.arrivals = [])
    (bag : s.packing.openBag = some b) (lot : b.lot = u.lot)
    (closes : u.disposition ≠ 0 ∨ s.bagTarget ≤ min (b.mass + u.mass) 65535)
    (room : Fits (n + (if s.mode = .walking then 2 else 3)) s) : Told n s b (bagSegment u s) := by
  rw [bagSegment_joins bag lot, joined_closes closes]
  obtain ⟨more, carries, rests⟩ := closeBag_first
    (disposition := bagDisposition s u.disposition (min (b.mass + u.mass) 65535)) (b := joinedBag b u) zone alone room
  exact ⟨more.1, carries, fun _ => rests⟩

theorem otherLot_told {n : Nat} (zone : s.tracking.zone = []) (alone : s.arrivals = [])
    (bag : s.packing.openBag = some b) (lot : b.lot ≠ u.lot)
    (room : Fits (n + 2 + (if s.mode = .walking then 2 else 3)) s) :
    Told n s b (bagSegment u s)
      ∧ (u.disposition ≠ 0 ∨ s.bagTarget ≤ min u.mass 65535 →
          Carries (eventOf s 13 s.packing.nextBag
            (BitVec.ofNat 16 (2048 * s.station.number + (s.tracking.tagSeq + 1) % 2048)).toNat) (bagSegment u s)) := by
  obtain ⟨more, carries, rests⟩ := closeBag_first (disposition := 2) (b := b) zone alone room
  have closed := (otherLot_opens zone alone bag lot).1
  by_cases stays : u.disposition = 0 ∧ min u.mass 65535 < s.bagTarget
  · rw [otherLot_stays zone alone bag lot stays.1 stays.2]
    refine ⟨⟨⟨more.1.awake, more.1.loud, ?_⟩, carries, fun _ r hr => (rests r hr).congr rfl rfl rfl⟩, fun closes => ?_⟩
    · have := more.1.room
      show (closeBag 2 b s).link.txq.length + n ≤ 8
      omega
    · have := stays.2
      rcases closes with bad | full
      · exact absurd stays.1 bad
      · omega
  · have closes : u.disposition ≠ 0 ∨ s.bagTarget ≤ min u.mass 65535 := by omega
    rw [otherLot_closes zone alone bag lot closes]
    obtain ⟨⟨x, only, head⟩, free, alone', tag⟩ := opened_leaves closed zone alone u.lot
    generalize closeBag 2 b s = v at more carries rests closed only free alone' tag ⊢
    have station : (bagOpened u.lot v).station = s.station := closed.station
    have rest : Rests (bagOpened u.lot v) x := by
      have there : x ∈ v.tracking.zone := by
        rw [show v.tracking.zone = [x] from only]
        exact List.mem_singleton_self x
      exact (rests x there).congr rfl rfl rfl
    have more' : OneMore (n + 2) (bagOpened u.lot v) :=
      ⟨⟨more.1.awake, more.1.loud, more.1.room⟩, fun none => ⟨more.1.awake, more.1.loud, (more.2 none).room⟩⟩
    have carried : Carries (eventOf s 13 b.number (nextTag s).toNat) (bagOpened u.lot v) := carries
    generalize bagOpened u.lot v = o at only free alone' tag station rest more' carried ⊢
    have point : o.bagPoint = s.bagPoint := congrArg (fun station => ({ s with station := station } : State).bagPoint) station
    have pitch : o.bagPitch = s.bagPitch := congrArg (fun station => ({ s with station := station } : State).bagPitch) station
    obtain ⟨fits, second, keep, rests'⟩ := closeBag_second
      (disposition := bagDisposition s u.disposition (min u.mass 65535)) (b := laterBag u s)
      only (by rw [point, pitch]; exact head) rest free alone' more'
    rw [eventOf_station station, tag] at second
    exact ⟨⟨fits, keep _ rfl carried, rests'⟩, fun _ => second⟩

end Sys2Proof.Bags


/-! PROOFS. A change of the counts at a station without a door, and the packing of equal bags (R176, R177). -/

namespace Sys2Proof.Bags

open Sys2Proof Sys2Proof.Machine Sys2Proof.Safety Sys2Proof.Laws Sys2Proof.Room Sys2Proof.Fitting Sys2Proof.Counting
  Sys2Proof.Moves Sys2Proof.Zone Sys2Proof.Postures Sys2Proof.Turns Sys2Proof.Alone

variable {s t : State}

/-! ### The packing lists at a change of the counts -/

theorem flowResponded_packing (h : FlowResponded s t) : t.packing = s.packing := by
  have e := congrArg (·.packing) h.1
  exact e

theorem framesQueued_packing (h : FramesQueued s t) : t.packing = s.packing := by
  have e := congrArg (·.packing) h.1
  exact e

theorem refreshReasons_packing (s : State) : (refreshReasons s).packing = s.packing :=
  flowResponded_packing (setReasons_flow _ s)

theorem startDueCycle_packing (s : State) : (startDueCycle s).packing = s.packing := by
  unfold startDueCycle
  split
  · split <;> rfl
  · rfl

theorem defrostTest_packing (s : State) : (defrostTest s).packing = s.packing := by
  unfold defrostTest
  dsimp only
  split
  · exact startDueCycle_packing s
  · rw [framesQueued_packing (queueStatus_framesQueued _), refreshReasons_packing, startDueCycle_packing]

theorem queueChanged_packing (c : Nat × Nat) (s : State) : (queueChanged c s).packing = s.packing := by
  have reported : (reportCounts c (evaluateDrive (evaluateLevel s))).packing = s.packing := by
    rw [framesQueued_packing (reportCounts_framesQueued c _), Doors.evaluateDrive_packing]
    exact flowResponded_packing (setReasons_flow _ s)
  unfold queueChanged testEmptied
  split
  · rw [defrostTest_packing, reported]
  · exact reported

/-- The end of a drain asks for no door at a station that has none. -/
theorem respondToReady_packing (ready : s.mode = .ready) (unforming : s.formingNow = false)
    (doorless : s.hasRole .transfer = false) : (respondToState .draining s).packing = s.packing := by
  have closed : closeForming enterRecord queueChanged id s = s := closeForming_none _ _ _ unforming
  have stay : stateAborts (discardWalk .draining s) = s := by
    have walk : discardWalk .draining s = s := if_neg fun both => nomatch both.1
    rw [walk]
    unfold stateAborts
    rw [ready]
    rfl
  have eq : respondToState .draining s = queueStatus (doorTest (defrostTest (evaluateDrive (refreshReasons s)))) := by
    unfold respondToState
    dsimp only
    rw [closed, ite_self, stay]
  have blocks : BlocksResponded s (defrostTest (evaluateDrive (refreshReasons s))) :=
    blocksResponded_trans (refreshReasons_blocks s) (blocksResponded_trans (evaluateDrive_blocks _) (defrostTest_blocks _))
  have door : doorTest (defrostTest (evaluateDrive (refreshReasons s))) = defrostTest (evaluateDrive (refreshReasons s)) := by
    unfold doorTest
    rw [hasRole_station (blocksResponded_station blocks), doorless]
    rfl
  rw [eq, framesQueued_packing (queueStatus_framesQueued _), door, defrostTest_packing, Doors.evaluateDrive_packing,
    refreshReasons_packing]

theorem zoneChanged_packing (c : Nat × Nat) (unforming : s.formingNow = false) (doorless : s.hasRole .transfer = false) :
    (zoneChanged c s).packing = s.packing := by
  have blocks := queueChanged_blocks c s
  have still : (queueChanged c s).formingNow = false := by
    unfold State.formingNow
    rw [blocksResponded_mergeBound blocks, sameUnits_forming blocks.2.1]
    exact unforming
  have role : (queueChanged c s).hasRole .transfer = false := by
    rw [hasRole_station (blocksResponded_station blocks), doorless]
  rw [← queueChanged_packing c s]
  unfold zoneChanged
  generalize queueChanged c s = u at still role
  unfold drainTest
  by_cases drains : (decide (u.mode = .draining) && drained u) = true
  · rw [if_pos drains]
    have draining : u.mode = .draining := of_decide_eq_true (Bool.and_eq_true_iff.1 drains).1
    have posture : changePosture u.mode { u with mode := .ready } = { u with mode := .ready } := by
      unfold changePosture
      rw [draining]
      rfl
    unfold enterState
    rw [posture, draining]
    exact respondToReady_packing (s := { u with mode := .ready }) rfl still role
  · rw [if_neg drains]

/-! ### The records at a change of the counts -/

/-- A frame that has room, or merges, brings no offer to rest. -/
theorem queueFrame_tracking_fits {f : Frame} (room : Fits 1 s) : (queueFrame f s).tracking = s.tracking := by
  cases hw : mergingKind f.kind && kindWaits f.kind s.link.txq with
  | true => rw [queueFrame_merges room.awake room.loud hw]
  | false => rw [queueFrame_accepts ⟨room.awake, room.loud, by have := room.room; omega, hw⟩]

theorem reportCounts_tracking (c : Nat × Nat) (s : State) : (reportCounts c s).tracking = s.tracking := by
  unfold reportCounts
  split
  · rfl
  · exact queueFrame_tracking (f := ownFrame .status 0 s.statusPayload s) nofun nofun s

/-- A change of the counts with room for its frames leaves the records as they are. -/
theorem counts_tracking (c : Nat × Nat) (room : Fits 2 s) :
    (reportCounts c (evaluateDrive (evaluateLevel s))).tracking = s.tracking := by
  rw [reportCounts_tracking, evaluateDrive_tracking]
  unfold evaluateLevel setReasons
  dsimp only
  split
  · rfl
  · have fits : Fits 2 { s with flow.reasons := s.reasonsInForce (levelAfter s) } := ⟨room.awake, room.loud, room.room⟩
    generalize hu : ({ s with flow.reasons := s.reasonsInForce (levelAfter s) } : State) = u at fits
    have told : Fits 1 (queueStatus u) := (queueFrame_grows _ u 1 fits).1
    have status : (queueStatus u).tracking = s.tracking := by
      rw [← hu]
      exact queueFrame_tracking (f := ownFrame .status 0 _ _) nofun nofun _
    have held : (queueHold (queueStatus u)).tracking = (queueStatus u).tracking := by
      unfold queueHold
      split
      · rfl
      · exact queueFrame_tracking_fits told
    exact held.trans status

/-! ### Equal states pack equally -/

/-- `t` packs as `s` does. -/
structure Alike (s t : State) : Prop where
  zone : SameUnits s.tracking.zone t.tracking.zone
  tagSeq : t.tracking.tagSeq = s.tracking.tagSeq
  packing : t.packing = s.packing
  bagsClosed : t.counters.bagsClosed = s.counters.bagsClosed
  station : t.station = s.station
  arrivals : s.arrivals = []
  arrivals' : t.arrivals = []

theorem Alike.free (h : Alike s t) (free : s.zoneHolds (nextTag s) = false) : t.zoneHolds (nextTag t) = false := by
  rw [nextTag_same h.station h.tagSeq]
  refine Bool.eq_false_iff.2 fun holds => ?_
  obtain ⟨r, hr, tag⟩ := (zoneHolds_iff t _).1 holds
  have none : ∀ x ∈ s.tracking.zone, x.tag ≠ nextTag s := fun x hx same => by
    rw [(zoneHolds_iff s _).2 ⟨x, hx, same⟩] at free
    nomatch free
  refine sameUnits_forall (fun x y same ne => ?_) h.zone none r hr tag
  rw [(withoutHandover_fields same).1]
  exact ne

theorem closeBag_alike (h : Alike s t) (disposition : Nat) (b : Bag) (free : s.zoneHolds (nextTag s) = false)
    (room : s.tracking.zone.length < 24) : Alike (closeBag disposition b s) (closeBag disposition b t) := by
  have first := closeBag_closed (disposition := disposition) (b := b) free h.arrivals room
  have length : t.tracking.zone.length < 24 := by
    have := congrArg List.length h.zone
    rw [List.length_map, List.length_map] at this
    omega
  have second := closeBag_closed (disposition := disposition) (b := b) (h.free free) h.arrivals' length
  have units := second.zone
  rw [closedBag_station h.station, h.tagSeq] at units
  exact
    { zone := sameUnits_trans (a := (closeBag disposition b s).tracking.zone) (Eq.symm first.zone) (sameUnits_trans (sameUnits_insertByHead _ h.zone) units)
      tagSeq := by rw [first.tagSeq, second.tagSeq, h.tagSeq]
      packing := by rw [first.packing, second.packing, h.packing]
      bagsClosed := by rw [first.bagsClosed, second.bagsClosed, h.bagsClosed]
      station := second.station.trans (h.station.trans first.station.symm)
      arrivals := first.arrivals.trans h.arrivals
      arrivals' := second.arrivals.trans h.arrivals' }

theorem joined_alike (h : Alike s t) (b : Bag) (u : UnitRecord) (free : s.zoneHolds (nextTag s) = false)
    (room : s.tracking.zone.length < 24) : Alike (joined b u s) (joined b u t) := by
  by_cases stays : u.disposition = 0 ∧ min (b.mass + u.mass) 65535 < s.bagTarget
  · rw [joined_open stays.1 stays.2, joined_open stays.1 (by rw [bagTarget_station h.station]; exact stays.2)]
    have packing := congrArg (fun p : Packing => { p with openBag := some (joinedBag b u) }) h.packing
    exact ⟨h.zone, h.tagSeq, packing, h.bagsClosed, h.station, h.arrivals, h.arrivals'⟩
  · have closes : u.disposition ≠ 0 ∨ s.bagTarget ≤ min (b.mass + u.mass) 65535 := by omega
    rw [joined_closes closes, joined_closes (by rw [bagTarget_station h.station]; exact closes),
      bagDisposition_station h.station]
    exact closeBag_alike h _ _ free room

theorem bagOpened_alike (h : Alike s t) (lot : Nat) :
    openedBag lot t = openedBag lot s ∧ Alike (bagOpened lot s) (bagOpened lot t) := by
  have same : openedBag lot t = openedBag lot s := by unfold openedBag; rw [h.packing]
  have packing : (bagOpened lot t).packing = (bagOpened lot s).packing := by
    unfold bagOpened
    rw [same, h.packing]
  exact ⟨same, h.zone, h.tagSeq, packing, h.bagsClosed, h.station, h.arrivals, h.arrivals'⟩

/-- A segment's material in bags, from an empty zone. -/
theorem bagSegment_alike (h : Alike s t) (u : UnitRecord) (zone : s.tracking.zone = []) :
    Alike (bagSegment u s) (bagSegment u t) := by
  have zone' := (sameUnits_nil h.zone).1 zone
  have free := zoneHolds_empty zone (nextTag s)
  have few : s.tracking.zone.length < 24 := by rw [zone]; decide
  cases bag : s.packing.openBag with
  | none =>
    obtain ⟨same, opened⟩ := bagOpened_alike h u.lot
    rw [bagSegment_opens bag, bagSegment_opens (by rw [h.packing]; exact bag), same]
    exact joined_alike opened _ u free few
  | some b =>
    have bag' : t.packing.openBag = some b := by rw [h.packing]; exact bag
    by_cases lot : b.lot = u.lot
    · rw [bagSegment_joins bag lot, bagSegment_joins bag' lot]
      exact joined_alike h b u free few
    · obtain ⟨closed, eq⟩ := otherLot_opens zone h.arrivals bag lot
      obtain ⟨-, eq'⟩ := otherLot_opens zone' h.arrivals' bag' lot
      have after := closeBag_alike h 2 b free few
      obtain ⟨⟨x, only, -⟩, free', -, -⟩ := opened_leaves closed zone h.arrivals u.lot
      obtain ⟨same, opened⟩ := bagOpened_alike after u.lot
      rw [eq, eq', same]
      exact joined_alike opened _ u free' (by rw [only]; exact Nat.lt_of_sub_pos (Nat.succ_pos 22))

/-! ### What packing leaves -/

/-- A record as a bag's close makes it. -/
def BagAt (point : Nat) (r : UnitRecord) : Prop := r.forming = false ∧ r.tail = (point : Int)

/-- `t` is `s` after bags closed. -/
structure Packed (s t : State) : Prop where
  mergeBound : t.tracking.mergeBound = s.tracking.mergeBound
  station : t.station = s.station
  mode : t.mode = s.mode
  arrivals : t.arrivals = s.arrivals
  neighbours : t.peer.neighbours = s.peer.neighbours
  bags : (∀ r ∈ s.tracking.zone, BagAt s.bagPoint r) → ∀ r ∈ t.tracking.zone, BagAt s.bagPoint r

theorem mem_insertByHead {r x : UnitRecord} {zone : List UnitRecord} (h : x ∈ insertByHead r zone) : x = r ∨ x ∈ zone := by
  induction zone with
  | nil => exact .inl (List.mem_singleton.1 h)
  | cons y zone ih =>
    unfold insertByHead at h
    split at h
    · rcases List.mem_cons.1 h with rfl | h
      · exact .inr List.mem_cons_self
      · exact (ih h).imp id (List.mem_cons_of_mem y)
    · exact List.mem_cons.1 h

theorem BagClosed.packed {disposition : Nat} {b : Bag} (h : BagClosed disposition b s t) : Packed s t where
  mergeBound := h.mergeBound
  station := h.station
  mode := h.mode
  arrivals := h.arrivals
  neighbours := h.neighbours
  bags all := by
    refine sameUnits_forall (fun x y same at' => ?_) h.zone fun r hr => ?_
    · obtain ⟨-, -, -, tail, forming⟩ := withoutHandover_fields same
      exact ⟨forming.trans at'.1, tail.trans at'.2⟩
    · rcases mem_insertByHead hr with rfl | hr
      · refine ⟨rfl, ?_⟩
        show ((s.bagPoint + s.bagPitch : Nat) : Int) - (s.bagPitch : Nat) = _
        omega
      · exact all r hr

theorem joined_packed (b : Bag) (u : UnitRecord) (free : s.zoneHolds (nextTag s) = false) (alone : s.arrivals = [])
    (room : s.tracking.zone.length < 24) : Packed s (joined b u s) := by
  unfold joined
  split
  · exact ⟨rfl, rfl, rfl, rfl, rfl, id⟩
  · exact (closeBag_closed free alone room).packed

theorem bagSegment_packed (u : UnitRecord) (zone : s.tracking.zone = []) (alone : s.arrivals = []) :
    Packed s (bagSegment u s) := by
  have free := zoneHolds_empty zone (nextTag s)
  have few : s.tracking.zone.length < 24 := by rw [zone]; decide
  have opens : ∀ v lot, Packed (bagOpened lot v) (joined (openedBag lot v) u (bagOpened lot v)) →
      Packed v (joined (openedBag lot v) u (bagOpened lot v)) := fun _ _ h =>
    ⟨h.mergeBound, h.station, h.mode, h.arrivals, h.neighbours, h.bags⟩
  cases bag : s.packing.openBag with
  | none =>
    rw [bagSegment_opens bag]
    exact opens s u.lot (joined_packed _ u free alone few)
  | some b =>
    by_cases lot : b.lot = u.lot
    · rw [bagSegment_joins bag lot]
      exact joined_packed b u free alone few
    · obtain ⟨closed, eq⟩ := otherLot_opens zone alone bag lot
      obtain ⟨⟨x, only, -⟩, free', alone', -⟩ := opened_leaves closed zone alone u.lot
      have second := opens _ u.lot
        (joined_packed (openedBag u.lot (closeBag 2 b s)) u free' alone' (by rw [only]; exact Nat.lt_of_sub_pos (Nat.succ_pos 22)))
      have first := closed.packed
      rw [eq]
      have point : (closeBag 2 b s).bagPoint = s.bagPoint :=
        congrArg (fun station => ({ s with station := station } : State).bagPoint) first.station
      have bags := second.bags
      rw [point] at bags
      exact ⟨second.mergeBound.trans first.mergeBound, second.station.trans first.station, second.mode.trans first.mode,
        second.arrivals.trans first.arrivals, second.neighbours.trans first.neighbours, fun all => bags (first.bags all)⟩

end Sys2Proof.Bags


/-! PROOFS. A segment's material in bags, and the count that brings a segment to the bag point, settled (R175 to R177). -/

namespace Sys2Proof.Bags

open Sys2Proof Sys2Proof.Machine Sys2Proof.Safety Sys2Proof.Laws Sys2Proof.Room Sys2Proof.Fitting Sys2Proof.Counting
  Sys2Proof.Moves Sys2Proof.Zone Sys2Proof.Postures Sys2Proof.Turns Sys2Proof.Alone

variable {s v : State} {u : UnitRecord}

/-! ### The count -/

theorem bagPoint_due (role : s.hasRole .bag = true) (kind : u.kind = .segment) (there : u.tail + 1 = (s.bagPoint : Int)) :
    packingDue s (advanced u) = true := by
  unfold packingDue
  rw [role, Doors.advanced_tail, there, show (advanced u).kind = .segment from kind]
  simp

/-- The record at the bag point is consumed (R175). -/
theorem packRecord_bag {a : UnitRecord} (judged : Judged s v a) (role : s.hasRole .bag = true) (kind : a.kind = .segment) :
    packRecord v a.tag = zoneChanged v.counts (bagSegment a { v with tracking.zone := [] }) := by
  have bag : v.hasRole .bag = true := by rw [hasRole_station judged.station, role]
  unfold packRecord
  rw [findRecord_alone judged.zone]
  dsimp only
  rw [bag, kind]
  unfold consumeSegment
  rw [← dropRecord_alone judged.zone]
  rfl

/-- The material of a record that has moved is that of the record. -/
theorem bagSegment_advanced (u : UnitRecord) (s : State) : bagSegment (advanced u) s = bagSegment u s := rfl

/-- The zone without its one record packs as before the count. -/
theorem judged_alike {a : UnitRecord} (judged : Judged s v a) (alone : s.arrivals = []) :
    Alike { s with tracking.zone := [] } { v with tracking.zone := [] } :=
  ⟨rfl, judged.tagSeq, judged.packing, judged.bagsClosed, judged.station, alone, judged.arrivals⟩

theorem packed_unforming {t : State} (free : s.tracking.mergeBound = none) (empty : s.tracking.zone = [])
    (packed : Packed s t) : t.formingNow = false ∧ ∀ r ∈ t.tracking.zone, BagAt s.bagPoint r := by
  have bags := packed.bags fun r hr => by rw [empty] at hr; nomatch hr
  refine ⟨?_, bags⟩
  unfold State.formingNow
  rw [packed.mergeBound, free]
  exact List.any_eq_false.2 fun r hr => by rw [(bags r hr).1]; nofun

/-- The frames of a count with the sensor OFF, up to the verdicts (R56, R59). -/
theorem walked_grows (s : State) : Grows (if s.mode = .walking then 1 else 0) s (walked false s) := by
  have moves : Grows 0 s (moved false s) := .of_link (moved_link false s) (by rw [moved_eq])
  have mode : (moved false s).mode = s.mode := by rw [moved_eq]
  refine (moves.trans (k := if s.mode = .walking then 1 else 0) ?_).mono (by omega)
  unfold walked walkStep
  rw [← mode]
  generalize moved false s = m
  cases walk : m.peer.walk with
  | none => exact (Grows.refl m).mono (Nat.zero_le _)
  | some w =>
    dsimp only
    by_cases walking : m.mode = .walking
    · rw [if_neg (fun other : m.mode ≠ .walking => other walking), if_pos walking,
        if_neg (show ¬ walkEdge false w = true by unfold walkEdge; simp)]
      have written : Grows 0 m { m with peer.walk := some (walkAdvance false w) } := .of_link rfl rfl
      refine (written.trans (k := 1) ?_).mono (by omega)
      unfold queueWalkPass
      split
      · split
        · exact (queueFrame_grows _ _).congr rfl rfl
        · exact (Grows.refl _).mono (by omega)
      · exact (Grows.refl _).mono (by omega)
    · rw [if_pos walking, if_neg walking]
      exact Grows.refl m

/-- What follows the packing of a segment's material: a change of the counts, and an examination. -/
theorem packed_rest {z : State} (packed : Packed { v with tracking.zone := [] } z) (free : v.tracking.mergeBound = none)
    (alone : v.arrivals = []) (role : v.hasRole .bag = true) (inside : z.tracking.zone = [] ∨ v.bagPoint < v.zoneLength)
    (c : Nat × Nat) :
    handoverTurn (removeAtZoneEnd (zoneChanged c z)) = examineZone (zoneChanged c z)
      ∧ (examineZone (zoneChanged c z)).packing = z.packing
      ∧ (examineZone (zoneChanged c z)).counters.bagsClosed = z.counters.bagsClosed
      ∧ SameUnits z.tracking.zone (examineZone (zoneChanged c z)).tracking.zone := by
  obtain ⟨unforming, bags⟩ := packed_unforming (s := { v with tracking.zone := [] }) free rfl packed
  obtain ⟨zone, -, arrivals, counters, -, station⟩ := zoneChanged_leaves c unforming
  have doorless : z.hasRole .transfer = false :=
    Dose.hasRole_other (a := .bag) (b := .transfer) (by rw [hasRole_station packed.station]; exact role) nofun
  have packing := zoneChanged_packing c unforming doorless
  have counts := congrArg (·.bagsClosed) counters
  have point : ({ v with tracking.zone := [] } : State).bagPoint = v.bagPoint := rfl
  have within : ∀ r ∈ (zoneChanged c z).tracking.zone, r.tail < ((zoneChanged c z).zoneLength : Int) := by
    rw [zoneLength_station (station.trans packed.station), show ({ v with tracking.zone := [] } : State).zoneLength = v.zoneLength from rfl]
    refine sameUnits_forall (P := fun r => r.tail < (v.zoneLength : Int)) (fun x y same lt => ?_) zone fun r hr => ?_
    · rw [(withoutHandover_fields same).2.2.2.1]
      exact lt
    · rcases inside with empty | inside
      · rw [empty] at hr
        nomatch hr
      · rw [(bags r hr).2, point]
        omega
  have tended := examineZone_tended (zoneChanged c z)
  have counts' := congrArg (·.bagsClosed) tended.counters
  have expected : (zoneChanged c z).arrivals = [] := arrivals.trans (packed.arrivals.trans alone)
  refine ⟨?_, (examineZone_packing _).trans packing, counts'.trans counts, sameUnits_trans zone tended.zone⟩
  rw [removeAtZoneEnd_inside within, handoverTurn_alone expected]

/-- The EVENT of a bag's close stands through the rest of the count. -/
theorem told_rest {z : State} {b : Bag} (told : Told 2 s b z) (occupied : z.tracking.zone ≠ []) (c : Nat × Nat) :
    Carries (eventOf s 13 b.number (nextTag s).toNat) (examineZone (zoneChanged c z)) := by
  have carried := counts_carries c told.room rfl told.carries
  have tracking := counts_tracking c told.room
  have blocks : BlocksResponded z (reportCounts c (evaluateDrive (evaluateLevel z))) :=
    blocksResponded_trans (evaluateLevel_blocks z) (blocksResponded_trans (evaluateDrive_blocks _)
      (framesQueued_blocks (reportCounts_framesQueued c _)))
  have tended := tended_of_blocks blocks
  have awake : (reportCounts c (evaluateDrive (evaluateLevel z))).mode ≠ .quiet := by
    rw [tended.mode]
    exact told.room.awake
  have loud : (reportCounts c (evaluateDrive (evaluateLevel z))).link.silencing = false := by
    have e := congrArg (·.link.silencing) blocks.1
    exact e.trans told.room.loud
  rw [queueChanged_occupied c occupied, examineZone_handed]
  generalize reportCounts c (evaluateDrive (evaluateLevel z)) = w at carried tracking tended awake loud
  have rests : ∀ r ∈ w.tracking.zone, Rests w r := fun r hr => by
    rw [tracking] at hr
    exact (told.rests (by decide) r hr).congr tended.station tended.neighbours tended.mode
  rw [handed_resting rests]
  exact (evaluateDrive_keeps w awake loud).2.2 _ rfl carried

/-- A segment's material closes a bag, from an empty zone. -/
theorem bagSegment_told {n : Nat} {b : Bag} (zone : s.tracking.zone = []) (alone : s.arrivals = [])
    (bag : s.packing.openBag = some b)
    (closes : b.lot ≠ u.lot ∨ u.disposition ≠ 0 ∨ s.bagTarget ≤ min (b.mass + u.mass) 65535)
    (room : Fits (n + 2 + (if s.mode = .walking then 2 else 3)) s) : Told n s b (bagSegment u s) := by
  by_cases lot : b.lot = u.lot
  · exact sameLot_told zone alone bag lot (closes.resolve_left (absurd lot)) (room.mono (by split <;> omega))
  · exact (otherLot_told zone alone bag lot room).1

/-- A bag that closes leaves a record. -/
theorem bagSegment_occupied {b : Bag} (zone : s.tracking.zone = []) (alone : s.arrivals = [])
    (bag : s.packing.openBag = some b)
    (closes : b.lot ≠ u.lot ∨ u.disposition ≠ 0 ∨ s.bagTarget ≤ min (b.mass + u.mass) 65535) :
    (bagSegment u s).tracking.zone ≠ [] := by
  intro empty
  have nonempty : ∀ (r : UnitRecord) (l : List UnitRecord), SameUnits (r :: l) (bagSegment u s).tracking.zone → False := by
    intro r l units
    have := (sameUnits_nil (Eq.symm units)).1 empty
    nomatch this
  by_cases lot : b.lot = u.lot
  · have closed := closeBag_closed (disposition := bagDisposition s u.disposition (min (b.mass + u.mass) 65535))
      (b := joinedBag b u) (zoneHolds_empty zone (nextTag s)) alone (by rw [zone]; decide)
    have units := closed.zone
    rw [← joined_closes (closes.resolve_left (absurd lot)), ← bagSegment_joins bag lot, zone] at units
    exact nonempty _ _ units
  · by_cases stays : u.disposition = 0 ∧ min u.mass 65535 < s.bagTarget
    · have units := (otherLot_opens zone alone bag lot).1.zone
      rw [otherLot_stays zone alone bag lot stays.1 stays.2] at nonempty
      rw [zone] at units
      exact nonempty _ _ units
    · exact nonempty _ _ (otherLot_second zone alone bag lot (by omega)).2

/-- A segment's material that closes no bag. -/
theorem bagSegment_stays {b : Bag}
    (bag : (s.packing.openBag = some b ∧ b.lot = u.lot) ∨ (s.packing.openBag = none ∧ b = ⟨s.packing.nextBag, u.lot, 0⟩))
    (good : u.disposition = 0) (below : min (b.mass + u.mass) 65535 < s.bagTarget) :
    (bagSegment u s).tracking = s.tracking
      ∧ (bagSegment u s).packing
          = { s.packing with
              openBag := some { b with mass := min (b.mass + u.mass) 65535 }
              nextBag := if s.packing.openBag = none then (s.packing.nextBag + 1) % 65536 else s.packing.nextBag } := by
  rcases bag with ⟨bag, lot⟩ | ⟨none, rfl⟩
  · rw [bagSegment_joins bag lot, joined_open good below, if_neg (by rw [bag]; nofun)]
    exact ⟨rfl, rfl⟩
  · rw [bagSegment_opens none, joined_open (s := bagOpened u.lot s) (b := openedBag u.lot s) good below, if_pos none]
    exact ⟨rfl, rfl⟩

/-- The count that brings a segment alone in the zone to the bag point: its row, and what it leaves (R175). -/
theorem next_bagged (role : s.hasRole .bag = true) (loud : s.mode ≠ .quiet) (paid : s.tracking.reverseDebt = 0)
    (windows : ∀ ch, ch < 6 → removingWindow s ch = false) (judged : Judged s v (advanced u))
    (eq : counted false s = handoverTurn (removeAtZoneEnd (divertAndPack v))) (kind : u.kind = .segment)
    (there : u.tail + 1 = (s.bagPoint : Int))
    (inside : (bagSegment u { v with tracking.zone := [] }).tracking.zone = [] ∨ s.bagPoint < s.zoneLength) :
    ∃ t, Next (.forwardCount false) s t
      ∧ t = settle (examineZone (zoneChanged v.counts (bagSegment u { v with tracking.zone := [] })))
      ∧ t.packing = (bagSegment u { v with tracking.zone := [] }).packing
      ∧ t.counters.bagsClosed = (bagSegment u { v with tracking.zone := [] }).counters.bagsClosed
      ∧ SameUnits (bagSegment u { v with tracking.zone := [] }).tracking.zone t.tracking.zone := by
  have row := next_counted false (Changes.hasProfile_of_hasRole role) loud paid
  rw [eq, Doors.packs_alone judged windows (bagPoint_due role kind there), packRecord_bag judged role kind,
    bagSegment_advanced] at row
  have bag : v.hasRole .bag = true := by rw [hasRole_station judged.station, role]
  have point : v.bagPoint = s.bagPoint :=
    congrArg (fun station => ({ s with station := station } : State).bagPoint) judged.station
  have packed := bagSegment_packed (s := { v with tracking.zone := [] }) u rfl judged.arrivals
  obtain ⟨rest, packing, counts, units⟩ := packed_rest packed judged.free judged.arrivals bag
    (by rw [point, zoneLength_station judged.station]; exact inside) v.counts
  rw [rest] at row
  refine ⟨_, row, rfl, ?_⟩
  rw [settle_packing, settle_counters, settle_tracking]
  exact ⟨packing, counts, units⟩

/-- Settles O56: the five steps by the lot of the open bag, and the counts by the packing unit's turn. -/
theorem segmentsJoinBags : Obligations.SegmentsJoinBags := by
  unfold Obligations.SegmentsJoinBags
  refine ⟨fun s u b bag lot => ⟨fun good below => ?stays, fun closes => ?closes⟩,
    fun s u b bag lot zone alone _ => ⟨?numbers, fun loud quiet few => ?tells, fun good below => ?opens, fun closes => ?twice⟩,
    fun s u role loud paid alone free zone kind closed there inside windows => ?consumes,
    fun s u b role loud paid alone free zone kind closed there windows bag good below => ?joins⟩
  case stays =>
    rw [bagSegment_joins bag lot, joined_open good below]
    rfl
  case closes =>
    have eq := (bagSegment_joins bag lot).trans (joined_closes closes)
    obtain ⟨none, number, counts⟩ := closeBag_lists
      (bagDisposition s u.disposition (min (b.mass + u.mass) 65535)) (joinedBag b u) s
    rw [← eq] at none number counts
    refine ⟨none, number, counts, fun zone alone _ => ⟨?_, fun loud quiet few => ?_⟩⟩
    · have units := (closeBag_closed (disposition := bagDisposition s u.disposition (min (b.mass + u.mass) 65535))
        (b := joinedBag b u) (zoneHolds_empty zone (nextTag s)) alone (by rw [zone]; decide)).zone
      rw [← eq, zone] at units
      exact units
    · exact (sameLot_told (n := 0) zone alone bag lot closes ⟨loud, quiet, by split <;> omega⟩).carries
  case numbers =>
    have opened := otherLot_opens zone alone bag lot
    have number : (bagOpened u.lot (closeBag 2 b s)).packing.nextBag = (s.packing.nextBag + 1) % 65536 :=
      (congrArg (fun p : Packing => (p.nextBag + 1) % 65536) opened.1.packing :)
    by_cases stays : u.disposition = 0 ∧ min u.mass 65535 < s.bagTarget
    · rw [otherLot_stays zone alone bag lot stays.1 stays.2]
      exact number
    · rw [otherLot_closes zone alone bag lot (by omega)]
      exact (closeBag_lists _ _ _).2.1.trans number
  case tells =>
    exact (otherLot_told (n := 0) zone alone bag lot ⟨loud, quiet, by split <;> omega⟩).1.carries
  case opens =>
    have first := (otherLot_opens zone alone bag lot).1
    have units := first.zone
    rw [zone] at units
    rw [otherLot_stays zone alone bag lot good below]
    exact ⟨rfl, first.bagsClosed, units⟩
  case twice =>
    obtain ⟨counts, units⟩ := otherLot_second zone alone bag lot closes
    have tells := fun room => (otherLot_told (n := 0) zone alone bag lot room).2 closes
    refine ⟨?_, counts, units, fun loud quiet few => tells ⟨loud, quiet, by split <;> omega⟩⟩
    rw [otherLot_closes zone alone bag lot closes]
    exact (closeBag_lists _ _ _).1
  case consumes =>
    obtain ⟨judged, eq⟩ := Doors.judged_packing role (.inl rfl) zone closed alone free
    have walks := walked_grows s
    generalize walked false s = v at judged eq walks
    obtain ⟨t, row, settled, packing, counts, units⟩ := next_bagged role loud paid windows judged eq kind there (.inr inside)
    have alike := bagSegment_alike (judged_alike judged alone) u rfl
    refine ⟨t, row, packing.trans alike.packing, counts.trans alike.bagsClosed, sameUnits_trans alike.zone units,
      fun b bag' _ quiet few closes => ?_⟩
    have target : ({ v with tracking.zone := [] } : State).bagTarget = s.bagTarget := bagTarget_station judged.station
    have opened : ({ v with tracking.zone := [] } : State).packing.openBag = some b := by rw [← bag', ← judged.packing]
    rw [← target] at closes
    have room : Fits (2 + 2 + (if v.mode = .walking then 2 else 3)) v := by
      refine (walks _ ⟨loud, quiet, ?_⟩).1
      rw [judged.mode]
      split <;> omega
    have told : Told 2 { v with tracking.zone := [] } b (bagSegment u { v with tracking.zone := [] }) :=
      bagSegment_told rfl judged.arrivals opened closes ⟨room.awake, room.loud, room.room⟩
    have carried := told_rest told (bagSegment_occupied rfl judged.arrivals opened closes) v.counts
    have tag : nextTag ({ v with tracking.zone := [] } : State) = nextTag s := nextTag_same judged.station judged.tagSeq
    rw [eventOf_station (s := s) (t := { v with tracking.zone := [] }) judged.station, tag] at carried
    rw [settled]
    exact carries_settle carried
  case joins =>
    obtain ⟨judged, eq⟩ := Doors.judged_packing role (.inl rfl) zone closed alone free
    generalize walked false s = v at judged eq
    have target : ({ v with tracking.zone := [] } : State).bagTarget = s.bagTarget := bagTarget_station judged.station
    obtain ⟨tracking, lists⟩ := bagSegment_stays (s := { v with tracking.zone := [] }) (u := u) (b := b)
      (by show (v.packing.openBag = _ ∧ _) ∨ (v.packing.openBag = _ ∧ _); rw [judged.packing]; exact bag) good
      (by rw [target]; exact below)
    have empty : (bagSegment u { v with tracking.zone := [] }).tracking.zone = [] := congrArg (·.zone) tracking
    obtain ⟨t, row, -, packing, -, units⟩ := next_bagged role loud paid windows judged eq kind there (.inl empty)
    refine ⟨t, row, (sameUnits_nil units).1 empty, packing.trans (lists.trans ?_)⟩
    show ({ v.packing with openBag := _, nextBag := _ } : Packing) = _
    rw [judged.packing]

end Sys2Proof.Bags
